-- ==== Sys2Proof/Word.lean ====
section
/-! DEFINITION. The word and byte types of the block and the few names everything else is written with. -/

namespace Sys2Proof

/-- One byte of a stored or transmitted structure (00_scope R10). -/
abbrev Byte := BitVec 8

/-- One 32-bit register (00_scope, register access classes). -/
abbrev Word := BitVec 32

/-- A SHA-512/256 leaf or node digest (03 R91, R92). -/
abbrev D256 := BitVec 256

/-- A SHA-384 digest (03 R99, R104). -/
abbrev D384 := BitVec 384

/-- A guarded port, P0 to P31 (00_scope, signals and identifiers). -/
abbrev PortId := Fin 32

end Sys2Proof
end

