-- ==== Sys2Proof/Syntax.lean ====
section
/-! DEFINITION. The commands of the block: one constructor of `Instr` per row of spec/opcode_table.json, with the operands that reach the block from outside it. -/

namespace Sys2Proof

/-- The three images a port may hold on its real parts (07 R219). -/
inductive SlotId where
  | a | b | g
deriving DecidableEq, Repr

/-- The masters that may be elected owner (11 R373): head adapter 0, I3C master 14, tail adapter 15. -/
inductive Master where
  | m0 | m14 | m15
deriving DecidableEq, Repr

/-- The two Ecorn link ports (11, lanes). -/
inductive LinkId where
  | la | lb
deriving DecidableEq, Repr

/-- The four mailboxes (13, mailboxes). -/
inductive MbxId where
  | owner | obs0 | obs1 | obs2
deriving DecidableEq, Repr

/-- The SPDM transports (08 R266). -/
inductive Transport where
  | owner | obs0 | obs1 | obs2 | i3c
deriving DecidableEq, Repr

/-- What a NEGOTIATE_ALGORITHMS request offers, in the bit masks of DSP0274 (08 R269; log 92). -/
structure AlgOffer where
  measSpec : BitVec 8
  otherParams : BitVec 8
  asym : BitVec 32
  hash : BitVec 32
  dhe : BitVec 16
  aead : BitVec 16
  keySchedule : BitVec 16
deriving DecidableEq, Repr

/-- Final status of an engine operation and its outputs by offset (09 R310, R312). -/
abbrev PkeOut := Nat × List (Nat × List Byte)

/-- An SPDM request as DSP0274 lays it out, with the fields that reach the block (08 R268 to R276). -/
inductive SpdmReq where
  | version
  | capabilities (version dataTransferSize : Nat)
  | algorithms (offer : AlgOffer)
  | digests
  | certificate (slot offset length : Nat)
  | challenge (slot : Nat) (nonce : List Byte)
  | measurements (index : Nat) (sign : Bool) (nonce : List Byte)
  | keyExchange (slot : Nat) (exchange : List Byte)
  | finish (verifyData : List Byte)
  | endSession
  | chunkSend (seq : Nat) (last : Bool) (data : List Byte)
  | chunkGet (seq : Nat)
  | other (code : Byte)
deriving DecidableEq, Repr

/-- What the TAP sees before a SAMPLE/PRELOAD: nothing; TRST# driven low, or left unwired, and staying so; TRST# driven low and then high, with a scan of what that selects; or a scan under an instruction that the table gives no row: IDCODE, DBG_STAT with its close bit 0, or BYPASS (14 R467, 18 R538; DESIGN CHOICE log 130). -/
inductive TapFirst where
  | nothing | hold | reset | idcode | stat | bypass
deriving DecidableEq, Repr

/-- A use of SAMPLE/PRELOAD: the register is preloaded, or the balls are sampled (14 R467). -/
structure TapScan where
  load : Bool
  first : TapFirst := .nothing
deriving DecidableEq, Repr

/-- The flash bus modes in the bit order of the sluice MODES field (02 R30, 05 R159). -/
inductive BusMode where
  | s111 | s114 | s144 | s4s4d | s888 | d888
deriving DecidableEq, Repr

/-- What started a device reset (06 R206). -/
inductive DevCause where
  | alarm | command | supply
deriving DecidableEq, Repr

/-- What started a miller restart, in the order of SYS_RESET_CAUSE (12 R399). -/
inductive RestartCause where
  | command | watchdog | alarm
deriving DecidableEq, Repr

/-- How an action of one command on a memory word ends at the SEC-DED check (04 R127). -/
inductive Ecc where
  | ok | corrected | uncorrectable
deriving DecidableEq, Repr

/-- How the scrub pass's read of the tree store ends (04 R124, R127): an error in a port's entry corrected, the digest of the granule being scrubbed uncorrectable, or a leaf entry of a region uncorrectable. -/
inductive TreeRead where
  | ok
  | corrected (p : Fin 32)
  | digestLost
  | leafLost (p : Fin 32) (region : Nat)
deriving DecidableEq, Repr

/-- One erase type of a real part's BFPT (02 R51, 05 R160). -/
structure EraseType where
  log2 : Nat
  opcode : Byte
  typUs : Nat
deriving DecidableEq, Repr

/-- One command of a mode-entry sequence: its opcode and its address and data bytes (02 R60). -/
structure SeqCmd where
  op : Byte
  bytes : List Byte
deriving DecidableEq, Repr

/-- The second status register of profile S3 (02 R562, R564). -/
structure Sr2 where
  opcode : Byte
  progBit : Option Nat
  eraseBit : Option Nat
deriving DecidableEq, Repr

/-- BFPT DWORDs 12 and 13 beyond the latency of a program's suspend (02 R51): the erase's own latency where it differs, the intervals from a resume to the next suspend, the operations that a suspension forbids, and the opcodes. -/
structure SuspendInfo where
  eraseUs : Option Nat := none
  progIntervalUs : Nat := 0
  eraseIntervalUs : Nat := 0
  progForbids : Nat := 0
  eraseForbids : Nat := 0
  progSuspend : Byte := 0x75
  progResume : Byte := 0x7A
  suspend : Byte := 0x75
  resume : Byte := 0x7A
deriving DecidableEq, Repr

/-- What the device reads of a real part at arming: its identification and what its SFDP says (02 R50, R51, R562). -/
structure Sfdp where
  jedec : List Byte
  capacity : Nat
  page : Nat
  progUs : Nat
  erases : List EraseType
  chipEraseUs : Nat
  suspendOk : Bool
  suspendUs : Nat
  addr3 : Bool
  addr4 : Bool
  extAddr : Bool
  /-- N_real for a read opcode at f_port: pairs of opcode and dummy count (02 R52). -/
  dummies : List (Byte × Nat)
  /-- program opcodes of the 4-byte address instruction table (02 R40). -/
  prog4 : List Byte
  /-- the 4-byte address instruction table: opcodes and their 4-byte-address forms, the fast reads among them (02 R51, R556). -/
  four : List (Byte × Byte)
  /-- the fast-read opcode of each bus mode (02 R556). -/
  fastOps : List (BusMode × Byte)
  /-- SFDP revision (02 R51). -/
  revision : Nat
  /-- octal enable requirements, BFPT DWORD 19 (02 R51). -/
  octalEnable : Nat
  /-- sector map, from address 0: the size of each region in bytes and its erase-type mask (02 R51). -/
  sectors : List (Nat × Nat)
  sccrReads : List Byte
  sccrWrites : List Byte
  flagStatus : Bool
  sr2 : Option Sr2
  /-- command sequences to octal DDR, each with the mode it enters (02 R60). -/
  octal : List (BusMode × List SeqCmd)
  /-- the 4-4-4 enable sequence of BFPT DWORD 15 (02 R60). -/
  quad : List SeqCmd
  /-- the 4-4-4 disable sequence of BFPT DWORD 15 (02 R51). -/
  quadOff : List SeqCmd := []
  /-- typical times of a byte program, the first byte and each further one, BFPT DWORD 11 (02 R51). -/
  byteUs : Nat := 0
  nextByteUs : Nat := 0
  /-- the rest of BFPT DWORDs 12 and 13 (02 R51, 05 R179). -/
  susp : SuspendInfo := {}
deriving DecidableEq, Repr

/-- What the home flash returns for its two firmware slots at a start of the ROM, and whether the entropy
source passes its start-up test then (06 R560, 08 R282, 13 R441). -/
structure RomEnv where
  readable : Bool
  img0 : List Byte
  img1 : List Byte
  entropyOk : Bool
  /-- how long PORST# had been high when the ROM started, in ns: REFCLK came late (06 R191, R560). -/
  sinceRise : Nat := 0
deriving DecidableEq, Repr

/-- A host transaction, from the fall of Pn_HCS# to its rise (02 R38). -/
structure HostTxn where
  port : PortId
  /-- opcode as the host side's current mode reads it (02 R557). -/
  op : Byte
  /-- the 8-bit extension that an 8D-8D-8D command carries (02 R35). -/
  ext : Byte
  /-- whole address bytes the host sent, and their value. -/
  addrBytes : Nat
  addr : Nat
  /-- whole data bytes the host sent. -/
  sent : List Byte
  /-- a partial data byte follows them (05 R172). -/
  partialByte : Bool
  /-- data-out bytes the host clocked. -/
  clocked : Nat
  clockMHz : Nat
  /-- what the real part returns in those data cycles, where the command reaches it. -/
  real : List Byte
  /-- the outcome of the SEC-DED check of the millpond lines the read touches (04 R127). -/
  ecc : Ecc
  /-- Pn_HCS# is still low after these data cycles: the transaction stays open (02 R81). -/
  stays : Bool
deriving DecidableEq, Repr

/-- How the real part answers an operation of the device on a slot: its content as the device reads it. -/
structure SlotImage where
  /-- content of each verified region, in ascending START order. -/
  regions : List (List Byte)
  /-- leaf table of each stream-verify region, in the same order. -/
  tables : List (List Byte)
deriving DecidableEq, Repr

/-- Whether an operation of the engine for a command ends as FAULT on both its runs: that of the request's authorization, and that of the command's own verification (09 R295, 13 R419; log 3); and what else meets the request from outside it. -/
structure EngFaults where
  auth : Bool := false
  own : Bool := false
  /-- an event that ends a debug session falls in the cycle in which the request would open one (14 R465). -/
  ended : Bool := false
deriving DecidableEq, Repr

/-- A mailbox's event: the mailbox, and the engine's outcome for the request that it accepts (13 R406, R419; log 3). -/
structure MbxEvent where
  mbx : MbxId
  faults : EngFaults := {}
deriving DecidableEq, Repr

/-- VIO_PG of a group leaves its range: the group, and whether the level lies above 2.60 V (18 R534). -/
structure VioOut where
  group : Fin 8
  high : Bool
deriving DecidableEq, Repr

/-- VIO_PG of a group is back in its window: at 3.3 V or at 1.8 V, and for 10 ms or just now (06 R217, 18 R534). -/
structure VioBack where
  at33 : Bool
  held : Bool := true
deriving DecidableEq, Repr

/-- A clock monitor's condition comes or goes; for the core clock's, the PLLs that it takes the lock from: [0] core, [1] PKE, [2] miller (15 R478, 17 R523). -/
structure ClockTrip where
  present : Bool
  plls : BitVec 3 := 7
deriving DecidableEq, Repr

/-- The stone that produced a digest, and what it produced where it is faulty (04 R151). -/
structure StoneRun where
  stone : Fin 32
  bad : Option D256 := none
deriving DecidableEq, Repr

/-- What a slot holds as a measurement reads it, whether the engine faults on both runs of its map's verification, and whether the write of its slot record reads back right (07 R220, R235, 03 R111). -/
structure SlotProbe where
  image : SlotImage
  engineFault : Bool := false
  settingsOk : Bool := true
deriving DecidableEq, Repr

/-- The fields of GET_CAPABILITIES that the block reads: the version and DataTransferSize (08 R268, R279). -/
structure SpdmCaps where
  version : Nat
  dataTransferSize : Nat
deriving DecidableEq, Repr

/-- A token's signature, and whether the engine faults on both runs of its verification (14 R469). -/
structure TokenSig where
  bytes : List Byte
  engineFault : Bool := false
  /-- an event that ends a session falls in the cycle in which this one would open (14 R465). -/
  ended : Bool := false
deriving DecidableEq, Repr

/-- A word that a master writes, and whether the log window's last word is read in the same cycle (12 R393). -/
structure RegWord where
  word : Word
  lastWord : Bool := false
deriving DecidableEq, Repr

/-- How an operation of the engine ends: it runs, with what faults made its first and second run produce; or the miller aborts its own request of a number (09 R292, R295, R306, R307). -/
inductive PkeEnd where
  | runs (first second : Option PkeOut)
  | abort (own : Nat)
deriving DecidableEq, Repr

/-- The commands of the block: the rows of spec/opcode_table.json in the table's order. -/
inductive Instr where
  | powerOnReset
  | romStart (env : RomEnv)
  | deviceResetBegin (cause : DevCause)
  | millerRestartBegin (cause : RestartCause) (env : RomEnv)
  | millerWatchdogExpiry (env : RomEnv)
  | portResetBegin (p : PortId)
  | millerStartArming
  | portArmBegin (p : PortId) (cs0 cs1 : Sfdp)
  | mapVerifyDone (p : PortId) (engineFault : Bool)
  | mapEngineRetry (p : PortId)
  | sluiceCaptureRead (p : PortId) (data : List Byte)
  | granuleFill (p : PortId) (data : List Byte) (ecc : Ecc)
  | leafTableLoad (p : PortId) (data : List Byte)
  | measurementRootCompare (p : PortId)
  | brakeMinElapsed (p : PortId)
  | settleElapsed (p : PortId)
  | portRelease
  | hostResetSensed (p : PortId)
  | hrdyQualified (p : PortId)
  | hrdyDropped (p : PortId)
  | hrdyTimeout (p : PortId)
  | vioPgOutOfRange (g : VioOut)
  | vioPgRestored (g : Fin 8) (back : VioBack)
  | hostTransaction (t : HostTxn)
  | modeEntryWipExpiry (p : PortId)
  | hrstPulse (p : PortId) (lowSamples : Nat)
  | virtualDeviceReset (p : PortId)
  | virtualDeviceRecovery (p : PortId)
  | heldCommandIssue (p : PortId)
  | absorbWelClear (p : PortId)
  | statusPoll (p : PortId) (partWip : Bool)
  | absorbEmulationExpiry (p : PortId)
  | suspendIssue (p : PortId)
  | suspendLatencyExpiry (p : PortId)
  | heldResumeIssue (p : PortId)
  | completionRead (p : PortId) (data : List Byte)
  | epochVerdict (p : PortId) (stone : StoneRun)
  | epochDeadline (p : PortId)
  | verdictRereadDone (p : PortId) (katPass : Bool) (first second : List Byte)
  | verdictClassify (p : PortId) (settingsOk retestPass : Bool)
  | containmentEnd (p : PortId)
  | scrubGranule (data : List Byte) (ecc : Ecc) (tree : TreeRead)
  | granuleRefillDone (g : Fin 12288) (data : List Byte) (ecc : Ecc) (stone : StoneRun)
  | stoneBlockComplete (n : Fin 32) (meanNs : Nat)
  | blockAgePromote
  | stoneTimeout (n : Fin 32) (retestPass : Bool)
  | stoneKat (n : Fin 32) (pass retestPass : Bool)
  | standbyMeasurement (p : PortId) (slot : SlotId) (img : SlotProbe)
  | substituteFillDone (p : PortId) (img : SlotImage)
  | substTmoExpiry (p : PortId)
  | repairAttempt (p : PortId) (slot : SlotId) (source : SlotImage) (readback : SlotProbe) (stone : Fin 32)
  | hopperProgramComplete (block : Nat)
  | getInfo
  | slotStatus
  | configRead
  | mapRead
  | fwStatus
  | transferStatus
  | spdmMsg
  | authNonce
  | objLoad
  | objClear
  | sealData
  | unsealData
  | bulkData
  | transferAbort
  | stageOpen (settingsOk : Bool)
  | stageClose (settingsOk : Bool)
  | stageAbort (settingsOk : Bool)
  | portReset
  | deviceReset
  | deferredResetTimer
  | millerRestart (env : RomEnv)
  | fwBegin
  | fwCommit (readback : List Byte)
  | fwActivate (env : RomEnv)
  | fwFloorRaise (stuck : List Nat)
  | debugChallenge
  | debugOpen
  | debugD2AccessOpen
  | debugClose
  | imageBegin
  | slotCommit (settingsOk : Bool)
  | slotSwitch (settingsOk : Bool)
  | portConfig (settingsOk : Bool)
  | sluiceStore (settingsOk : Bool)
  | graphStore (settingsOk : Bool)
  | devConfig (settingsOk : Bool)
  | rollbackRaise (stuck : List Nat)
  | tamperConfig (settingsOk : Bool)
  | sourceDisable (stuck : List Nat)
  | keyProgram (stuck : List Nat)
  | keyRevoke (stuck : List Nat)
  | lcTransition (stuck : List Nat)
  | lcRepair (stuck : List Nat)
  | mailboxDoorbell (m : MbxEvent)
  | mailboxResponse (m : MbxEvent)
  | mailboxRspAck (m : MbxEvent)
  | getVersion (t : Transport)
  | getCapabilities (t : Transport) (caps : SpdmCaps)
  | negotiateAlgorithms (t : Transport) (offer : AlgOffer)
  | getDigests (t : Transport)
  | getCertificate (t : Transport) (slot : Nat) (offset length : Nat)
  | challenge (t : Transport) (slot : Nat) (nonce : List Byte)
  | getMeasurements (t : Transport) (index : Nat) (sign : Bool) (nonce : List Byte)
  | keyExchange (t : Transport) (slot : Nat) (exchange : List Byte)
  | finish (t : Transport) (verifyData : List Byte)
  | endSession (t : Transport)
  | chunkSend (t : Transport) (seq : Nat) (last : Bool) (data : List Byte)
  | chunkGet (t : Transport) (seq : Nat)
  | spdmUnsupportedRequest (t : Transport) (code : Byte)
  | securedMessage (t : Transport) (sessionId : Nat) (data : List Byte)
  | i3cDynamicAddress (addr : BitVec 7)
  | mctpSetEndpointId (eid : Byte)
  | mctpGetEndpointId
  | mctpGetVersionSupport
  | mctpGetMessageTypeSupport
  | i3cPrivateWrite (addr : Nat) (words : List Word)
  | i3cPrivateRead (addr : Nat) (count : Nat)
  | drbgReseed
  | entropyHealthFail
  | pkeRequest
  | pkeGo
  | pkeAbort
  | pkeRelease
  | pkeMillerRequest (cmd len0 len1 arg : Word) (inputs : List Byte)
  | pkeOperationComplete (c : Fin 2) (e : PkeEnd)
  | pkeKatComplete (c : Fin 2) (pass : Bool)
  | pkeGrantTimeout (c : Fin 2)
  | pkeRecoveryEnd (c : Fin 2)
  | pkePowerUpKat (c : Fin 2) (pass : Bool)
  | dgeAlloc
  | dgeStart (n : Fin 4)
  | dgeData (n : Fin 4) (w : Word)
  | dgeFinal (n : Fin 4)
  | dgeFree (n : Fin 4)
  | digestFinalizeDone (n : Fin 16)
  | hssLmsVerify (message pubkey sig : List Byte)
  | linkTrain (l : LinkId) (energy : Bool) (goodLanes peerLanes : BitVec 4) (peerIsDevice : Bool)
  | linkDownRetry (l : LinkId)
  | laneFault (l : LinkId) (lane : Fin 4)
  | linkPortDown (l : LinkId)
  | frameReceive (l : LinkId) (hseq : Nat) (bytes : List Byte)
  | frameTransmit (l : LinkId)
  | frameForward (l : LinkId)
  | ackReceive (l : LinkId) (aseq : Nat) (nak : Bool)
  | ackTimer (l : LinkId)
  | replayTimeout (l : LinkId)
  | creditReceive (l : LinkId) (v0term v0fwd v1term v1fwd : Byte)
  | creditSend (l : LinkId)
  | regRd (l : LinkId)
  | regWr (l : LinkId)
  | bulk (l : LinkId)
  | evtFrameSend
  | evtResend
  | evtAck (l : LinkId)
  | enumSeek (l : LinkId)
  | enumAssign (l : LinkId)
  | enumDone (l : LinkId)
  | firstWindowTimer
  | claim (l : LinkId) (engineFault : Bool)
  | renew (l : LinkId)
  | yieldOwner (l : LinkId)
  | fanSendClaim (engineFault : Bool)
  | fanSendRenew
  | fanSendYield
  | electionWindowExpiry
  | directedOfferExpiry
  | leaseExpiry
  | registerWrite (m : Master) (addr : Nat) (w : RegWord)
  | logWindowRead (m : Master) (offset count : Nat)
  | logRecordCommit (readbackOk : Bool)
  | tamperPinSample (level : BitVec 8)
  | voltageMonitorTrip (m : Fin 64) (present : Bool)
  | clockMonitorTrip (m : Fin 64) (trip : ClockTrip)
  | temperatureSample (t0 t1 t2 t3 : BitVec 12)
  | invalidStateDetect (m : Fin 64)
  | alarmCombine (env : RomEnv)
  | alarmContainClear (m : Fin 64)
  | backupAlarm (m : Fin 64)
  | powerStateEntry
  | wake
  | domainPowerUp (d : Fin 24)
  | supplyLoss (rail : Fin 6)
  | dbgChal (level : BitVec 8)
  | dbgToken (level : BitVec 8) (pubkey : List Byte) (sig : TokenSig)
  | dbgStatClose
  | dbgAccess (write : Bool) (space : BitVec 4) (addr data : Word)
  | extest (scan : List Bool)
  | samplePreload (scan : List Bool) (use : TapScan)
  | clamp
  | highz
  | porstFalls
  | skipAlignInsert (l : LinkId)
  | laneBlockReceive (l : LinkId) (lane : Fin 4) (sync : BitVec 2) (kind : Byte) (bits : BitVec 56)
  | crystalPresent
deriving DecidableEq, Repr

end Sys2Proof
end

