-- ==== Sys2Proof/Machine/State.lean ====
section
/-! DEFINITION. The state of the block as plain data, the reasons a step can stop, and the state after reset. Each field names its width, the rule of spec/ that gives it and its value after reset; where a field's reset value is the model's, the log entry is named. -/

namespace Sys2Proof.Machine

open Sys2Proof

/-- Why the block stops. No command raises one: every row of the table has an effect the spec describes. -/
inductive Fault where
  /-- raised by nobody (safe: nothing stops with it); it keeps the type inhabited. -/
  | none
deriving DecidableEq, Repr

/-- Why a command has no meaning. -/
inductive Refusal where
  /-- raised by Dispatch alone, for a row that has no meaning yet (safe: the run stops). -/
  | notModelled (mnemonic : String)
deriving DecidableEq, Repr

/-- A byte memory: (address, byte) pairs, addresses strictly rising, no entry equal to 0, which is what an unlisted address reads as. -/
abbrev Memory := List Host.Cell

/-- Port states and their codes (04 R116). -/
inductive PortState where
  | disabled | waiting | arming | measuring | measured | service | contained | recovering | substitute | failed | isolated
deriving DecidableEq, Repr

/-- Slot states and their codes (07 R221). -/
inductive SlotState where
  | absent | empty | staging | committed | ready | active | failed | retired | repairing
deriving DecidableEq, Repr

/-- Life-cycle states (14 R445, R446). -/
inductive LcState where
  | blank | test | production | endOfLife | locked
deriving DecidableEq, Repr

/-- SYS_BOOT.STAGE (12 SYS_BOOT). -/
inductive Stage where
  | rom | running | stopped | locked | endOfLife
deriving DecidableEq, Repr

/-- The slot record of 07 R220. -/
structure SlotRec where
  /-- CS, 1 bit (07 R220); reset 0. -/
  cs : Bool := false
  /-- STATE (07 R220, R221); reset ABSENT. -/
  state : SlotState := .absent
  /-- SFLAGS[0] SWITCH_PENDING (07 R220); reset 0. -/
  switchPending : Bool := false
  /-- SFLAGS[1] PRELOADED (07 R220); reset 0. -/
  preloaded : Bool := false
  /-- SFLAGS[2] HOPPER_IMAGE (07 R220); reset 0. -/
  hopperImage : Bool := false
  /-- SFLAGS[3] REPAIR_PENDING (07 R220); reset 0. -/
  repairPending : Bool := false
  /-- BASE, 32 bits (07 R220); reset 0. -/
  base : Nat := 0
  /-- REPAIR_TRIES, 0 to 3 (07 R220); reset 0. -/
  tries : Nat := 0
  /-- FAIL_CODE, 8 bits (07 R220); reset 0x00. -/
  failCode : Nat := 0
  /-- FAIL_REGION, 8 bits (07 R220); reset 0xFF. -/
  failRegion : Nat := 0xFF
  /-- order in which SWITCH_PENDING of A and B was set, which R253 compares (07 R253); reset 0. -/
  switchSetAt : Nat := 0
deriving DecidableEq, Repr

/-- A region of a mill map (03 R88, region table entry). -/
structure Region where
  policy : Nat
  rflags : Nat
  start : Nat
  len : Nat
  ltOffset : Nat
  leafCount : Nat
  rparam : Nat
  root : D256
deriving DecidableEq, Repr

/-- A mill map as its bytes say (03 R88). -/
structure MillMap where
  /-- the bytes themselves. -/
  bytes : List Byte
  mapLen : Nat
  signedLen : Nat
  portMask : Nat
  vsize : Nat
  domain : Nat
  hybrid : Bool
  secVersion : Nat
  serial : List Byte
  imageId : List Byte
  imageDigest : D384
  regions : List Region
  /-- map digest: SHA-384 over the signed part (03, algorithms). -/
  digest : D384
deriving DecidableEq, Repr

/-- A port configuration record (13 R429) with its recovery policy (07 R245). -/
structure PortCfg where
  enable : Bool
  addr4 : Bool
  hybrid : Bool
  frst : Bool
  jesd252 : Bool
  golden : Bool
  mode : BusMode
  profile : Nat
  fport : Nat
  vlog2 : Nat
  fastRead : Byte
  srInit : Byte
  cshNs : Nat
  rstRecov : Nat
  csA : Bool
  csB : Bool
  csG : Bool
  baseA : Nat
  baseB : Nat
  baseG : Nat
  opt1 : Nat
  opt2 : Nat
  opt3 : Nat
  autoRepair : Bool
  autoReturn : Bool
  sharedWrite : Bool
  preload : Bool
  substTmo : Nat
deriving DecidableEq, Repr

/-- One entry of a sluice table (05 R159). -/
structure SlEntry where
  opcode : Byte
  modes : Byte
  cls : Nat
  addr : Nat
  array : Bool
  dummy : Nat
  advertised : Bool
  data : Nat
  extent : Nat
  rcheck : Nat
  actPass : Nat
  actDeny : Nat
  evtPass : Bool
  vsrc : Nat
  vdata : Nat
deriving DecidableEq, Repr

/-- A host span of an epoch (04 R131, R132): where it starts, its length, and how many of its bytes have entered T_dev. -/
structure Span where
  start : Nat
  len : Nat
  seen : Nat
deriving DecidableEq, Repr

/-- An epoch tracker (04 R131). The running hash state over 0x00 and leaf bytes [0, P) is held as those bytes. -/
structure Tracker where
  region : Nat
  leaf : Nat
  cs : Bool
  bytes : List Byte
  spans : List Span
  tHost : BitVec 128
  tDev : BitVec 128
  /-- when the deadline falls, in ns (04 R138). -/
  due : Nat
  /-- the deadline timer is paused with this much left (04 R137). -/
  paused : Option Nat
  overdue : Bool
  /-- it accepts no more host bytes (04 R132 item 4). -/
  closed : Bool
deriving DecidableEq, Repr

/-- The failing unit of a verdict failure (04 R145). -/
inductive FailUnit where
  | epoch (region leaf : Nat)
  | granule (g : Nat)
deriving DecidableEq, Repr

/-- A verdict failure and the results of its hardware re-reads (04 R145). R2 is none when not run. -/
structure VerdictFail where
  cause : FailUnit
  cs : Bool
  stone : Fin 32
  done : Bool
  katPass : Bool
  r1 : Bool
  r2 : Option Bool
  time : Nat
  seq : Nat
deriving DecidableEq, Repr

/-- Where a Held command that the sluice passed stands on the tailrace (05 R174, R175, R181). -/
inductive HeldPhase where
  | waiting | executing | suspending | suspended
deriving DecidableEq, Repr

/-- A Held command that the sluice passed (02 R41). -/
structure Held where
  cls : Nat
  op : Byte
  cs : Bool
  addr : Option Nat
  /-- the virtual address's slot offset, for staging intake (07 R225). -/
  staged : Option Nat
  data : List Byte
  size : Nat
  phase : HeldPhase
  /-- address bytes and dummy cycles of its phases (05 R166). -/
  addrBytes : Nat := 0
  dummy : Nat := 0
deriving DecidableEq, Repr

/-- An absorbed operation being emulated (02 R57, 05 R179). -/
structure Absorbed where
  cls : Nat
  due : Nat
  /-- time left while suspended (05 R179). -/
  left : Option Nat
  /-- the suspend latency ends at this time (05 R179). -/
  suspDue : Option Nat
deriving DecidableEq, Repr

/-- What the port is armed on: a flash slot or a substitute (07 R219, R246). -/
inductive Source where
  | slot (s : SlotId)
  | golden
  | adapter
deriving DecidableEq, Repr

/-- Why a port is CONTAINED, or may not be released (04 R117, 06 R217); `lost` where its content is gone and the miller is to take it to RECOVERING (04 R127, 07 R253). -/
inductive ContainCause where
  | verdict | deadline | overflow | pond | alarm | supply | fabric | lost
deriving DecidableEq, Repr

/-- Intake of the port's staging session (07 R225, R226): an intake block of the standby slot. -/
structure Intake where
  block : Nat
  erased : Bool
  bytes : List Byte
  digest : Option D256
deriving DecidableEq, Repr

/-- A port's virtual SFDP: the fields of R51's table, in its order, the fixed ones with the value that R51 gives them (02 R51). -/
structure VSfdp where
  /-- revision of the real part. -/
  revision : Nat
  /-- number of parameter headers. -/
  headers : Nat
  /-- 3-byte addressing is offered (DWORD 1 [18:17]). -/
  addr3 : Bool
  /-- 4-byte addressing is offered. -/
  addr4 : Bool
  /-- fast-read support 1-1-2, 1-2-2, 2-2-2 and 4-4-4, with their parameters: cleared. -/
  dual : Bool := false
  quad444 : Bool := false
  /-- fast-read support 1-1-4, 1-4-4 and DTR. -/
  fast114 : Bool
  fast144 : Bool
  dtr : Bool
  /-- density, V. -/
  density : Nat
  /-- advertised dummy count of each read opcode that carries dummy cycles (02 R52). -/
  dummies : List (Byte × Nat)
  /-- mode clocks of every fast read: 0. -/
  modeClocks : Nat := 0
  /-- erase types no larger than V. -/
  erases : List EraseType
  /-- page size, and the times of a page program, of a byte program's first and further bytes, and of a chip erase (DWORD 11). -/
  page : Nat
  progUs : Nat
  byteUs : Nat
  nextByteUs : Nat
  chipEraseUs : Nat
  /-- suspend and resume are supported, with the latency of a program's suspend and the rest of DWORDs 12 and 13. -/
  suspend : Bool
  suspendUs : Nat
  susp : SuspendInfo
  /-- the status profile, for status polling, QER and the SCCR map. -/
  profile : Nat
  /-- opcode and fail bits of the second status register of profile S3 (02 R564). -/
  sr2 : Option Sr2
  /-- 0-4-4 mode: cleared. -/
  mode044 : Bool := false
  /-- the 4-4-4 enable and disable sequences of a port configured for 4S-4D-4D. -/
  quad : List SeqCmd
  quadOff : List SeqCmd
  /-- 4-byte entry and exit methods, and the soft reset. -/
  enter4 : List Byte := [0xB7]
  exit4 : List Byte := [0xE9]
  softReset : List Byte := [0x66, 0x99]
  /-- the extended address register where R45 applies. -/
  extReg : Bool
  octalEnable : Nat
  /-- 1-1-8 and 1-8-8: cleared. -/
  octo : Bool := false
  /-- 8D command extension: inverted. -/
  extension : Nat := 1
  /-- maximum clock of each mode, MHz; 0 unsupported. -/
  speeds : List (BusMode × Nat)
  /-- instructions of the 4-byte address instruction table. -/
  table4 : List Byte
  /-- xSPI Profile 1.0: the count at each listed frequency in MHz; none unsupported. -/
  xspi : List (Nat × Option Nat)
  /-- command sequences to octal DDR. -/
  octal : List (BusMode × List SeqCmd)
  /-- sector map clipped to V. -/
  sectors : List (Nat × Nat)
deriving DecidableEq, Repr

/-- What the device keeps set on a port's real parts (02 R45, R53, R62, R76, R556). Its reset value stands for parts just powered up (log 69). -/
structure RealParts where
  /-- bus mode of both parts (02 R558); reset 1S-1S-1S DESIGN CHOICE log 69. -/
  mode : BusMode := .s111
  /-- address mode of both parts is 4-byte (02 R62, R558); reset 0 DESIGN CHOICE log 69. -/
  addr4 : Bool := false
  /-- extended address register of FCS0#'s part, 8 bits (02 R45); reset 0 DESIGN CHOICE log 69. -/
  ext0 : Byte := 0
  /-- extended address register of FCS1#'s part, 8 bits (02 R45); reset 0 DESIGN CHOICE log 69. -/
  ext1 : Byte := 0
  /-- volatile dummy setting programmed into FCS0#'s part (02 R53); reset none DESIGN CHOICE log 69. -/
  dummy0 : Option Nat := none
  /-- volatile dummy setting programmed into FCS1#'s part (02 R53); reset none DESIGN CHOICE log 69. -/
  dummy1 : Option Nat := none
deriving DecidableEq, Repr

/-- One guarded port. -/
structure Port where
  /-- port state, 4 bits (04 R116); reset WAITING (06 R207, 12 PRT_STAT). -/
  state : PortState := .waiting
  /-- Pn_BRAKE# asserted, the inverse of the release latch, 1 bit (06 R187, R188); reset asserted. -/
  brake : Bool := true
  /-- when the brake was last asserted, ns (06 R191); reset 0 DESIGN CHOICE log 1. -/
  brakeAt : Nat := 0
  /-- BRAKE_MIN has elapsed since then, 1 bit (06 R191, R201); reset 0. -/
  brakeMinDone : Bool := false
  /-- when the last edge into the port became satisfied or the port entered MEASURED, none while an edge is open (06 R201, R205); reset none. -/
  edgesAt : Option Nat := none
  /-- SETTLE has elapsed since then, 1 bit (06 R201); reset 0. -/
  settleDone : Bool := false
  /-- the reset of R75 and R76 and the recovery of R77 are complete, 1 bit (06 R201); reset 0. -/
  vdReady : Bool := false
  /-- a virtual-device reset is to be performed (02 R74, R75); reset 0. -/
  vdResetDue : Bool := false
  /-- the virtual device is recovering from a reset (02 R77); reset 0. -/
  recoveringVd : Bool := false
  /-- when that recovery ends, ns (02 R77); reset 0 DESIGN CHOICE log 1. -/
  recoverDue : Nat := 0
  /-- when the port was last released, ns (06 R194, R196); reset 0 DESIGN CHOICE log 1. -/
  releasedAt : Nat := 0
  /-- PRT_STAT.HRDY_LEVEL, 1 bit (12 PRT_STAT); reset 0. -/
  hrdyLevel : Bool := false
  /-- PRT_STAT.HRDY_Q, HRDY qualified since the latest release, 1 bit (06 R194, R195); reset 0. -/
  hrdyQ : Bool := false
  /-- PRT_STAT.HRDY_TMO, HRDY timed out since the latest release, 1 bit (06 R196); reset 0. -/
  hrdyTmo : Bool := false
  /-- PRT_STAT.EXT_RESET, W1C, 1 bit (06 R192); reset 0. -/
  extReset : Bool := false
  /-- monitors whose CONTAIN is in force on the port; 64 stands for R463 (15 R483, 14 R463; PRT_STAT.CONTAIN_ALARM); reset none. -/
  containBy : List Nat := []
  /-- why the port was contained (04 R117); reset none. -/
  causes : List ContainCause := []
  /-- configuration in use (13 R429); reset none. -/
  cfg : Option PortCfg := none
  /-- map the port was last armed on, SERVED_MAP of its measurement block (03 R87, 08 R276); reset none. -/
  map : Option MillMap := none
  /-- map of the arming in progress, once verified (03 R18, R111); reset none. -/
  armMap : Option MillMap := none
  /-- what that map's content comes from (07 R219, R248); reset slot A DESIGN CHOICE log 7. -/
  source : Source := .slot .a
  /-- active-slot remap: chip select and physical base of the slot that host addresses go to (02 R44, R49); reset FCS0# and base 0 (log 76). -/
  remap : Bool × Nat := (false, 0)
  /-- the configuration load of the arming in progress is done (04 R117, 01 R22); reset 0. -/
  begun : Bool := false
  /-- the port left SUBSTITUTE by its latest port reset (07 R253); reset 0. -/
  substAgain : Bool := false
  /-- the slot being armed is a pending slot under R240, or FAILOVER's (07 R240, R246); reset 0. -/
  armPending : Bool := false
  /-- this is the second measurement, at half of f_port (07 R222); reset 0. -/
  halfRate : Bool := false
  /-- the map returned MAP_ENGINE and waits for a core (03 R113); reset 0. -/
  engineWait : Bool := false
  /-- real part read at arming on each chip select (02 R50); reset none. -/
  sfdp0 : Option Sfdp := none
  /-- real part of FCS1# (02 R50); reset none. -/
  sfdp1 : Option Sfdp := none
  /-- PRT_MODE.FPORT, f_port in MHz after R68, 8 bits (02 R68); reset 0. -/
  fport : Nat := 0
  /-- PRT_MODE.ADV_DUMMY, advertised count of the configured fast read, 8 bits (02 R52); reset 0. -/
  advDummy : Nat := 0
  /-- PRT_MODE.PROFILE, status profile 1 to 3, 4 bits (02 R562); reset 0. -/
  profile : Nat := 0
  /-- PRT_MODE.MODE, host side's current mode; none (7) before arming (02 R557); reset none. -/
  mode : Option BusMode := none
  /-- PRT_MODE.ADDR4, virtual address mode is 4-byte, 1 bit (02 R62); reset 0. -/
  addr4 : Bool := false
  /-- virtual SFDP, built at arming (02 R50, R51); reset none. -/
  vsfdp : Option VSfdp := none
  /-- virtual registers that the real part's SCCR table names, by read opcode, 8 bits each (02 R40, R51, R59); reset none, and their configured values at arming. -/
  vregs : List (Byte × Byte) := []
  /-- what the device keeps set on the real parts (02 R45, R53, R76); reset as its own fields. -/
  real : RealParts := {}
  /-- Pn_HCS# is low: a host transaction stays open (02 R38, R81); reset 0 DESIGN CHOICE log 69. -/
  hcsLow : Bool := false
  /-- the poison pull-ups on Pn_HIO are on (02 R81, R83); reset 0. -/
  poison : Bool := false
  /-- Pn_HDQS toggles on after the drivers stopped (02 R82); reset 0. -/
  hdqs : Bool := false
  /-- chip select on which a program or erase of the device's own, for a hopper transfer, is in progress (02 R42, 04 R137, 07 R231); reset none. -/
  devOp : Option Bool := none
  /-- stream region deadlines after R139, in ns, in region order (04 R138, R139); reset none. -/
  deadlines : List Nat := []
  /-- effective sluice table (05 R163); reset none. -/
  table : List SlEntry := []
  /-- captured answers of VSRC 0x02 entries, in table order (05 R167); reset none. -/
  captures : List (List Byte) := []
  /-- virtual status register bits [7:2], SRP and BP, with [1:0] zero, 8 bits (02 R54); reset 0x00, and the configured value at arming. -/
  sr : Byte := 0
  /-- virtual WEL, 1 bit (02 R54, R55); reset 0. -/
  wel : Bool := false
  /-- virtual WIP, 1 bit (02 R54); reset 0. -/
  wip : Bool := false
  /-- the WIP of a mode entry is set (02 R60, R61); reset 0. -/
  wipMode : Bool := false
  /-- protection-error indication, 1 bit (02 R58); reset 0. -/
  protErr : Bool := false
  /-- flag bit [4] or the program-fail bit, 1 bit (02 R54, R564); reset 0. -/
  progErr : Bool := false
  /-- flag bit [5] or the erase-fail bit, 1 bit (02 R54, R564); reset 0. -/
  eraseErr : Bool := false
  /-- virtual extended address register, 8 bits (02 R45); reset 0x00. -/
  extAddr : Byte := 0
  /-- virtual deep power-down, 1 bit (02 R63); reset 0. -/
  dpd : Bool := false
  /-- 0x66 was the last command, 1 bit (02 R74); reset 0. -/
  rstEnable : Bool := false
  /-- mode-entry sequences still matched, each with its mode and the commands left (02 R60); reset none. -/
  seqs : List (BusMode × List SeqCmd) := []
  /-- the real part's WEL is to be cleared with 0x04 (02 R41); reset 0. -/
  welClearDue : Bool := false
  /-- Held command passed to the real part (02 R41, 05 R174); reset none. -/
  held : Option Held := none
  /-- Held program handled while another operation is suspended (05 R181); reset none. -/
  held2 : Option Held := none
  /-- a passed suspend waits to be issued: its opcode (05 R178); reset none. -/
  suspendDue : Option Byte := none
  /-- a passed resume waits to be issued: its opcode (05 R181); reset none. -/
  resumeDue : Option Byte := none
  /-- absorbed operation being emulated (02 R57); reset none. -/
  absorbed : Option Absorbed := none
  /-- absorbed program handled while another operation is suspended (05 R181); reset none. -/
  absorbed2 : Option Absorbed := none
  /-- the part's reset of R76 waits for its WIP 0 (05 R182); reset 0. -/
  partResetDue : Bool := false
  /-- epoch trackers, oldest first, at most 16 (04 R131); reset none. -/
  trackers : List Tracker := []
  /-- tally key K, 128 bits (04 R133); reset none. -/
  tallyKey : Option (BitVec 128) := none
  /-- verdict failures not yet classified, oldest first (04 R145, R146); reset none. -/
  failures : List VerdictFail := []
  /-- time stamps of transients (04 R147); reset none. -/
  transients : List Nat := []
  /-- slot the port last served, for R147 (04 R147); reset none. -/
  lastServed : Option SlotId := none
  /-- regions whose leaf-table reload is due (04 R127); reset none. -/
  reloads : List Nat := []
  /-- open staging session's offset O (07 R223); reset none. -/
  staging : Option Nat := none
  /-- intake blocks of the staging session (07 R225); reset none. -/
  intake : List Intake := []
  /-- intake abandoned for this staging, 1 bit (07 R226); reset 0. -/
  intakeOff : Bool := false
  /-- number of the recovery option in progress, 1 to 3 (07 R246); reset none. -/
  option : Option Nat := none
  /-- substitution request outstanding, with SUBST_TMO's end in ns (07 R251); reset none. -/
  substDue : Option Nat := none
  /-- what that request carries: map digest, IMAGE_DIGEST and L (07 R251; log 74); reset none. -/
  substReq : Option (D384 × D384 × Nat) := none
  /-- resident granules filled so far in this measurement (04 R122); reset 0. -/
  filled : Nat := 0
  /-- stream leaf tables loaded so far in this measurement (03 R95); reset 0. -/
  loaded : Nat := 0
  /-- first region whose computed root differed from ROOT in this measurement (03 R96); reset none. -/
  badRegion : Option Nat := none
  /-- PRT_CNT_VERDICT_FAIL, CNT, 32 bits (12 PRTn); reset 0. -/
  cntVerdict : Word := 0
  /-- PRT_CNT_TRANSIENT, CNT, 32 bits (12 PRTn); reset 0. -/
  cntTransient : Word := 0
  /-- PRT_CNT_DEADLINE, CNT, 32 bits (12 PRTn); reset 0. -/
  cntDeadline : Word := 0
  /-- PRT_CNT_OVERFLOW, CNT, 32 bits (12 PRTn); reset 0. -/
  cntOverflow : Word := 0
  /-- PRT_CNT_ABSORB, CNT, 32 bits (12 R565); reset 0. -/
  cntAbsorb : Word := 0
  /-- PRT_CNT_CANCEL, CNT, 32 bits (12 PRTn, 05 R171, R177); reset 0. -/
  cntCancel : Word := 0
  /-- PRT_CNT_PASS, CNT, 32 bits (12 R565); reset 0. -/
  cntPass : Word := 0
  /-- PRT_CNT_POND_FAULT, CNT, 32 bits (12 PRTn, 04 R126); reset 0. -/
  cntPond : Word := 0
  /-- PRT_CNT_ECC_CORR, CNT, 32 bits (12 PRTn, 04 R127); reset 0. -/
  cntEcc : Word := 0
  /-- PRT_CNT_HOST_RESET, CNT, 32 bits (12 PRTn, 06 R192); reset 0. -/
  cntHostReset : Word := 0
  /-- PRT_CNT_RELEASE, CNT, 32 bits (12 PRTn); reset 0. -/
  cntRelease : Word := 0
deriving DecidableEq, Repr

/-- Granule states other than FREE (04, the millpond). -/
inductive GranState where
  | held | filling | pending | valid | invalid | bad
deriving DecidableEq, Repr

/-- What a HELD granule is held for (07 R237, R245). -/
inductive HoldFor where
  | reserve
  | preload (p : PortId) (s : SlotId)
deriving DecidableEq, Repr

/-- A millpond granule that is not FREE (04 R119 to R127). -/
structure Granule where
  state : GranState
  hold : Option HoldFor
  owner : Option PortId
  region : Nat
  /-- virtual address of its first byte. -/
  va : Nat
  data : List Byte
  /-- its digest in the tree store's granule area (04, the tree store). -/
  digest : Option D256
  /-- it came from the HELD reserve (07 R245, R250). -/
  fromReserve : Bool
deriving DecidableEq, Repr

/-- An allocated leaf-area extent of 256 entries (04 R128): its port, region and entries, or an intake extent (07 R226). -/
structure Extent where
  port : PortId
  region : Option Nat
  leaves : List D256
deriving DecidableEq, Repr

/-- The millpond and the tree store. -/
structure Pond where
  /-- granules that are not FREE, by number, numbers rising, 12,288 in all (04, the millpond); reset none (06 R207 Cleared). -/
  granules : List (Nat × Granule) := []
  /-- leaf-area extents that are not FREE, by number, numbers rising, 1,984 in all (04 R128); reset none (06 R207 Cleared). -/
  extents : List (Nat × Extent) := []
  /-- time of the last uncorrectable error of each granule that had one, by number, numbers rising (04 R127); reset none. -/
  errs : List (Nat × Nat) := []
  /-- the granule the scrub pass reads next, 14 bits (04 R124); reset 0 DESIGN CHOICE log 7. -/
  scrubPos : Nat := 0
  /-- scrub pass period in ms, loaded at the miller start (04 R124, 13 R431); reset 4,000. -/
  scrubMs : Nat := 4000
deriving DecidableEq, Repr

/-- A source of blocks for the stones (04 R149): a port, a digest context or a link port; the scrub, a stone's own known-answer blocks, and the hashes of maps and firmware that the miller or the ROM makes, which the rules put in no context (04 R124, R148, R152; DESIGN CHOICE log 128). -/
inductive BlockSource where
  | port (p : PortId)
  | context (n : Fin 16)
  | link (l : LinkId)
  | scrub
  | stone (n : Fin 32)
  | miller
deriving DecidableEq, Repr

/-- Blocks of one source waiting in the shared queue (04 R148, R149). -/
structure Block where
  cls : Nat
  src : BlockSource
  born : Nat
  /-- how many blocks of this piece of work wait. -/
  n : Nat := 1
  /-- a SHA-256 block, of 64 ns nominal; every other family's takes 80 ns (10, algorithms). -/
  sha256 : Bool := false
  /-- the stones that it may not start on (04 R145, R151). -/
  exclude : List (Fin 32) := []
  /-- a block of its port's write intake (04 R154, 07 R225). -/
  intake : Bool := false
deriving DecidableEq, Repr

/-- One hash core (04, the stones). -/
structure Stone where
  /-- not retired, 1 bit (04 R151); reset in service. -/
  inService : Bool := true
  /-- marked slow, 1 bit (04 R150); reset 0. -/
  slow : Bool := false
  /-- times of its transients, ns (04 R151); reset none. -/
  transients : List Nat := []
  /-- block in flight (04 R149); reset none. -/
  busy : Option Block := none
  /-- which of its last 1,024 blocks were SHA-256 blocks, newest first (04 R150); reset none. -/
  hist : List Bool := []
  /-- contexts that had a block on it since its last passing test (10 R321); reset none. -/
  touched : List (Fin 16) := []
  /-- its domain has powered up since, and it takes no block but its own known-answer blocks before that test (04 R152, 17 R515); reset 1 for stones 0 to 15, whose domain powers up for the ROM, 0 for the others. -/
  katDue : Bool := false
deriving DecidableEq, Repr

/-- The digest fabric. -/
structure Fabric where
  /-- the 32 stones (04, the stones); reset each as its own fields, but that the test of stones 0 to 15 is due, whose domain powers up for the ROM (04 R152). -/
  stones : Vector Stone 32 := Vector.ofFn fun n : Fin 32 => { katDue := decide (n.val < 16) }
  /-- blocks waiting, oldest first (04 R148); reset none. -/
  queue : List Block := []
  /-- source served last in each class 0 to 4, for the round robin (04 R149); reset none. -/
  lastSource : List (Nat × BlockSource) := []
  /-- fewer than 9 stones remained: R153 is in force until device reset, 1 bit (04 R153); reset 0. -/
  lost : Bool := false
deriving DecidableEq, Repr

/-- A settings item: two copies, each with its generation number and bytes (13 R433). -/
structure Copy where
  /-- generation number, 32 bits. -/
  gen : BitVec 32
  bytes : List Byte
  /-- its SHA-384 check value is that of the copy; the value has no other reader and is not kept (log 65). -/
  valid : Bool
deriving DecidableEq, Repr

/-- A settings item in its two copies (13 R433). -/
structure Item where
  copyA : Option Copy := none
  copyB : Option Copy := none
deriving DecidableEq, Repr

/-- What the settings store holds for one port (13, the settings store). -/
structure PortStore where
  /-- port configuration record, 64 bytes (13 R429); reset absent, log 7. -/
  config : Item := {}
  /-- sluice table (05 R158); reset absent, log 7. -/
  sluice : Item := {}
  /-- slot record of A (07 R220); reset ABSENT, log 7. -/
  slotA : SlotRec := {}
  /-- slot record of B (07 R220); reset ABSENT, log 7. -/
  slotB : SlotRec := {}
  /-- slot record of the golden slot (07 R220); reset ABSENT, log 7. -/
  slotG : SlotRec := {}
  /-- the two copies of A's slot record, whose newer valid one is `slotA` (07 R220, 13 R433); reset absent, log 7. -/
  recA : Item := {}
  /-- the two copies of B's (07 R220, 13 R433); reset absent, log 7. -/
  recB : Item := {}
  /-- the two copies of the golden slot's (07 R220, 13 R433); reset absent, log 7. -/
  recG : Item := {}
  /-- stored map of A (03 R85); reset absent, log 7. -/
  mapA : Item := {}
  /-- stored map of B (03 R85); reset absent, log 7. -/
  mapB : Item := {}
  /-- stored map of the golden slot (03 R85); reset absent, log 7. -/
  mapG : Item := {}
  /-- the slot of A and B that was retired, or failed under R559, since one was ACTIVE last (07 R219); reset none, log 70. -/
  lost : Option SlotId := none
deriving DecidableEq, Repr

/-- The settings store on the home port (13 R433). -/
structure Store where
  /-- device configuration record (13 R431); reset absent, log 7. -/
  device : Item := {}
  /-- release graph (06 R197); reset absent, log 7. -/
  graph : Item := {}
  /-- tamper configuration record (15 R494); reset absent, log 7. -/
  tamper : Item := {}
  /-- certificates from the Opirahel root to the DeviceID certificate, DER (08 R265); reset absent, log 7. -/
  chain : Item := {}
  /-- the items of each port; reset absent, log 7. -/
  ports : Vector PortStore 32 := Vector.replicate 32 {}
deriving DecidableEq, Repr

/-- What a hopper transfer delivers (07 R227, R251, 13 R439). -/
inductive TransferKind where
  | slot (p : PortId) (s : SlotId)
  | substitute (p : PortId)
  | firmware
deriving DecidableEq, Repr

/-- A hopper transfer (07 R227 to R232). -/
structure Transfer where
  id : Nat
  kind : TransferKind
  map : Option MillMap
  mapBytes : List Byte
  len : Nat
  /-- bytes received so far, by offset into the image (07 R228). -/
  data : Memory
  /-- offsets received (07 R228): a byte is received once. -/
  got : List Nat
  /-- offsets written to their destination (07 R231). -/
  written : List Nat
  /-- erase blocks that the transfer has erased: slot offset and size (07 R229). -/
  erased : List (Nat × Nat)
  /-- completeness bitmap: blocks whose bit is set (07 R228). -/
  complete : List Nat
deriving DecidableEq, Repr

/-- The hopper. -/
structure Hopper where
  /-- the open transfer (07 R230); reset none. -/
  current : Option Transfer := none
  /-- a staging transfer suspended by a substitute transfer (07 R230); reset none. -/
  suspended : Option Transfer := none
  /-- 16-bit transfer counter, loaded from the DRBG at each device and power-on reset (13 R424); reset 0 DESIGN CHOICE log 5. -/
  counter : Nat := 0
deriving DecidableEq, Repr

/-- A firmware slot of the home port, FW0 or FW1 (13 R423 FW_STATUS). -/
structure FwSlot where
  /-- STATE: 0 empty, 1 receiving, 2 valid, 3 invalid, 4 running (13 R423); reset 0, log 7. -/
  state : Nat := 0
  /-- FW_MAJOR, 8 bits (13 R438); reset 0, log 7. -/
  major : Nat := 0
  /-- FW_MINOR, 8 bits (13 R438); reset 0, log 7. -/
  minor : Nat := 0
  /-- CMD_SET, 8 bits (13 R438); reset 0, log 7. -/
  cmdSet : Nat := 0
  /-- FW_SVN, 64 bits (13 R438); reset 0, log 7. -/
  svn : Nat := 0
  /-- SETTINGS_MAX of the image (13 R438); reset 0, log 7. -/
  settingsMax : Nat := 0
  /-- LAST_BOOT: 0 not tried, 1 started, 2 failed verification (13 R423); reset 0, log 7. -/
  lastBoot : Nat := 0
  /-- FW_DIGEST, 384 bits (08 R258); reset 0, log 7. -/
  digest : D384 := 0
deriving DecidableEq, Repr

/-- The miller and its firmware. -/
structure Miller where
  /-- FW0 record; reset empty, log 7. -/
  fw0 : FwSlot := {}
  /-- FW1 record; reset empty, log 7. -/
  fw1 : FwSlot := {}
  /-- boot record: the preferred slot is FW1 (13 R441); reset FW0, log 7. -/
  preferFw1 : Bool := false
  /-- the firmware slot running, none while no firmware runs (12 SYS_FW); reset none. -/
  running : Option Bool := none
  /-- HALT action in force: stopped until the next device or power-on reset (15 R481); reset 0. -/
  halted : Bool := false
  /-- the miller has executed its sleep (17 R516); reset 0. -/
  asleep : Bool := false
  /-- the device configuration record and graph are loaded (11 R377, 06 R199); reset 0. -/
  loaded : Bool := false
  /-- times of miller restarts, ns (06 R212); reset none. -/
  restarts : List Nat := []
  /-- debug run control halted the miller (14 R468); reset 0. -/
  dbgHalt : Bool := false
  /-- miller RAM, byte memory (14 R468 space 2); reset zero (06 R207 Cleared). -/
  ram : Memory := []
  /-- device configuration in use: SUBST_RESERVE (13 R431); reset 0. -/
  reserve : Nat := 0
  /-- DFLAGS[0] AUTH_HYBRID in use (13 R431); reset 0. -/
  authHybrid : Bool := false
deriving DecidableEq, Repr

/-- SYS block. -/
structure Sys where
  /-- SYS_SERIAL, 64 bits, from OTP (12 SYS); reset 0 DESIGN CHOICE log 6. -/
  serial : BitVec 64 := 0
  /-- SYS_BOOT.BOOT_ERR, 8 bits (12 SYS_BOOT); reset 0. -/
  bootErr : Nat := 0
  /-- SYS_BOOT.STAGE, 4 bits (12 SYS_BOOT); reset 0. -/
  stage : Stage := .rom
  /-- SYS_CHAIN.NODE, 0 when none, 4 bits (12 SYS_CHAIN, 11 R371); reset 0. -/
  node : Nat := 0
  /-- SYS_CHAIN.COUNT, 4 bits (11 R371); reset 0. -/
  count : Nat := 0
  /-- SYS_CHAIN.OVERFLOW, 1 bit (11 R371); reset 0. -/
  overflow : Bool := false
  /-- an ASSIGN gave this device, as the ninth, no node: LA faces node 8 (11 R360, R371); reset 0. -/
  ninth : Bool := false
  /-- SYS_RESET_CAUSE [6:0], W1C, 7 bits (12 R399); reset POR set. -/
  cause : BitVec 7 := 1
deriving DecidableEq, Repr

/-- An intent record of the OTP array (14 R448). -/
structure Intent where
  /-- [7:0] MARK; reset 0, log 6. -/
  mark : BitVec 8 := 0
  /-- [11:8] FROM; reset 0, log 6. -/
  frm : BitVec 4 := 0
  /-- [15:12] TO; reset 0, log 6. -/
  tgt : BitVec 4 := 0
  /-- [399:16] AUTH_DIGEST; reset 0, log 6. -/
  auth : BitVec 384 := 0
deriving DecidableEq, Repr

/-- The OTP array (14 R443). -/
structure Otp where
  /-- device unique secret, 256 bits (14 R443, 08 R257); reset 0 DESIGN CHOICE log 6. -/
  dus : BitVec 256 := 0
  /-- analog trims, 1,024 bits (14 R443); reset 0 DESIGN CHOICE log 6. -/
  trims : BitVec 1024 := 0
  /-- life-cycle copy 1, 64 bits (14 R443); reset 0 DESIGN CHOICE log 6. -/
  copy1 : BitVec 64 := 0
  /-- life-cycle copy 2, 64 bits (14 R443); reset 0 DESIGN CHOICE log 6. -/
  copy2 : BitVec 64 := 0
  /-- life-cycle copy 3, 64 bits (14 R443); reset 0 DESIGN CHOICE log 6. -/
  copy3 : BitVec 64 := 0
  /-- intent record, Blank to Test, 512 bits (14 R443); reset 0, log 6. -/
  intent0 : Intent := {}
  /-- intent record, Test to Production, 512 bits (14 R443); reset 0, log 6. -/
  intent1 : Intent := {}
  /-- intent record, Production to End of life, 512 bits (14 R443); reset 0, log 6. -/
  intent2 : Intent := {}
  /-- key-hash slots 0 to 9, 384 bits each (14 R443); reset 0 DESIGN CHOICE log 6. -/
  keys : Vector (BitVec 384) 10 := Vector.replicate 10 0
  /-- map rollback counters of domains 0 to 15, 128 bits each (14 R443); reset 0, log 6. -/
  floors : Vector (BitVec 128) 16 := Vector.replicate 16 0
  /-- firmware rollback counter, 255 bits (14 R443); reset 0, log 6. -/
  fwFloor : BitVec 255 := 0
  /-- evidence counters of classes 0 to 7, 64 bits each (14 R443); reset 0, log 6. -/
  evidence : Vector (BitVec 64) 8 := Vector.replicate 8 0
  /-- source fuse-disable bits, 256 bits (14 R443, 15 R496); reset 0, log 6. -/
  fuses : BitVec 256 := 0
deriving DecidableEq, Repr

/-- The decoded life cycle. -/
structure Life where
  /-- LCD_STAT.LC_STATE as decoded at the last reset, 4 bits (14 R446); reset Blank, log 6. -/
  state : LcState := .blank
  /-- voted codeword, LCD_CODE, 64 bits (14 R446); reset 0, log 6. -/
  code : BitVec 64 := 0
  /-- LCD_STAT.VOTE_SPLIT, 1 bit (14 R446); reset 0. -/
  split : Bool := false
  /-- a transition written in this power cycle: its target, for INTENT_TO (14 R449); reset none. -/
  written : Option LcState := none
deriving DecidableEq, Repr

/-- Debug level, session and nonce, and what the TAP holds (14 R459 to R468). -/
structure Debug where
  /-- debug level, 0 to 2 (14 R459); reset D0. -/
  level : Nat := 0
  /-- open session's level (14 R459); reset none. -/
  session : Option Nat := none
  /-- a D2 token verified; access opens 10 µs later (14 R463); reset 0. -/
  d2Opening : Bool := false
  /-- debug nonce, 256 bits (14 R462); reset none. -/
  nonce : Option (BitVec 256) := none
  /-- DBG_STAT [7:4], last result, 4 bits (14 R467); reset 0. -/
  lastResult : Nat := 0
  /-- DBG_ACCESS result: STATUS (14 R468); reset 0. -/
  accStatus : Nat := 0
  /-- DBG_ACCESS result: ADDR (14 R468); reset 0. -/
  accAddr : Word := 0
  /-- DBG_ACCESS result: DATA (14 R468); reset 0. -/
  accData : Word := 0
  /-- boundary-scan register (14 R467); reset empty DESIGN CHOICE log 8. -/
  scan : List Bool := []
  /-- what the TAP drives on the balls: 0 functional, 1 EXTEST, 2 CLAMP, 3 HIGHZ (14 R467); reset 0. -/
  drive : Nat := 0
  /-- DBG_CHAL capture register: nonce and serial, 320 bits (14 R467); reset 0. -/
  chal : BitVec 320 := 0
  /-- instruction register of the TAP, 8 bits (14 R467); reset IDCODE, PRESUMED log 104. -/
  ir : BitVec 8 := 0x02
  /-- TRST# is driven high; unwired, its pull-down holds it low and the TAP in reset (18 R538); reset unwired, DESIGN CHOICE log 130. -/
  trstHigh : Bool := false
deriving DecidableEq, Repr

/-- An entry of the AONB evidence record (15 R490). -/
structure Evidence where
  tick : Nat
  monitor : Nat
  cls : Nat
deriving DecidableEq, Repr

/-- The always-on backup island. -/
structure Aonb where
  /-- seal key, 256 bits (08, sealing); reset none DESIGN CHOICE log 8. -/
  sealKey : Option (BitVec 256) := none
  /-- SEAL_STATE of measurement block 4 (08 R276); reset 0. -/
  sealState : Nat := 0
  /-- evidence record, at most 16 entries (15 R490); reset empty. -/
  evidence : List Evidence := []
  /-- alarm classes latched on backup power, 8 bits (15 R490); reset 0. -/
  latched : BitVec 8 := 0
  /-- the evidence record is processed (15 R492); reset 1. -/
  processed : Bool := true
  /-- the AONB lost power altogether since the last start (15 R493); reset 1 DESIGN CHOICE log 8. -/
  lostPower : Bool := true
  /-- the AONB runs on backup power (17 R516); reset 0. -/
  backup : Bool := false
  /-- TICK at `now` = 0, 48 bits (16 R505); reset 0. -/
  tick0 : Nat := 0
  /-- time base is the AONB oscillator, so records carry TIME_APPROX (15 R478, 17 R525); reset 1 DESIGN CHOICE log 8. -/
  approx : Bool := true
deriving DecidableEq, Repr

/-- The tamper and environment monitors (15 R473 to R496). -/
structure Monitors where
  /-- TMP_ENV [10:0], W1C, 11 bits (12 TMP); reset 0. -/
  env : BitVec 11 := 0
  /-- TMP_PINS.ALARM, W1C, 8 bits (12 TMP, 15 R476); reset 0. -/
  pinAlarm : BitVec 8 := 0
  /-- TMP_PINS.LEVEL, 8 bits (15 R476); reset 0 DESIGN CHOICE log 8. -/
  pinLevel : BitVec 8 := 0
  /-- monitors whose condition is present now, 64 bits (15 R483); reset 0. -/
  present : BitVec 64 := 0
  /-- alarms detected and not yet combined: monitor and port mask (15 R485); reset none. -/
  detected : List (Nat × BitVec 32) := []
  /-- pin modes and FILTER - 1, one byte a pin (15 R494); reset OFF. -/
  pins : Vector Byte 8 := Vector.replicate 8 0
  /-- consecutive alarming samples of each pin (15 R474); reset 0. -/
  runs : Vector Nat 8 := Vector.replicate 8 0
  /-- LFSR of each pair, 16 bits (15 R475); reset 1 DESIGN CHOICE log 8. -/
  lfsr : Vector (BitVec 16) 4 := Vector.replicate 4 1
  /-- TLOW in units of 0.125 °C (15 R479, R494); reset -60 °C. -/
  tlow : Int := -480
  /-- THIGH in units of 0.125 °C (15 R479, R494); reset +135 °C. -/
  thigh : Int := 1080
  /-- configured actions of each monitor, 6 bits, [0] LOG to [5] RESET; none for the defaults of R473 (15 R494); reset none. -/
  actions : Option (List (BitVec 6 × BitVec 32)) := none
  /-- TMP_TEMP0 to 3, 12 bits each (12 TMP); reset 0 DESIGN CHOICE log 8. -/
  temps : Vector (BitVec 12) 4 := Vector.replicate 4 0
  /-- classes counted since the last device or power-on reset, 8 bits (15 R489); reset 0. -/
  counted : BitVec 8 := 0
  /-- a RESET of the combiner is pending, until its records are committed (15 R485, R486); reset 0. -/
  resetDue : Bool := false
deriving DecidableEq, Repr

/-- An event record (16 R505). -/
structure Record where
  subtick : Nat
  tick : Nat
  source : Nat
  severity : Nat
  flags : BitVec 8
  /-- log sequence, none (0xFFFF_FFFF) for an event that is not logged. -/
  seq : Option Nat
  data : List Byte
deriving DecidableEq, Repr

/-- The event logic (16 R497 to R502). Bit s of each array is source s. -/
structure Events where
  /-- EVT_STAT0 to 31, W1C, 1,024 bits (12 EVT); reset 0. -/
  stat : BitVec 1024 := 0
  /-- EVT_MASK0 to 31, RW, 1,024 bits (16 R500); reset 0. -/
  mask : BitVec 1024 := 0
  /-- EVT_OWN0 to 31 as changed by the owner, RW, 1,024 bits, held as the difference from the defaults of R500 (16 R500); reset 0, which is the default. -/
  ownDiff : BitVec 1024 := 0
  /-- EVT_ALERT0 to 31 likewise, RW, 1,024 bits (16 R500); reset 0, which is the default. -/
  alertDiff : BitVec 1024 := 0
  /-- alert latches, 1,024 bits (16 R502); reset 0. -/
  latch : BitVec 1024 := 0
  /-- EVT_LAST: severity and source, none while VALID is 0 (12 EVT); reset VALID 0. -/
  last : Option (Nat × Nat) := none
  /-- EVT_CNT_RAISED, CNT, 32 bits (12 EVT); reset 0. -/
  raised : Word := 0
  /-- event trace: the last 256 records raised, newest first (14 R468 space 1); reset none. -/
  trace : List Record := []
  /-- records routed to the link owner and not yet sent (16 R501, 11 R369); reset none. -/
  toOwner : List Record := []
  /-- EVT frames awaiting acknowledgement, oldest first, at most 32: tag, epoch and record (11 R369); reset none. -/
  unacked : List (Nat × Nat × Record) := []
  /-- next EVT tag, 10 bits (11 R369); reset 0. -/
  nextTag : Nat := 0
  /-- EVT epoch, 4 bits (11 R370); reset 0 DESIGN CHOICE log 11. -/
  epoch : Nat := 0
deriving DecidableEq, Repr

/-- The black box and the LOG block (16 R507 to R512). -/
structure Log where
  /-- records written, by index, indices rising; an unlisted one reads 0xFF (16 R507); reset none, log 7. -/
  records : List (Nat × Record) := []
  /-- next race-area index, 16 bits (16 R508); reset 4,096, log 7. -/
  race : Nat := 4096
  /-- foundation records written, 0 to 4,096 (16 R508); reset 0, log 7. -/
  found : Nat := 0
  /-- LOG_SEQ: sequence of the next record, 32 bits (16 R509); reset 0, log 7. -/
  seq : Nat := 0
  /-- records queued for writing, oldest first, at most 64 (16 R510); reset none. -/
  queue : List Record := []
  /-- LOG_STAT.WFAULT, W1C, 1 bit (12 LOG); reset 0. -/
  wfault : Bool := false
  /-- LOG_STAT.HWLOST, W1C, 1 bit (12 R395); reset 0. -/
  hwlost : Bool := false
  /-- LOG_WIN.BASE, RWH, 16 bits (12 LOG); reset 0. -/
  base : BitVec 16 := 0
  /-- LOG_WIN.ADVANCE, RW, 1 bit (12 LOG); reset 0. -/
  advance : Bool := false
deriving DecidableEq, Repr

/-- A release record of one port as loaded into the sequencer (06 R197). -/
structure RelRec where
  pred : BitVec 32 := 0
  hrdy : BitVec 32 := 0
  skip : BitVec 32 := 0
  settleMs : Nat := 0
  brakeMinMs : Nat := 10
  tmo10ms : Nat := 0
deriving DecidableEq, Repr

/-- The release sequencer (06 R199, R202). -/
structure Release where
  /-- records loaded at the last miller start (06 R199); reset the records of R198 for no stored graph. -/
  records : Vector RelRec 32 := Vector.replicate 32 {}
  /-- ports withheld because the graph read was invalid, 32 bits (06 R199); reset 0. -/
  withheld : BitVec 32 := 0
deriving DecidableEq, Repr

/-- TCG DICE TcbInfo of the FirmwareID certificate (08 R263, R264). -/
structure TcbInfo where
  vendor : List Byte
  model : List Byte
  version : List Byte
  svn : Nat
  layer : Nat
  /-- FW_DIGEST, a SHA-384 digest. -/
  fwid : D384
  notConfigured : Bool
  notSecure : Bool
  recovery : Bool
  debug : Bool
deriving DecidableEq, Repr

/-- keyUsage of a certificate (08 R263). -/
inductive CertUse where
  | keyCertSign | digitalSignature
deriving DecidableEq, Repr

/-- A certificate that the ROM builds (08 R263). -/
structure Cert where
  /-- subject CN. -/
  cn : List Byte
  /-- subject serialNumber. -/
  serialNumber : List Byte
  /-- issuer CN. -/
  issuer : List Byte
  serial : List Byte
  notBefore : List Byte
  notAfter : List Byte
  /-- subject public key, x then y. -/
  subject : List Byte
  /-- basicConstraints: CA TRUE with this pathLen, or CA FALSE. -/
  pathLen : Option Nat
  usage : CertUse
  /-- extKeyUsage, the arcs of its object identifier. -/
  eku : Option (List Nat)
  ski : List Byte
  aki : List Byte
  tcb : Option TcbInfo
  /-- ecdsa-with-SHA384 signature, r then s. -/
  sig : List Byte
deriving DecidableEq, Repr

/-- The device's identity (08 R257 to R265). -/
structure Identity where
  /-- the certificates that the ROM built, DeviceID before FirmwareID before alias (08 R263, R265); reset none. -/
  certs : List Cert := []
  /-- alias public key (08 R260); reset none. -/
  aliasPub : Option (List Byte) := none
  /-- FW_DIGEST, 384 bits (08 R258); reset 0. -/
  fwDigest : D384 := 0
  /-- FW_SVN, 64 bits (08 R258); reset 0. -/
  fwSvn : Nat := 0
  /-- UNSIGNED of measurement block 4 (08 R262); reset 0. -/
  unsignedFw : Bool := false
  /-- measurement block 5, as the configuration was loaded last (08 R276, R278); reset 0. -/
  cfgDigest : D384 := 0
  /-- an alarm action ZERO has taken the alias key since the last device reset (08 R280); reset 0. -/
  zeroed : Bool := false
deriving DecidableEq, Repr

/-- The DRBG (08 R281, R282). -/
structure Drbg where
  /-- DRBG_FAILED, 1 bit (08 R282); reset 0. -/
  failed : Bool := false
  /-- instantiated by the ROM, 1 bit (08 R281); reset 0. -/
  seeded : Bool := false
  /-- generate requests since the last seed (08 R281); reset 0. -/
  requests : Nat := 0
  /-- consecutive failed health tests (08 R282); reset 0. -/
  failedTests : Nat := 0
deriving DecidableEq, Repr

/-- SPDM connection phase of a transport (08 R270). -/
inductive SpdmPhase where
  | start | version | capabilities | negotiated
deriving DecidableEq, Repr

/-- Where an SPDM response goes: out on its transport, to the mailbox request that carried the message, or into the answer to a request of the secured session (13 R413, R423). -/
inductive SpdmRoute where
  | wire
  | mailbox (m : MbxId)
  | session (plain : List Byte) (time : Nat)
deriving DecidableEq, Repr

/-- A response that waits for its signature at the engine (08 R275). -/
structure SpdmJob where
  /-- the engine request that makes the signature: the model's own number. -/
  id : Nat
  route : SpdmRoute
  /-- the CHUNK_SEND that completed the request. -/
  chunk : Option Nat
  code : Nat
  /-- the response up to its signature. -/
  body : List Byte
  /-- the request's bytes. -/
  raw : List Byte
  /-- the session that a KEY_EXCHANGE opens. -/
  session : Option Nat
deriving DecidableEq, Repr

/-- One SPDM transport (08 R266 to R274). -/
structure Spdm where
  /-- connection phase (08 R270); reset start. -/
  phase : SpdmPhase := .start
  /-- negotiated version, 0x12 or 0x13, 0 before GET_CAPABILITIES (08 R268); reset 0. -/
  version : Nat := 0
  /-- response that waits for its signature (08 R275); reset none. -/
  signing : Option SpdmJob := none
  /-- transcript that the session's keys are made from: those of the handshake, then those of the session (08 R272); reset none. -/
  keys : List Byte := []
  /-- sequence numbers of the next secured message in and out under those keys (08 R272, DSP0277); reset 0. -/
  seqIn : Nat := 0
  seqOut : Nat := 0
  /-- the miller context that hashes the connection's transcript (10 R322); reset none. -/
  ctx : Option (Fin 16) := none
  /-- requester's DataTransferSize (08 R271); reset 0. -/
  dataSize : Nat := 0
  /-- secured session: its ID (08 R272); reset none. -/
  session : Option Nat := none
  /-- the session's handshake is complete (08 R270); reset 0. -/
  established : Bool := false
  /-- the session's keys are held (14 R463, 15 R481); reset 0. -/
  keyed : Bool := false
  /-- held large response: chunks fetched so far, its length and the bytes left (08 R271); reset none. -/
  large : Option (Nat × Nat × List Byte) := none
  /-- chunks received of a large request, oldest first (08 R270); reset none. -/
  chunks : List (List Byte) := []
  /-- transcript of the connection, for signatures (08 R275); reset none. -/
  transcript : List Byte := []
  /-- SPDM error counter (08 R274), width not given; reset 0. -/
  errors : Nat := 0
deriving DecidableEq, Repr

/-- Who has an entry in the engine queue (09 R304). -/
inductive PkeUser where
  | owner | miller
deriving DecidableEq, Repr

/-- A request in the engine queue (09 R304). -/
structure PkeReq where
  user : PkeUser
  cmd : Word
  len0 : Nat
  len1 : Nat
  arg : Nat
  /-- operand memory of a miller request. -/
  input : Memory
  /-- it is running a second time after a fault (09 R295). -/
  second : Bool
  /-- it signs the SPDM response of this number (08 R275). -/
  job : Option Nat := none
deriving DecidableEq, Repr

/-- State of a core, with the codes of PKE_CORE (09 R311). -/
inductive CoreState where
  | idle | millerOp | ownerGrant | ownerOp | ownerDone | kat | powerKat | retired
deriving DecidableEq, Repr

/-- One core of the public-key engine (09). -/
structure Core where
  /-- core state (09 R311); reset idle. -/
  state : CoreState := .idle
  /-- operation on the core (09 R304); reset none. -/
  req : Option PkeReq := none
  /-- times of its transients, ns (09 R295); reset none. -/
  transients : List Nat := []
  /-- RECOVERY is in force (09 R291); reset 0. -/
  recovery : Bool := false
  /-- time of its last fault, ns (09 R291, R295); reset 0. -/
  faultAt : Nat := 0
  /-- 16 KiB input and output half of its operand memory (09 R309); reset zero. -/
  mem : Memory := []
  /-- 16 KiB working half, which no master reads (09 R309); reset zero. -/
  work : Memory := []
  /-- when the owner's 10 ms limit ends, ns (09 R305); reset 0. -/
  limit : Nat := 0
deriving DecidableEq, Repr

/-- The public-key engine and the owner's window (09). -/
structure Pke where
  /-- core 0; reset idle. -/
  core0 : Core := {}
  /-- core 1; reset idle. -/
  core1 : Core := {}
  /-- engine queue, head first, at most 16 (09 R304); reset none. -/
  queue : List PkeReq := []
  /-- miller work waiting in the miller (09 R304); reset none. -/
  waiting : List PkeReq := []
  /-- PKE_CMD, RWP, 32 bits (09 R311); reset 0. -/
  cmd : Word := 0
  /-- PKE_LEN0, RWP, 32 bits (09 R311); reset 0. -/
  len0 : Word := 0
  /-- PKE_LEN1, RWP, 32 bits (09 R311); reset 0. -/
  len1 : Word := 0
  /-- PKE_ARG, RWP, 32 bits (09 R311); reset 0. -/
  arg : Word := 0
  /-- PKE_STAT.STATUS, 8 bits (09 R312); reset 0x00. -/
  status : Nat := 0
  /-- PKE_STAT.POSTERR, W1C, 1 bit (09 R311); reset 0. -/
  posterr : Bool := false
  /-- PKE_STAT.MODE, 2 bits (09 R311); reset 0. -/
  mode : Nat := 0
  /-- PKE_STAT.CORE, 1 bit (09 R311); reset 0. -/
  coreNo : Nat := 0
  /-- PKE_CNT_DONE, CNT, 32 bits (09 R311); reset 0. -/
  cntDone : Word := 0
  /-- PKE_CNT_ABORT, CNT, 32 bits (09 R311); reset 0. -/
  cntAbort : Word := 0
  /-- PKE_CNT_FAULT, CNT, 32 bits (09 R311); reset 0. -/
  cntFault : Word := 0
  /-- sealed key slot: alias private key and its public key (09 R301); reset empty. -/
  sealedKey : Option (Nat × List Byte) := none
  /-- status of the miller's operations completed, newest first (09 R312); reset none. -/
  millerDone : List Nat := []
deriving DecidableEq, Repr

/-- State of a digest context, with the codes of DGE_CTXn_STAT (10 R325). -/
inductive CtxState where
  | free | ready | opened | finalizing | done
deriving DecidableEq, Repr

/-- A digest context (10). The chaining state is held as the message bytes taken in. -/
structure Context where
  /-- STATE, 3 bits (10 R325); reset FREE. -/
  state : CtxState := .free
  /-- STAT.TAG, 16 bits (10 R325); reset 0. -/
  tag : BitVec 16 := 0
  /-- CFG.ALG, RW, 2 bits (10 R325); reset 0. -/
  cfgAlg : Nat := 0
  /-- LEN_HI and LEN_LO, RW, 48 bits (10 R325); reset 0. -/
  cfgLen : Nat := 0
  /-- ALG latched at START, 2 bits (10 R327); reset 0. -/
  alg : Nat := 0
  /-- LEN latched at START, 48 bits (10 R327); reset 0. -/
  len : Nat := 0
  /-- message bytes taken in; COUNT is their number, 48 bits (10 R328); reset none. -/
  msg : List Byte := []
  /-- BUSY: partial-block buffer full and not yet dispatched, 1 bit (10 R325); reset 0. -/
  busy : Bool := false
  /-- a FINAL kept while BUSY (10 R331); reset 0. -/
  finalKept : Bool := false
  /-- SHORT, W1C, 1 bit (10 R325); reset 0. -/
  short : Bool := false
  /-- TRUNC, W1C, 1 bit (10 R325); reset 0. -/
  trunc : Bool := false
  /-- POSTERR, W1C, 1 bit (10 R325); reset 0. -/
  posterr : Bool := false
  /-- FAULT, 1 bit (10 R321); reset 0. -/
  fault : Bool := false
  /-- digest, 0 to 64 bytes (10 R325); reset zero. -/
  digest : List Byte := []
deriving DecidableEq, Repr

/-- The digest contexts and the DGE block (10). -/
structure Dge where
  /-- contexts 0 to 15 (10); reset FREE. -/
  ctx : Vector Context 16 := Vector.replicate 16 {}
  /-- DGE_ALLOC.TAG, RW, 16 bits (10 R325); reset 0. -/
  tag : BitVec 16 := 0
  /-- DGE_ALLOC_RES.TAG, 16 bits (10 R325); reset 0. -/
  resTag : BitVec 16 := 0
  /-- DGE_ALLOC_RES.CTX, 2 bits (10 R325); reset 0. -/
  resCtx : Nat := 0
  /-- DGE_ALLOC_RES.RESULT, 2 bits (10 R325); reset 0. -/
  result : Nat := 0
  /-- DGE_CNT_FULL, CNT, 32 bits (10 R325); reset 0. -/
  cntFull : Word := 0
  /-- contexts used and verdict of the miller's latest HSS/LMS verification, contexts 0 for CTX_FULL (10 R318, R322); reset none. -/
  hss : Option (Nat × Bool) := none
deriving DecidableEq, Repr

/-- A frame as its header gives it (11 R347). -/
structure Frame where
  type : Nat
  dest : Nat
  src : Nat
  vc : Bool
  bcast : Bool
  epoch : Nat
  tag : Nat
  status : Nat
  argA : Nat
  argB : Nat
  payload : List Byte
deriving DecidableEq, Repr

/-- A frame held in a replay buffer (11 R356). -/
structure Replay where
  hseq : Nat
  frame : Frame
  stomped : Bool
  sends : Nat
deriving DecidableEq, Repr

/-- One Ecorn link port (11). -/
structure LinkPort where
  /-- TSTATE, 4 bits, 0 down to 6 ACTIVE (11 R340); reset 0. -/
  tstate : Nat := 0
  /-- PEER_ROLE: 0 none, 1 device, 2 adapter (12 LNK); reset 0. -/
  peerRole : Nat := 0
  /-- retired lanes, 4 bits (11 R343); reset 0. -/
  retired : BitVec 4 := 0
  /-- lanes carrying the block stream, 4 bits (12 LNK); reset 0. -/
  inService : BitVec 4 := 0
  /-- WIDTH in lanes, 0 when down (11 R342); reset 0. -/
  width : Nat := 0
  /-- consecutive failed attempts (11 R340); reset 0. -/
  failedTries : Nat := 0
  /-- signal energy detected on a lane (11 R340, 17 R518); reset 0. -/
  energy : Bool := false
  /-- transient times of each lane, ns (11 R343); reset none. -/
  transients : Vector (List Nat) 4 := Vector.replicate 4 []
  /-- times of lane errors in the last 1 ms (11 R343); reset none. -/
  laneErrs : Vector (List Nat) 4 := Vector.replicate 4 []
  /-- next HSEQ to send, 12 bits (11 R356); reset 0 DESIGN CHOICE log 11. -/
  txSeq : Nat := 0
  /-- replay buffer, oldest first (11 R356); reset none. -/
  replay : List Replay := []
  /-- next HSEQ expected, 12 bits (11 R357); reset 0 DESIGN CHOICE log 11. -/
  rxSeq : Nat := 0
  /-- accepted frames await an ACK (11 R357); reset 0. -/
  ackDue : Bool := false
  /-- after a NAK, frames are discarded until the expected number (11 R357); reset 0. -/
  nakSent : Bool := false
  /-- receiver's counters G of the pools VC0 TERM, VC0 FWD, VC1 TERM, VC1 FWD, 8 bits each (11 R361); reset 0 until ACTIVE. -/
  g : Vector (BitVec 8) 4 := Vector.replicate 4 0
  /-- credits charged by the peer, per pool, 8 bits each (11 R362); reset 0. -/
  used : Vector (BitVec 8) 4 := Vector.replicate 4 0
  /-- transmitter's counters C, 8 bits each (11 R361); reset 0. -/
  c : Vector (BitVec 8) 4 := Vector.replicate 4 0
  /-- G_last, 8 bits each (11 R361); reset 0. -/
  glast : Vector (BitVec 8) 4 := Vector.replicate 4 0
  /-- a G value changed since the last CREDIT (11 R362); reset 0. -/
  creditDue : Bool := false
  /-- VC0 TERM pool, oldest first (11 R360); reset none. -/
  term0 : List Frame := []
  /-- VC1 TERM pool, oldest first (11 R360); reset none. -/
  term1 : List Frame := []
  /-- VC0 FWD and VC1 FWD pools: frames received here that are to leave the other port, oldest first (11 R360, R365); reset none. -/
  fwd : List Frame := []
  /-- frames to leave through this port: the device's own (11 R363); reset none. -/
  txq : List Frame := []
  /-- the last frame started on VC0, and on VC1, was a forwarded one, for the alternation of R363; reset 0. -/
  lastFwd0 : Bool := false
  lastFwd1 : Bool := false
  /-- index k of the next block of the port's stream, for its striping over the lanes (11 R337); reset 0. -/
  stream : Nat := 0
  /-- VC0 frames started in the last 640 ns: when and their padded length (11 R363); reset none. -/
  vc0 : List (Nat × Nat) := []
  /-- requests being served: source, tag, epoch (11 R368); reset none. -/
  serving : List (Nat × Nat × Nat) := []
  /-- blocks sent on each lane since the last ALIGN, a multiple of 4,096 (11 R338); reset 0. -/
  blocks : Nat := 0
  /-- LANEERR0 to 3, CNT, 32 bits each (11 R383); reset 0. -/
  cntLaneErr : Vector Word 4 := Vector.replicate 4 0
  /-- LANEFLT0 to 3, CNT, 32 bits each (11 R383); reset 0. -/
  cntLaneFlt : Vector Word 4 := Vector.replicate 4 0
  /-- RETRAIN, HCRC, CRC, STOMP_RX, STOMP_TX, NAK_TX, NAK_RX, REPLAY, REPLAY_TMO, DUP, CREDIT_OVF, FORMAT, NOROUTE, DOWN_DROP, CNT, 32 bits each (11 R383, 12 R400); reset 0. -/
  cnt : Vector Word 14 := Vector.replicate 14 0
deriving DecidableEq, Repr

/-- The Ecorn link and its device counters (11 R383). -/
structure Link where
  /-- port LA; reset down. -/
  la : LinkPort := {}
  /-- port LB; reset down. -/
  lb : LinkPort := {}
  /-- LNK_CNT_TAG_DUP, CNT, 32 bits (12 R400); reset 0. -/
  cntTagDup : Word := 0
  /-- LNK_CNT_STALE, CNT, 32 bits (12 R400); reset 0. -/
  cntStale : Word := 0
  /-- LNK_CNT_EVT_DROP, CNT, 32 bits (12 R400); reset 0. -/
  cntEvtDrop : Word := 0
  /-- LNK_CNT_DENIED, CNT, 32 bits (12 R400); reset 0. -/
  cntDenied : Word := 0
  /-- LNK_CNT_BULK_DROP, CNT, 32 bits (12 R400); reset 0. -/
  cntBulkDrop : Word := 0
deriving DecidableEq, Repr

/-- The fantail and the FAN block (11 R373 to R382, 12 FAN). -/
structure Fan where
  /-- OWNER, none is 0xFF (12 FAN_STAT); reset none. -/
  owner : Option Master := none
  /-- SESSION_EPOCH, 4 bits (12 FAN_STAT); reset 0. -/
  epoch : Nat := 0
  /-- ROUND, 8 bits (12 FAN_STAT); reset 0. -/
  round : Nat := 0
  /-- WINDOW, 1 bit (12 FAN_STAT); reset 0. -/
  window : Bool := false
  /-- a window is to open once the miller has loaded the device configuration record (11 R377, R381, 06 R207); reset 0. -/
  due : Bool := false
  /-- a window has opened since the last device reset: the next one is not the first (11 R377); reset 0. -/
  opened : Bool := false
  /-- when the window ends, ns (11 R377); reset 0. -/
  windowEnd : Nat := 0
  /-- the current offer's named successor, DIRECTED (11 R379); reset none. -/
  directed : Option Master := none
  /-- candidates of the open window (11 R377); reset none. -/
  cands : List Master := []
  /-- NONCE of the current OFFER, 256 bits (12 FAN_NONCE); reset 0. -/
  nonce : BitVec 256 := 0
  /-- an OFFER with that nonce stands; reset 0. -/
  offered : Bool := false
  /-- when the lease ends, ns (11 R378); reset 0. -/
  leaseEnd : Nat := 0
  /-- lease time left while a miller restart stops the timer (06 R210); reset none. -/
  leasePaused : Option Nat := none
  /-- FAN_PRIO: priorities of masters 0, 14 and 15, 8 bits each (11 R373); reset 192, 64, 128. -/
  prio0 : Nat := 192
  prio14 : Nat := 64
  prio15 : Nat := 128
  /-- FAN_SEND.KIND, RWP, 4 bits (12 FAN_SEND); reset 0. -/
  sendKind : Nat := 0
  /-- FAN_SEND.BUSY, 1 bit (12 FAN_SEND); reset 0. -/
  sendBusy : Bool := false
  /-- FAN_MSG as the KIND write sent it, 232 bytes (12 FAN_SEND); reset none. -/
  sent : List Byte := []
  /-- FAN_SEND.POSTERR, W1C, 1 bit (12 FAN_SEND); reset 0. -/
  sendPosterr : Bool := false
  /-- FAN_RESULT.NEW, W1C, 1 bit (12 FAN_RESULT); reset 0. -/
  resNew : Bool := false
  /-- FAN_RESULT.SESSION_EPOCH, 4 bits (12 FAN_RESULT); reset 0. -/
  resEpoch : Nat := 0
  /-- FAN_RESULT.OWNER, none is 0xFF (12 FAN_RESULT); reset none. -/
  resOwner : Option Master := none
  /-- FAN_RESULT.STATUS, 8 bits (12 FAN_RESULT); reset 0. -/
  resStatus : Nat := 0
  /-- FAN_MSG, 256 bytes, RW (12 FAN); reset 0. -/
  msg : Memory := []
  /-- FAN_CNT_REFUSED, CNT, 32 bits (12 FAN); reset 0. -/
  cntRefused : Word := 0
deriving DecidableEq, Repr

/-- A response of the miller (13 R405). -/
structure Response where
  status : Nat
  detail : Nat
  body : List Byte
deriving DecidableEq, Repr

/-- An accepted request (13 R404, R406). -/
structure Request where
  cmd : Nat
  seq : Nat
  epoch : Nat
  token : List Byte
  body : List Byte
  /-- key-hash digest of the authorization's entries, for R448. -/
  authDigest : BitVec 384
  /-- it carried an authorization block. -/
  authorized : Bool
  time : Nat
  /-- the engine ends the command's own verification as FAULT on both runs (log 3). -/
  ownFault : Bool
  /-- response once the miller has one. -/
  result : Option Response
  /-- the durable effect of the command once it has run: 1 a settings write or slot-record write, 2 OTP bits (13 R432). -/
  effect : Nat := 0
  /-- the session that the request would open meets an ending event in its cycle (14 R465; log 12). -/
  ended : Bool := false
deriving DecidableEq, Repr

/-- One mailbox (13 R404 to R412, 12 MBX). -/
structure Mailbox where
  /-- request buffer, 4 KiB or 1 KiB, RW (12 MBX); reset 0. -/
  req : Memory := []
  /-- response buffer, 4 KiB or 1 KiB (12 MBX); reset 0. -/
  rsp : Memory := []
  /-- DOORBELL.RING, W1S, 1 bit (12 MBX, R394); reset 0. -/
  ring : Bool := false
  /-- STAT.REQ_BUSY, 1 bit (12 MBX_STAT); reset 0. -/
  busy : Bool := false
  /-- STAT.RSP_READY, 1 bit (12 MBX_STAT); reset 0. -/
  ready : Bool := false
  /-- STAT.RSP_SEQ, 12 bits (12 MBX_STAT); reset 0. -/
  rspSeq : Nat := 0
  /-- STAT.SESSION_EPOCH, 4 bits (12 MBX_STAT); reset 0. -/
  rspEpoch : Nat := 0
  /-- sequence last accepted, none when unset (13 R410); reset unset. -/
  lastSeq : Option Nat := none
  /-- accepted request (13 R406); reset none. -/
  accepted : Option Request := none
deriving DecidableEq, Repr

/-- An SPDM message that arrives: in the clear, in its session by its own row, or a secured message (08 R270, R272, R273). -/
inductive SpdmArrival where
  | clear (r : SpdmReq) (raw : List Byte)
  | inSession (r : SpdmReq) (raw : List Byte)
  | secured (sessionId : Nat) (data : List Byte)
deriving DecidableEq, Repr

/-- A message that waits for its turn behind mailbox requests (13 R408). -/
structure SpdmWait where
  /-- mailbox requests accepted before it and not yet answered. -/
  ahead : Nat
  transport : Transport
  arrival : SpdmArrival
deriving DecidableEq, Repr

/-- The mailboxes and what is held beside them (13). -/
structure Mailboxes where
  /-- owner mailbox; reset as its fields. -/
  owner : Mailbox := {}
  /-- OBS0; reset as its fields. -/
  obs0 : Mailbox := {}
  /-- OBS1; reset as its fields. -/
  obs1 : Mailbox := {}
  /-- OBS2; reset as its fields. -/
  obs2 : Mailbox := {}
  /-- requests accepted, in the miller's order (13 R408); reset none. -/
  order : List MbxId := []
  /-- SPDM messages that wait behind accepted requests, in the order of their arrival (13 R408); reset none. -/
  spdm : List SpdmWait := []
  /-- object buffer, 32 KiB (13 R420); reset 0. -/
  object : Memory := []
  /-- authorization nonce, 256 bits (13 R417); reset none. -/
  nonce : Option (BitVec 256) := none
  /-- a device reset begins at RSP_ACK or 100 µs after RSP_READY (13 R427, 14 R452); reset 0. -/
  resetDue : Bool := false
deriving DecidableEq, Repr

/-- The I3C target (08 R267, 11 R374). -/
structure I3c where
  /-- dynamic address, 7 bits (08 R267); reset none. -/
  addr : Option (BitVec 7) := none
  /-- MCTP endpoint ID, 8 bits (08 R267); reset 0 DESIGN CHOICE log 8. -/
  eid : Byte := 0
deriving DecidableEq, Repr

/-- State of a power domain (17 R513). -/
inductive DomState where
  | on | retain | off
deriving DecidableEq, Repr

/-- Device-wide power states (17 R516). -/
inductive PowerState where
  | active | doze | park | deep | backup
deriving DecidableEq, Repr

/-- Where VIO_PGn stands (18 R534). -/
inductive VioState where
  | v18 | v33 | out
deriving DecidableEq, Repr

/-- The governor and the supplies it sees (17, 12 GOV). -/
structure Gov where
  /-- GOV_STATE.STATE, 3 bits (12 GOV, 17 R516); reset ACTIVE. -/
  state : PowerState := .active
  /-- the 24 domains, GOV_DOM_ON and GOV_DOM_RET (17 R513, R514); reset the domains powered when the ROM starts: AONB, AONM, SEC, PKE, DGA, LOG, OTP, DESIGN CHOICE log 8. -/
  dom : Vector DomState 24 := Vector.ofFn fun d : Fin 24 => if d.val < 5 ∨ d.val = 21 ∨ d.val = 23 then .on else .off
  /-- PORST# is low (06 R206); reset low DESIGN CHOICE log 8. -/
  porstLow : Bool := true
  /-- when PORST# fell last, ns (06 R206); reset 0 DESIGN CHOICE log 1. -/
  porstAt : Nat := 0
  /-- the block is in a power-on reset whose ROM has not started (06 R560); reset 1. -/
  romPending : Bool := true
  /-- the power-on reset of this fall of PORST# has been made, so a further one is VAUX's (06 R206); reset 1. -/
  porstDone : Bool := true
  /-- the reset whose ROM has not started is a power-on reset (06 R206, R560); reset 1. -/
  coldStart : Bool := true
  /-- VDD, which feeds the PKE cores, was lost since the ROM started last (09 R296, 17 R528); reset 0. -/
  vddLost : Bool := false
  /-- when a wake source last came while a deeper state was being entered, ns: that entry goes no further, nor does one whose hold time ends in that cycle (17 R520); reset none. -/
  wokenAt : Option Nat := none
  /-- VAUX above its power-on-reset threshold (17 R529); reset 1 DESIGN CHOICE log 8. -/
  vaux : Bool := true
  /-- VDD above its monitor threshold (15 R477); reset 1 DESIGN CHOICE log 8. -/
  vdd : Bool := true
  /-- VDDM above its monitor threshold (15 R477); reset 1 DESIGN CHOICE log 8. -/
  vddm : Bool := true
  /-- VDDL in range (12 GOV_SUPPLY); reset 1 DESIGN CHOICE log 8. -/
  vddl : Bool := true
  /-- VDDLH in range (12 GOV_SUPPLY); reset 1 DESIGN CHOICE log 8. -/
  vddlh : Bool := true
  /-- VIO_HOME in range (12 GOV_SUPPLY); reset 1 DESIGN CHOICE log 8. -/
  vioHome : Bool := true
  /-- VBAT present (12 GOV_SUPPLY); reset 1 DESIGN CHOICE log 8. -/
  vbat : Bool := true
  /-- VIO_PG0 to 7 (12 GOV_SUPPLY, 18 R534); reset 1.8 V DESIGN CHOICE log 8. -/
  vioPg : Vector VioState 8 := Vector.replicate 8 .v18
  /-- VIO_PG0 to 7 measured at 3.3 V, above 2.60 V, in range or not (12 GOV_SUPPLY, 18 R534); reset 0 DESIGN CHOICE log 8. -/
  vioHigh : BitVec 8 := 0
  /-- VIO_PG0 to 7 back in the window, with the 10 ms of R217 not over (06 R217, 18 R534); reset 0. -/
  vioBack : BitVec 8 := 0
  /-- REFCLK present (12 GOV_CLK); reset 1 DESIGN CHOICE log 8. -/
  refclk : Bool := true
  /-- crystal present (12 GOV_CLK, 17 R525); reset 0 DESIGN CHOICE log 8. -/
  crystal : Bool := false
  /-- core PLL locked (12 GOV_CLK, 17 R523); reset 1 DESIGN CHOICE log 8. -/
  corePll : Bool := true
  /-- PKE PLL locked (12 GOV_CLK, 17 R523); reset 1 DESIGN CHOICE log 8. -/
  pkePll : Bool := true
  /-- miller PLL locked (12 GOV_CLK, 17 R523); reset 1 DESIGN CHOICE log 8. -/
  millerPll : Bool := true
deriving DecidableEq, Repr

/-- A 66-bit block of a lane before it is scrambled (11 R336): eight data bytes, or a control block's type and its bits [55:0]. -/
inductive LinkBlock where
  | data (bytes : List Byte)
  | control (type : Byte) (bits : BitVec 56)
deriving DecidableEq, Repr

/-- An MCTP packet over I3C: at most 64 bytes of its message (08 R267). -/
structure MctpPacket where
  /-- endpoint ID of the device. -/
  source : Byte
  som : Bool
  eom : Bool
  /-- packet sequence number, 2 bits. -/
  seq : Nat
  payload : List Byte
deriving DecidableEq, Repr

/-- What the block drives outwards, in order: the model's own record of its outputs (log 9). -/
inductive Out where
  /-- bytes driven on Pn_HIO in a transaction's data cycles; the rest are undriven. -/
  | host (p : PortId) (bytes : List Byte)
  /-- poison pull-ups on Pn_HIO until Pn_HCS# rises (02 R81). -/
  | poison (p : PortId)
  /-- a command on the tailrace: chip selects, opcode, physical address, data, and the address bytes and dummy cycles of its address phase (05 R166). -/
  | tail (p : PortId) (cs0 cs1 : Bool) (op : Byte) (addr : Option Nat) (data : List Byte) (addrBytes : Nat := 0) (dummy : Nat := 0)
  /-- an array read of the device's own: chip select, opcode, mode, clock in MHz, address bytes, physical address, dummy count, length (02 R556). -/
  | devRead (p : PortId) (cs : Bool) (op : Byte) (mode : BusMode) (mhz addrBytes addr dummy len : Nat)
  /-- the volatile dummy setting programmed into the real part of a chip select (02 R53). -/
  | partDummy (p : PortId) (cs : Bool) (n : Nat)
  /-- reset of the real parts by a method of R76: 1 FRST#, 2 JESD252, 3 software pair. -/
  | partReset (p : PortId) (method : Nat)
  /-- consecutive blocks of a link port's stream, each with the lane it is striped to (11 R336, R337). -/
  | link (l : LinkId) (blocks : List (Nat × LinkBlock))
  /-- lane blocks sent in one slot on several lanes: a lane and its block (11 R337). -/
  | lanes (l : LinkId) (blocks : List (Nat × LinkBlock))
  /-- a substitution request routed to the owner: the map digest, IMAGE_DIGEST and L that it carries (07 R251). -/
  | substRequest (p : PortId) (map : D384) (image : D384) (len : Nat)
  /-- bytes returned to an I3C private read. -/
  | i3cBytes (bytes : List Byte)
  /-- an in-band interrupt of the I3C target (08 R267). -/
  | ibi
  /-- an erase block of a firmware slot is erased on the home port: the slot, and the block's offset in it (13 R439). -/
  | homeErase (one : Bool) (offset : Nat)
  /-- bytes are programmed into a firmware slot on the home port (13 R439). -/
  | homeProgram (one : Bool) (offset : Nat) (bytes : List Byte)
  /-- the packets of an MCTP message over I3C (08 R267). -/
  | mctp (packets : List MctpPacket)
  /-- an SPDM response through a mailbox. -/
  | spdm (t : Transport) (bytes : List Byte)
  /-- an answer of the log window to a master. -/
  | logWords (m : Master) (ws : List Word)
  /-- a capture of the TAP. -/
  | tap (bits : List Bool)
deriving DecidableEq, Repr

/-- The state of the block. -/
structure State where
  /-- commands waiting, first in first out: the model's own (log 10); reset empty. -/
  pending : List Instr
  /-- time in ns since the model's zero: the model's own clock (log 1); reset 0 DESIGN CHOICE log 1. -/
  now : Nat
  /-- counter that picks the next free value: the model's own (log 5); reset 0 DESIGN CHOICE log 5. -/
  fresh : Nat
  /-- outputs driven so far, oldest first: the model's own (log 9); reset none. -/
  out : List Out
  /-- SYS block (12). -/
  sys : Sys
  /-- supplies, clocks, domains and power state (17). -/
  gov : Gov
  /-- OTP array (14). -/
  otp : Otp
  /-- decoded life cycle (14). -/
  life : Life
  /-- debug and TAP (14). -/
  dbg : Debug
  /-- AONB (15, 08). -/
  aonb : Aonb
  /-- monitors (15). -/
  mon : Monitors
  /-- event logic (16). -/
  evt : Events
  /-- black box (16). -/
  log : Log
  /-- release sequencer (06). -/
  rel : Release
  /-- guarded ports P0 to P31 (02 to 07). -/
  ports : Vector Port 32
  /-- millpond and tree store (04). -/
  pond : Pond
  /-- stones and dispatch queue (04). -/
  fab : Fabric
  /-- settings store (13). -/
  store : Store
  /-- hopper (07). -/
  hop : Hopper
  /-- miller and firmware slots (13, 06). -/
  mil : Miller
  /-- identity (08). -/
  idn : Identity
  /-- DRBG (08). -/
  drbg : Drbg
  /-- SPDM transports: owner, OBS0, OBS1, OBS2, I3C (08 R266). -/
  spdm : Vector Spdm 5
  /-- public-key engine (09). -/
  pke : Pke
  /-- digest contexts (10). -/
  dge : Dge
  /-- Ecorn link (11). -/
  link : Link
  /-- fantail (11). -/
  fan : Fan
  /-- mailboxes (13). -/
  mbx : Mailboxes
  /-- I3C target (08). -/
  i3c : I3c
deriving DecidableEq, Repr

/-- The block in a power-on reset, before its ROM starts: PORST# low, every brake asserted, every port WAITING (06 R206, R207), on a device whose OTP and home flash are as log entries 6 and 7 say. -/
def State.reset : State :=
  { pending := [], now := 0, fresh := 0, out := [], sys := {}, gov := {}, otp := {}, life := {}, dbg := {},
    aonb := {}, mon := {}, evt := {}, log := {}, rel := {}, ports := Vector.replicate 32 {}, pond := {},
    fab := {}, store := {}, hop := {}, mil := {}, idn := {}, drbg := {}, spdm := Vector.replicate 5 {},
    pke := {}, dge := {}, link := {}, fan := {}, mbx := {}, i3c := {} }

end Sys2Proof.Machine
end

