-- ==== Sys2Proof/Config.lean ====
section
/-! DEFINITION. What the spec leaves to other standards or leaves open: uninterpreted functions (log 4) and free values (log 5). None has a body, so no proof can rest on a value of one. -/

namespace Sys2Proof.Config

open Sys2Proof

/-- Signature verification of FIPS 186-5, FIPS 204 and SP 800-208: ALG code of 03 R101, public key, context string, message, signature: uninterpreted (log 4). -/
opaque sigValid : Nat → List Byte → List Byte → List Byte → List Byte → Bool
/-- Multiple of the base point, encoded big-endian x then y, by ALG code and scalar: uninterpreted (log 4). -/
opaque basePoint : Nat → Nat → List Byte
/-- x-coordinate of the shared point of ECDH: ALG code, scalar, peer point: uninterpreted (log 4). -/
opaque ecdh : Nat → Nat → List Byte → List Byte
/-- Signature of an engine SIGN: ALG code, private key bytes, context, message or digest, nonce (none when deterministic): uninterpreted (log 4). -/
opaque sign : Nat → List Byte → List Byte → List Byte → Option (BitVec 512) → List Byte
/-- The ML-DSA-87 SIGN of these inputs needs more than 256 rejection attempts (09 R290): uninterpreted (log 4). -/
opaque signLimit : List Byte → List Byte → List Byte → Option (BitVec 512) → Bool
/-- ECDSA verification of a supplied digest: ALG code of 09 R287, point, digest, r, s (09 R288): uninterpreted (log 4). -/
opaque ecdsaValid : Nat → List Byte → List Byte → List Byte → List Byte → Bool
/-- RSA verification: PAD, HASH, modulus, exponent, digest, signature (09 R289): uninterpreted (log 4). -/
opaque rsaValid : Nat → Nat → List Byte → Nat → List Byte → List Byte → Bool
/-- AES-256-GCM encryption: key, IV, additional data, plain text; cipher text then tag (08 R285): uninterpreted (log 4). -/
opaque gcmSeal : BitVec 256 → BitVec 96 → List Byte → List Byte → List Byte × BitVec 128
/-- AES-256-GCM decryption: none on a tag mismatch (08 R286): uninterpreted (log 4). -/
opaque gcmOpen : BitVec 256 → BitVec 96 → List Byte → List Byte → BitVec 128 → Option (List Byte)
/-- ML-DSA-87 public key of a private key (FIPS 204, 09 R292): uninterpreted (log 4). -/
opaque mlDsaPublic : List Byte → List Byte
/-- DER of a certificate's part to be signed (08 R263): uninterpreted (log 4). -/
opaque certTbs : Machine.Cert → List Byte
/-- DER of a certificate (08 R263): uninterpreted (log 4). -/
opaque certDer : Machine.Cert → List Byte
/-- notBefore of the DeviceID certificate that ends this stored chain (08 R263): uninterpreted (log 4). -/
opaque certNotBefore : List Byte → List Byte
/-- Serial number of the self-signed DeviceID certificate, which the spec does not give (08 R265): a free value (log 91). -/
opaque selfSerial : List Byte
/-- notBefore of the self-signed DeviceID certificate, which the spec does not give (08 R265): a free value (log 91). -/
opaque selfNotBefore : List Byte
/-- The slot 0 chain as SPDM carries these DER certificates (08 R270): uninterpreted (log 4). -/
opaque spdmChain : List Byte → List Byte
/-- Byte at an address of the virtual SFDP as JESD216 lays out these fields (02 R51): uninterpreted (log 4). -/
opaque sfdpByte : Machine.VSfdp → Nat → Byte
/-- Configured value of a virtual register that the real part's SCCR table names, by part and read opcode, which the spec does not give (02 R59): a free value (log 77). -/
opaque virtualReg : Sfdp → Byte → Byte
/-- DSP0274 encoding of an SPDM message: version, code and the fields the spec gives it (08 R270): uninterpreted (log 4). -/
opaque spdmBytes : Nat → Nat → List Byte → List Byte
/-- The request that these bytes are under DSP0274; none for a malformed one (08 R270): uninterpreted (log 4). -/
opaque spdmParse : List Byte → Option SpdmReq
/-- A FINISH's verify data is right for this session's transcript (08 R270): uninterpreted (log 4). -/
opaque finishOk : List Byte → List Byte → Bool
/-- A secured message opened under the session's keys (08 R273), none when it does not: transcript, sequence number, message: uninterpreted (log 4). -/
opaque securedOpen : List Byte → Nat → List Byte → Option (List Byte)
/-- A secured message made under the session's keys (08 R272, R273): transcript, sequence number, message: uninterpreted (log 4). -/
opaque securedSeal : List Byte → Nat → List Byte → List Byte
/-- MCTP control response under DSP0236 and DSP0233: its command code and the fields the spec gives it (08 R267): uninterpreted (log 4). -/
opaque mctpBytes : Nat → List Byte → List Byte
/-- ROM_DIGEST, SHA-384 of the boot ROM of silicon revision B0, whose value the spec does not give (08 R258). -/
opaque romDigest : BitVec 384
/-- Opirahel firmware key hashes fixed in the ROM, KEY_SLOT 0 and 1, whose values the spec does not give (13 R438). -/
opaque opirahelKey : Nat → BitVec 384
/-- DRBG output: the n-th draw, of w bits (08 R281): a free value (log 5). -/
opaque drbg (w : Nat) : Nat → BitVec w
/-- Data the spec calls undefined (02 R34), or a value it does not state: the n-th such byte: a free value (log 5). -/
opaque freeByte : Nat → Byte
/-- Next state of a tamper pair's 16-bit LFSR, whose taps the spec does not give (15 R475): a free value (log 5). -/
opaque lfsrNext : BitVec 16 → BitVec 16
/-- TAG and EPOCH of a frame that the device sends of its own accord and for which the spec names none: the n-th: a free value (log 5). -/
opaque freeTag : Nat → BitVec 10 × BitVec 4

/-- How many IDLE blocks a link port (LB, or LA) has sent before the block of this index (11 R337): a free value (log 11). -/
opaque idleBlocks : Bool → Nat → Nat

/-- Size in bytes of the home part's largest erase type, which the spec does not give (13 R439): a free value (log 5). -/
opaque homeErase : Nat

/-- The coefficient request of the TRAIN block of a step on a lane (11 R339, R340): a free value (log 11). -/
opaque coefficient : Nat → Nat → BitVec 8

end Sys2Proof.Config
end

