-- ==== Sys2Proof/Machine/Ops.lean ====
section
/-! DEFINITION. The named operations over the block's state: byte memories, byte order, the clock, outputs, DRBG draws, wakes, ports, settings items and slot records, events and their records, brakes and containment. -/

namespace Sys2Proof.Machine

open Sys2Proof

/-- What a meaning answers. -/
abbrev Result := Host.Outcome State Fault Refusal

/-! ### Byte memories -/

/-- The byte at an address; an unlisted one reads 0 (06 R207, 13 R412). -/
def memRead : Memory → Nat → Byte
  | [], _ => 0
  | (a, b) :: m, n => if a = n then b else memRead m n

/-- Write one byte, keeping the canonical form. -/
def memWrite : Memory → Nat → Byte → Memory
  | [], n, v => if v = 0 then [] else [(n, v)]
  | (a, b) :: m, n, v =>
    if n < a then (if v = 0 then (a, b) :: m else (n, v) :: (a, b) :: m)
    else if n = a then (if v = 0 then m else (n, v) :: m)
    else (a, b) :: memWrite m n v

/-- The canonical form: addresses strictly rising from a bound, no entry 0. -/
def memWfFrom : Nat → Memory → Bool
  | _, [] => true
  | lo, (a, b) :: m => decide (lo ≤ a) && decide (b ≠ 0) && memWfFrom (a + 1) m

/-- The canonical form of a byte memory. -/
def memWf (m : Memory) : Bool := memWfFrom 0 m

/-- `n` bytes from an address. -/
def memReads (m : Memory) : Nat → Nat → List Byte
  | _, 0 => []
  | a, n + 1 => memRead m a :: memReads m (a + 1) n

/-- Write bytes at ascending addresses. -/
def memWrites (m : Memory) : Nat → List Byte → Memory
  | _, [] => m
  | a, b :: bs => memWrites (memWrite m a b) (a + 1) bs

/-! ### Byte order (00 R10) -/

/-- The little-endian value of bytes. -/
def leNat : List Byte → Nat
  | [] => 0
  | b :: bs => b.toNat + 256 * leNat bs

/-- The big-endian value of bytes. -/
def beNat (bs : List Byte) : Nat := leNat bs.reverse

/-- The `n` low bytes of a value, least significant first. -/
def leBytes : Nat → Nat → List Byte
  | 0, _ => []
  | n + 1, v => BitVec.ofNat 8 v :: leBytes n (v / 256)

/-- `n` bytes of a value, most significant first. -/
def beBytes (n v : Nat) : List Byte := (leBytes n v).reverse

/-- The bytes `[off, off + n)` of a list, zero beyond its end. -/
def slice (bs : List Byte) (off n : Nat) : List Byte :=
  let r := (bs.drop off).take n
  r ++ List.replicate (n - r.length) 0

/-- A little-endian field of `n` bytes at an offset. -/
def field (bs : List Byte) (off n : Nat) : Nat := leNat (slice bs off n)

/-- Every byte of `[off, off + n)` is zero. -/
def zeros (bs : List Byte) (off n : Nat) : Bool := (slice bs off n).all (· == 0)

/-- The bytes of a digest, first byte first (00 R11). -/
def digestBytes {w : Nat} (d : BitVec w) : List Byte := beBytes (w / 8) d.toNat

/-- The word at an address of a byte memory (00 R10). -/
def memWord (m : Memory) (a : Nat) : Word := BitVec.ofNat 32 (leNat (memReads m a 4))

/-- A word into a byte memory (00 R10). -/
def memSetWord (m : Memory) (a : Nat) (w : Word) : Memory := memWrites m a (leBytes 4 w.toNat)

/-- ASCII bytes of a string (08 R258, 13 R418). -/
def ascii (t : String) : List Byte := t.toList.map fun c => BitVec.ofNat 8 c.toNat

/-- The bit of a Bool. -/
def bit (b : Bool) : Nat := if b then 1 else 0

/-- How many bits are set. -/
def popcount {w : Nat} (v : BitVec w) : Nat := ((List.range w).filter fun i => v.getLsbD i).length

/-! ### Sparse tables keyed by number -/

/-- The entry of a number. -/
def tblGet {α : Type} : List (Nat × α) → Nat → Option α
  | [], _ => none
  | (k, v) :: t, n => if k = n then some v else tblGet t n

/-- Set or replace the entry of a number, numbers rising. -/
def tblSet {α : Type} : List (Nat × α) → Nat → α → List (Nat × α)
  | [], n, v => [(n, v)]
  | (k, u) :: t, n, v =>
    if n < k then (n, v) :: (k, u) :: t
    else if n = k then (n, v) :: t
    else (k, u) :: tblSet t n v

/-! ### Clock, outputs and free values -/

/-- Time has come to `t`: the clock never runs back (log 1). -/
def State.upTo (s : State) (t : Nat) : State := { s with now := max s.now t }

/-- Drive an output (log 9). -/
def State.emit (s : State) (o : Out) : State := { s with out := s.out ++ [o] }

/-- The `n`-th next DRBG output of `w` bits, without drawing it (08 R281, log 5). -/
def State.draw (s : State) (w : Nat) : BitVec w := Config.drbg w s.fresh

/-- A generate request: the DRBG reseeds once 65,536 have been made since the last seed, at the latest before the next (08 R281). -/
def Drbg.generate (d : Drbg) : Drbg := { d with requests := if d.requests < 65536 then d.requests + 1 else 1 }

/-- `n` generate requests. -/
def Drbg.generates : Nat → Drbg → Drbg
  | 0, d => d
  | n + 1, d => Drbg.generates n d.generate

/-- One DRBG generate request made (08 R281). -/
def State.drawn (s : State) : State := { s with fresh := s.fresh + 1, drbg := s.drbg.generate }

/-- Pass over `n` free values (log 5). -/
def State.skipFree (s : State) (n : Nat) : State := { s with fresh := s.fresh + n }

/-- The next `n` undefined bytes (02 R34, log 5). -/
def State.freeBytes (s : State) (n : Nat) : List Byte :=
  (List.range n).map fun i => Config.freeByte (s.fresh + i)

/-- The times within a window of `w` ns before now. -/
def recent (now w : Nat) (ts : List Nat) : List Nat := ts.filter fun t => decide (now < t + w)

/-- One millisecond in ns. -/
def ms : Nat := 1000000

/-- Sixty seconds (04 R145, R151, 09 R295). -/
def sixtySeconds : Nat := 60000000000

/-- TICK of a record (16 R505). -/
def State.tick (s : State) : Nat := (s.aonb.tick0 + s.now * 32768 / 1000000000) % 2 ^ 48

/-- SUBTICK of a record, 0 while the core PLL is stopped (16 R505, 17 R526). -/
def State.subtick (s : State) : Nat :=
  if s.gov.corePll then (s.now * 32768 % 1000000000) * 65536 / 1000000000 else 0

/-- The 32 ports, ascending. -/
def allPorts : List PortId := List.finRange 32

/-- A port. -/
def State.port (s : State) (p : PortId) : Port := s.ports[p]

/-- The logic of every domain but AONB is without power: on backup power, or with VDD below its threshold (17 R514, R516, R528). -/
def State.dark (s : State) : Bool := s.aonb.backup || !s.gov.vdd

/-- A row of the logic that VDD feeds: without power nothing of it happens (17 R514, R528). -/
def State.powered (s : State) (r : Result) : Result := if s.dark then .next s else r

/-- Miller firmware has started, with power, and no HALT is in force (13 R409, 15 R481, 17 R528). -/
def State.millerUp (s : State) : Bool := s.mil.running.isSome && !s.mil.halted && !s.dark

/-- Miller firmware runs, not halted by debug either: the opposite of MILLER_STOPPED (13 R409, 14 R468, 15 R481). -/
def State.serves (s : State) : Bool := s.millerUp && !s.mil.dbgHalt

/-- A mailbox. -/
def State.mbox (s : State) : MbxId → Mailbox
  | .owner => s.mbx.owner
  | .obs0 => s.mbx.obs0
  | .obs1 => s.mbx.obs1
  | .obs2 => s.mbx.obs2

/-- Some granule of a bank holds content (17 R514). -/
def Pond.bankUsed (m : Pond) (b : Nat) : Bool :=
  m.granules.any fun (n, g) => n / 3072 == b && (match g.hold with
    | some .reserve => false
    | some _ => true
    | none => g.state != .bad)

/-- Some granule holds content. -/
def Pond.used (m : Pond) : Bool := (List.range 4).any m.bankUsed

/-! ### Power domains (17 R513, R514, R528, 12 GOV) -/

/-- The miller is awake. -/
def State.millerAwake (s : State) : Bool := s.millerUp && !s.mil.asleep

/-- A mailbox has a request that the miller has not answered, or a RING. -/
def State.mailPending (s : State) : Bool :=
  [MbxId.owner, .obs0, .obs1, .obs2].any fun m => (s.mbox m).ring || (s.mbox m).busy

/-- A port of a group needs its engine (17 R514). -/
def State.groupUsed (s : State) (g : Nat) : Bool :=
  allPorts.any fun p => p.val / 4 == g && (match (s.port p).state with | .disabled | .failed | .isolated => false | _ => true)

/-- A core of the engine is in use (17 R514). -/
def Pke.inUse (k : Pke) : Bool :=
  !k.queue.isEmpty || [k.core0, k.core1].any fun c => c.state != .idle && c.state != .retired

/-- Some context is not FREE (10 R320). -/
def State.ctxUsed (s : State) : Bool := s.dge.ctx.toList.any fun c => c.state != .free

/-- The digest half has work (17 R514). -/
def State.digestUsed (s : State) : Bool :=
  s.ctxUsed || !s.fab.queue.isEmpty || s.fab.stones.toList.any (fun x => x.busy.isSome)
    || allPorts.any fun p => (s.port p).state == .service || (s.port p).state == .substitute

/-- The DBG domain has demand: a session, or an instruction of the TAP other than IDCODE and BYPASS (17 R514). -/
def Debug.powered (d : Debug) : Bool := d.session.isSome || d.d2Opening || (d.ir != 0x02 && d.ir != 0xFF)

/-- A domain's demand (17 R514). -/
def State.demand (s : State) (d : Nat) : Bool :=
  if d = 0 then true
  else if d = 1 then !s.dark
  else if d = 2 then s.millerAwake || s.mailPending || s.hop.current.isSome
  else if d = 3 then s.pke.inUse
  else if d ≤ 5 then s.digestUsed
  else if d ≤ 9 then s.pond.bankUsed (d - 6)
  else if d = 10 then s.pond.used || !s.pond.extents.isEmpty
  else if d ≤ 18 then s.groupUsed (d - 11)
  else if d = 19 then s.link.la.tstate != 0
  else if d = 20 then s.link.lb.tstate != 0
  else if d = 21 then !s.log.queue.isEmpty
  else if d = 22 then s.dbg.powered
  else false

/-- A domain's idle state (17 R514). -/
def idleState (d : Nat) : DomState := if d ≤ 1 then .on else if d ≤ 3 then .retain else .off

/-- A domain's state, as GOV_DOM_ON and GOV_DOM_RET report it: its idle state without demand; while the ROM runs, as powered; Off without VDD, which feeds every domain but AONB, and without VAUX, which leaves the AONB alone. `Gov.dom` says only where a domain in demand stands on its way to On (17 R513, R514, R516, R528). -/
def State.domain (s : State) (d : Nat) : DomState :=
  if d = 0 then s.gov.dom[0]
  else if s.dark then .off
  else if s.sys.stage = .rom ∨ s.demand d then s.gov.dom.toList.getD d .off else idleState d

/-- The domains, those named that have no demand in their idle state; while the ROM runs they stay as powered (17 R514). -/
def State.settled (s : State) (ds : List Nat) : Vector DomState 24 :=
  if s.sys.stage = .rom then s.gov.dom
  else ds.foldl (fun v d => if s.demand d then v else v.setIfInBounds d (idleState d)) s.gov.dom

/-- Of these domains the ones without demand are in their idle state from now on: what lies Off needs a power-up when demand comes back. The operations that bring demand say so first, so a domain that lost its demand in between is found where R514 puts it (17 R513 to R515; log 33). -/
def State.settle (s : State) (ds : List Nat) : State := { s with gov := { s.gov with dom := s.settled ds } }

/-- DGA and DGB, whose stones are tested at every power-up. -/
def digestDomains : List Nat := [4, 5]

/-- The millpond banks and the tree store. -/
def storeDomains : List Nat := [6, 7, 8, 9, 10]

/-- The engine group of a port. -/
def groupDomain (p : PortId) : Nat := 11 + p.val / 4

/-- The engine groups. -/
def groupDomains : List Nat := (List.range 8).map (11 + ·)

/-! ### Power states (17 R516, R520) -/

/-- A D2 session is open or opening (14 R466). -/
def State.d2Open (s : State) : Bool := s.dbg.session == some 2 || s.dbg.d2Opening

/-- DOZE may be entered: the miller sleeps, or runs and so may execute its sleep; no start is in progress, no mailbox request is pending and no D2 session is open (17 R516, 14 R466). The miller's sleep is part of the entry (log 33). -/
def State.dozeOk (s : State) : Bool :=
  (s.mil.asleep || s.serves) && s.sys.stage != .rom && !s.mailPending && !s.d2Open

/-- PARK's own conditions (17 R516). -/
def State.parkOk (s : State) : Bool :=
  (allPorts.all fun p => match (s.port p).state with | .disabled | .failed | .isolated => true | _ => false)
    && !s.pond.used && s.pond.extents.isEmpty && s.hop.current.isNone

/-- DEEP's own conditions (17 R516). -/
def State.deepOk (s : State) : Bool :=
  [s.link.la, s.link.lb].all (fun x => x.tstate == 0 && !x.energy) && !s.ctxUsed

/-- An entry into a deeper state is under way: the conditions of PARK, or of DEEP, hold, and their hold time runs (17 R516, R520). -/
def State.entering (s : State) : Bool :=
  match s.gov.state with
  | .doze => s.dozeOk && s.parkOk
  | .park => s.dozeOk && s.parkOk && s.deepOk
  | .active | .deep | .backup => false

/-! ### Wakes (17 R519, R523) -/

/-- The PLLs, which DEEP stops, lock again from REFCLK, unless the core clock's monitor finds them out of lock (17 R522, R523). -/
def Gov.relock (g : Gov) (lost : Bool) : Gov :=
  if g.state = .deep ∧ g.refclk ∧ !lost then { g with corePll := true, pkePll := true, millerPll := true } else g

/-- A wake source returns the governor to ACTIVE with SEC On and the miller awake; out of DEEP the PLLs lock again; an entry into a deeper state that is under way goes no further. VAUX alone ends BACKUP (17 R519, R520, R523). -/
def State.wakeUp (s : State) : State :=
  if s.dark then s
  else
    let g := s.gov.relock (s.mon.present.getLsbD 23)
    { s with
      gov := { g with state := .active, dom := g.dom.set 2 .on, wokenAt := if s.entering then some s.now else g.wokenAt }
      mil := { s.mil with asleep := false } }

/-- An event or a timer of the miller wakes it where it sleeps (01 R24, 17 R519). -/
def State.stir (s : State) : State := if s.mil.asleep then s.wakeUp else s

/-! ### Ports and slot records -/

/-- Replace a port. -/
def State.setPort (s : State) (p : PortId) (x : Port) : State := { s with ports := s.ports.set p x }

/-- Change one port. -/
def State.modPort (s : State) (p : PortId) (f : Port → Port) : State := s.setPort p (f (s.port p))

/-- Change every port. -/
def State.mapPorts (s : State) (f : PortId → Port → Port) : State :=
  { s with ports := Vector.ofFn fun p : Fin 32 => f p s.ports[p] }

/-- What the settings store holds for a port. -/
def State.pstore (s : State) (p : PortId) : PortStore := s.store.ports[p]

/-- Replace what the settings store holds for a port. -/
def State.setPstore (s : State) (p : PortId) (x : PortStore) : State :=
  { s with store := { s.store with ports := s.store.ports.set p x } }

/-- A generation is newer than another: it follows it by less than half of the 32-bit circle (13 R433; log 65). -/
def genNewer (a b : BitVec 32) : Bool := a != b && decide ((a - b).toNat < 2 ^ 31)

/-- The valid copy with the newer generation, and whether it is copy B (13 R433). -/
def Item.newest (i : Item) : Option (Copy × Bool) :=
  match i.copyA.filter (·.valid), i.copyB.filter (·.valid) with
  | some a, some b => if genNewer b.gen a.gen then some (b, true) else some (a, false)
  | some a, none => some (a, false)
  | none, some b => some (b, true)
  | none, none => none

/-- Something has been written to the item. -/
def Item.stored (i : Item) : Bool := i.copyA.isSome || i.copyB.isSome

/-- A read of a settings item takes the valid copy with the newer generation; one with no valid copy is unreadable (13 R433). -/
def Item.read (i : Item) : Option (List Byte) := i.newest.map fun e => e.1.bytes

/-- A write goes to the copy that is not the newest valid one, under the next generation (13 R433). -/
def Item.put (i : Item) (bytes : List Byte) (valid : Bool) : Item :=
  match i.newest with
  | some (c, true) => { i with copyA := some { gen := c.gen + 1, bytes, valid } }
  | some (c, false) => { i with copyB := some { gen := c.gen + 1, bytes, valid } }
  | none => { i with copyA := some { gen := 0, bytes, valid } }

/-- A write that stands (13 R433). -/
def Item.write (i : Item) (v : List Byte) : Item := i.put v true

/-- A write whose check does not match, or that a power loss cut: the earlier item stays in force (13 R433). -/
def Item.spoil (i : Item) : Item := i.put [] false

/-- SLOT number of a slot (07 R220). -/
def slotCode : SlotId → Nat
  | .a => 0 | .b => 1 | .g => 2

/-- Slot state code (07 R221). -/
def slotStateCode : SlotState → Nat
  | .absent => 0 | .empty => 1 | .staging => 2 | .committed => 3 | .ready => 4 | .active => 5 | .failed => 6 | .retired => 7
  | .repairing => 8

/-- SFLAGS (07 R220). -/
def SlotRec.flags (r : SlotRec) : Nat :=
  bit r.switchPending + 2 * bit r.preloaded + 4 * bit r.hopperImage + 8 * bit r.repairPending

/-- The 16 bytes of a slot record (07 R220). -/
def SlotRec.toBytes (r : SlotRec) (i : SlotId) : List Byte :=
  leBytes 1 (slotCode i) ++ leBytes 1 (bit r.cs) ++ leBytes 1 (slotStateCode r.state) ++ leBytes 1 r.flags ++ leBytes 4 r.base
    ++ leBytes 1 r.tries ++ leBytes 1 r.failCode ++ leBytes 1 r.failRegion ++ List.replicate 5 0

/-- A slot record. -/
def PortStore.slot (x : PortStore) : SlotId → SlotRec
  | .a => x.slotA
  | .b => x.slotB
  | .g => x.slotG

/-- A slot record changes: its item takes a write of the new one (07 R220, 13 R433). -/
def PortStore.setSlot (x : PortStore) (i : SlotId) (r : SlotRec) : PortStore :=
  if x.slot i = r then x
  else
    match i with
    | .a => { x with slotA := r, recA := x.recA.write (r.toBytes i) }
    | .b => { x with slotB := r, recB := x.recB.write (r.toBytes i) }
    | .g => { x with slotG := r, recG := x.recG.write (r.toBytes i) }

/-- A write of a slot record that does not stand spoils the copy it went to (13 R433). -/
def PortStore.spoilSlot (x : PortStore) : SlotId → PortStore
  | .a => { x with recA := x.recA.spoil }
  | .b => { x with recB := x.recB.spoil }
  | .g => { x with recG := x.recG.spoil }

/-- A stored map item. -/
def PortStore.map (x : PortStore) : SlotId → Item
  | .a => x.mapA
  | .b => x.mapB
  | .g => x.mapG

/-- Replace a stored map item. -/
def PortStore.setMap (x : PortStore) (i : SlotId) (m : Item) : PortStore :=
  match i with
  | .a => { x with mapA := m }
  | .b => { x with mapB := m }
  | .g => { x with mapG := m }

/-- A slot record of a port. -/
def State.slot (s : State) (p : PortId) (i : SlotId) : SlotRec := (s.pstore p).slot i

/-- Change a slot record of a port (07 R220). -/
def State.modSlot (s : State) (p : PortId) (i : SlotId) (f : SlotRec → SlotRec) : State :=
  s.setPstore p ((s.pstore p).setSlot i (f (s.slot p i)))

/-- A settings write whose copy would read back right stands while VIO_HOME is in range (13 R433, 17 R531). -/
def State.stores (s : State) (ok : Bool) : Bool := ok && s.gov.vioHome

/-- The device's own write of a slot record, which stands where `ok` says so and VIO_HOME is in range: one that was made and failed spoils its copy, one that could not be made leaves both (07 R220, 13 R433, 17 R531). -/
def State.slotWriteFails (s : State) (p : PortId) (i : SlotId) (ok : Bool) : State :=
  if !ok && s.gov.vioHome then s.setPstore p ((s.pstore p).spoilSlot i) else s

/-- Which of A and B is active (07 R219): the one ACTIVE; none from a retirement or a failure under R559 until one is ACTIVE; and slot A while it has held no map since its record was written (13 R430). -/
def State.activeSlot (s : State) (p : PortId) : Option SlotId :=
  if (s.slot p .a).state = .active then some .a
  else if (s.slot p .b).state = .active then some .b
  else if (s.pstore p).lost.isSome then none
  else if (s.slot p .a).state = .empty then some .a
  else none

/-- The other of A and B. -/
def otherSlot : SlotId → SlotId
  | .a => .b
  | _ => .a

/-- The slot of A and B that is standby (07 R219): the other of the active one; with none active, the one that was not retired and did not fail; with no record of either, B unless its state alone says so (log 70). -/
def State.standbySlot (s : State) (p : PortId) : SlotId :=
  match s.activeSlot p with
  | some i => otherSlot i
  | none =>
    match (s.pstore p).lost with
    | some i => otherSlot i
    | none =>
      let bad := fun x : SlotState => x == .retired || x == .failed || x == .repairing
      if bad (s.slot p .b).state && !bad (s.slot p .a).state then .a else .b

/-- Record the slot whose loss leaves neither of A and B active, or that one is ACTIVE again (07 R219). -/
def State.setLost (s : State) (p : PortId) (i : Option SlotId) : State := s.setPstore p { s.pstore p with lost := i }

/-! ### Events and records (16) -/

/-- Severity of a monitor's event (15 R473), none for a number not listed. -/
def monSeverity (m : Nat) : Option Nat :=
  if m ≤ 7 then some 3
  else if m ∈ [16, 18, 20, 23, 25, 40, 41, 45, 46, 47, 48] then some 3
  else if 32 ≤ m ∧ m ≤ 39 then some 3
  else if m ∈ [17, 19, 21, 22, 24, 42, 43, 44] then some 2
  else if m = 26 then some 1
  else none

/-- Severity of a source: 0 Info, 1 Notice, 2 Fault, 3 Critical (16 R503, R504); none for an ID not assigned. -/
def severity (src : Nat) : Option Nat :=
  if src < 640 then
    [2, 1, 2, 2, 2, 0, 1, 0, 0, 2, 2, 1, 0, 2, 0, 1, 2, 2, 3, 3][src % 20]?
  else if src < 656 then [0, 2, 1, 2, 1, 2][(src - 640) % 8]?
  else if src < 664 then [0, 2, 1, 1, 1, 0, 1, 1][src - 656]?
  else if 704 ≤ src ∧ src < 736 then some 2
  else if 736 ≤ src ∧ src < 739 then [1, 1, 3][src - 736]?
  else if 768 ≤ src ∧ src < 775 then [1, 1, 2, 2, 3, 2, 0][src - 768]?
  else if 800 ≤ src ∧ src < 864 then monSeverity (src - 800)
  else if 864 ≤ src ∧ src < 877 then [2, 2, 1, 1, 2, 2, 2, 2, 2, 2, 2, 2, 0][src - 864]?
  else if 896 ≤ src ∧ src < 911 then [1, 1, 3, 2, 1, 1, 1, 3, 2, 3, 1, 1, 1, 1, 0][src - 896]?
  else if 928 ≤ src ∧ src < 946 then [0, 0, 0, 0, 0, 3, 1, 2, 1, 2, 1, 2, 2, 2, 2, 3, 1, 1][src - 928]?
  else if 992 ≤ src ∧ src < 995 then [2, 1, 0][src - 992]?
  else none

/-- Default of EVT_OWN for a source (16 R500). -/
def ownDefault (src : Nat) : Bool := src == 928 || (match severity src with | some v => decide (1 ≤ v) | none => false)

/-- Default of EVT_ALERT for a source (16 R500). -/
def alertDefault (src : Nat) : Bool := severity src == some 3

/-- EVT_OWN of a source. -/
def Events.own (e : Events) (src : Nat) : Bool := xor (ownDefault src) (e.ownDiff.getLsbD src)

/-- EVT_ALERT of a source. -/
def Events.alert (e : Events) (src : Nat) : Bool := xor (alertDefault src) (e.alertDiff.getLsbD src)

/-- One bit of an array of 1,024. -/
def oneHot (src : Nat) : BitVec 1024 := BitVec.ofNat 1024 (2 ^ src)

/-- Actions of an event in the bit order of 15 R494: [0] LOG, [1] ALERT, [2] CONTAIN, [3] ZERO, [4] HALT, [5] RESET. -/
abbrev Actions := BitVec 6

/-- Fixed actions of a source that is no monitor (16 R499, R504). -/
def fixedActions (src : Nat) : Actions :=
  if 928 ≤ src ∧ src ≤ 931 then 0#6
  else if severity src = some 3 then 0b000011#6 else 0b000001#6

/-- FLAGS of a record (16 R505). -/
def recordFlags (act : Actions) (inherent backup : Bool) (s : State) : BitVec 8 :=
  BitVec.ofNat 8 (bit (act.getLsbD 1) * 128 + bit (act.getLsbD 5) * 64 + bit (act.getLsbD 4) * 32
    + bit (act.getLsbD 3) * 16 + bit (act.getLsbD 2 || inherent) * 8 + bit s.aonb.approx * 4 + bit backup * 2
    + bit (s.sys.stage == .rom))

/-- Sixteen bytes of DATA (16 R506). -/
def data16 (bs : List Byte) : List Byte := slice bs 0 16

/-- An event as its source raises it. -/
structure Raised where
  src : Nat
  data : List Byte := []
  act : Actions
  /-- the source's inherent response contains the port. -/
  contains : Bool := false

/-- Queue a record for the log: it takes the next sequence number; when 64 records are queued it is lost (16 R509, R510, R511). -/
def Log.push (l : Log) (r : Record) : Log :=
  let l' := { l with seq := if l.seq = 0xFFFFFFFE then 0 else l.seq + 1 }
  if l.queue.length < 64 then { l' with queue := l.queue ++ [r] } else { l' with wfault := true }

/-- Build an event's record, set its status and start its LOG and ALERT actions (16 R497 to R502). -/
def State.raiseOne (s : State) (e : Raised) : State :=
  match severity e.src with
  | none => s
  | some sev =>
    let logged := e.act.getLsbD 0
    let r : Record :=
      { subtick := s.subtick, tick := s.tick, source := e.src, severity := sev,
        flags := recordFlags e.act e.contains false s,
        seq := if logged then some s.log.seq else none, data := data16 e.data }
    let routed := (!s.evt.mask.getLsbD e.src && s.evt.own e.src) || e.act.getLsbD 1
      || (decide (e.src < 640) && decide (e.src % 20 = 17))
    let linkOwner := s.fan.owner == some .m0 || s.fan.owner == some .m15
    let room := decide (s.evt.toOwner.length + s.evt.unacked.length < 32)
    { s with
      evt := { s.evt with
        stat := s.evt.stat ||| oneHot e.src
        latch := if e.act.getLsbD 1 then s.evt.latch ||| oneHot e.src else s.evt.latch
        last := some (sev, e.src)
        raised := s.evt.raised + 1
        trace := (r :: s.evt.trace).take 256
        toOwner := if routed && linkOwner && room then s.evt.toOwner ++ [r] else s.evt.toOwner }
      log := if logged then s.log.push r else s.log }

/-- A record lost since then raises LOG_WFAULT, once until WFAULT is cleared, after the events raised together with it (16 R498, R504, R511). -/
def State.lossEvent (t before : State) : State :=
  if t.log.wfault && !before.log.wfault then t.raiseOne { src := 992, act := fixedActions 992 } else t

/-- Raise an event, and LOG_WFAULT where its record is lost (16 R511, R504). -/
def State.raise (s : State) (e : Raised) : State := (s.raiseOne e).lossEvent s

/-- Raise an event of a source with fixed actions (16 R499). -/
def State.event (s : State) (src : Nat) (data : List Byte := []) : State :=
  s.raise { src, data, act := fixedActions src }

/-- An event of a port that needs the miller: one of severity Fault or Critical, or an absorbed write (01 R24; log 106). -/
def wakesMiller (off : Nat) : Bool := off == 6 || (match severity off with | some v => decide (2 ≤ v) | none => false)

/-- Raise an event of a port by its offset (16 R503); one that needs the miller then wakes it (01 R24, 17 R519). -/
def State.portEvent (s : State) (p : PortId) (off : Nat) (data : List Byte := []) (contains : Bool := false) : State :=
  let t := s.raise { src := 20 * p.val + off, data, act := fixedActions (20 * p.val + off), contains }
  if wakesMiller off then t.stir else t

/-- ALERT# is asserted (16 R502). -/
def State.alertPin (s : State) : Bool :=
  (List.range 1024).any fun i => s.evt.stat.getLsbD i &&
    ((!s.evt.mask.getLsbD i && s.evt.alert i) || s.evt.latch.getLsbD i)

/-- The 32 bytes of a record (16 R505). -/
def Record.toBytes (r : Record) : List Byte :=
  leBytes 2 r.subtick ++ leBytes 6 r.tick ++ leBytes 2 r.source ++ leBytes 1 r.severity ++ [r.flags]
    ++ leBytes 4 (r.seq.getD 0xFFFFFFFF) ++ data16 r.data

/-! ### Brakes and containment (06, 04) -/

/-- A program or erase that the device issued is in progress on a chip select: a Held one, or one of the device's own (02 R42, 04 R137, 05 R174, R180). -/
def Port.executing (x : Port) (cs : Bool) : Bool :=
  x.devOp == some cs || [x.held, x.held2].any fun h => match h with
    | some h => h.cs == cs && (h.cls == 2 || h.cls == 3) && (h.phase != .suspended || x.resumeDue.isSome)
    | none => false

/-- An operation of the real part still runs, the device's own programs and erases among them (05 R182, 06 R213). -/
def Port.partBusy (x : Port) : Bool := x.held.isSome || x.held2.isSome || x.devOp.isSome

/-- Pause or resume the deadline timers of a chip select as its operation runs or not (04 R137, 05 R180). -/
def Port.retime (x : Port) (now : Nat) : Port :=
  { x with trackers := x.trackers.map fun t =>
      match x.executing t.cs, t.paused with
      | true, none => { t with paused := some (t.due - now) }
      | false, some left => { t with paused := none, due := now + left }
      | _, _ => t }

/-- A passed command whose issue interval has begun goes out though the brake is asserted; one that waits for another command of its port is discarded: a suspend of an operation still in its issue interval, and a resume held for a program (05 R174, R178, R181, R182). -/
def Port.dropQueued (x : Port) : Port :=
  let waits : Bool := match x.held with | some h => h.phase == .waiting | none => false
  { x with suspendDue := if waits then none else x.suspendDue, resumeDue := if x.held2.isSome then none else x.resumeDue }

/-- Assert a port's brake (06 R187, R191), a reset's assertion included though the brake is asserted already (log 100): BRAKE_MIN is measured from here, and HRDY's qualification ends (06 R195). A passed command whose issue interval has not begun is discarded, an absorbed emulation is cancelled, and the part's reset waits for its WIP 0 (05 R182). A transaction that is open ends with poison (02 R81, R82). -/
def Port.assertBrake (x : Port) (now : Nat) : Port :=
  let y : Port := { x.dropQueued with
    brake := true
    brakeAt := now
    brakeMinDone := false
    hrdyQ := false
    vdReady := if x.brake then x.vdReady else false
    poison := x.poison || (x.hcsLow && !x.brake)
    hdqs := x.hdqs || (x.hcsLow && !x.brake && x.mode == some .d888)
    absorbed := none, absorbed2 := none, wip := false, welClearDue := false, wipMode := false }
  y.retime now

/-- Keep a port braked: its brake asserts where it is not asserted yet, and BRAKE_MIN runs on where it is (06 R191). -/
def Port.holdBrake (x : Port) (now : Nat) : Port := if x.brake then x else x.assertBrake now

/-- Contain a port in SERVICE or SUBSTITUTE (04 R142): its brake asserts and it enters CONTAINED; a port CONTAINED already records the further cause. Trackers stay open. -/
def Port.contain (x : Port) (now : Nat) (c : ContainCause) : Port :=
  if x.state = .service ∨ x.state = .substitute then
    { x.assertBrake now with state := .contained, causes := c :: x.causes }
  else if x.state = .contained then { x with causes := c :: x.causes }
  else x

/-- Contain a port of the block. -/
def State.contain (s : State) (p : PortId) (c : ContainCause) : State :=
  s.modPort p fun x => x.contain s.now c

/-- Firmware runs, awake, and no halt is in force: what the miller makes can happen (01 R24, 04 R117, 06 R211, 14 R468, 15 R481, 17 R516, R528). -/
def State.millerRuns (s : State) : Bool :=
  s.sys.stage == .running && s.mil.running.isSome && !s.mil.halted && !s.mil.dbgHalt && !s.mil.asleep && !s.dark

/-- Granules of a port that are not FREE and not HELD (04 R119). -/
def Granule.ownedBy (g : Granule) (p : PortId) : Bool := g.owner == some p && g.hold == none

/-- Free a port's granules; a granule from the reserve returns to it, a BAD one stays BAD (04 R120, 07 R250). -/
def Pond.freePort (m : Pond) (p : PortId) : Pond :=
  { m with
    granules := m.granules.filterMap fun (k, g) =>
      if g.ownedBy p && g.state != .bad then
        if g.fromReserve then
          some (k, { state := .held, hold := some .reserve, owner := none, region := 0, va := 0, data := [],
                     digest := none, fromReserve := false })
        else none
      else some (k, g)
    extents := m.extents.filter fun (_, e) => !(e.port == p && e.region.isSome) }

/-- Free a port's intake extents (07 R226). -/
def Pond.freeIntake (m : Pond) (p : PortId) : Pond :=
  { m with extents := m.extents.filter fun (_, e) => !(e.port == p && e.region.isNone) }

/-- Free the granules preloaded for a slot (07 R238). -/
def Pond.freePreload (m : Pond) (p : PortId) (i : SlotId) : Pond :=
  { m with granules := m.granules.filter fun (_, g) => g.hold != some (.preload p i) }

/-- What is left of intake when a session ends: the digests that it recorded, and no block's erase or partial content (07 R224, R225). -/
def closeIntake (l : List Intake) : List Intake := (l.filter (·.digest.isSome)).map fun b => { b with erased := false }

/-- End a staging session; a port reset and STAGE_ABORT also abandon the intake digests (07 R224, R225). -/
def State.endStaging (s : State) (p : PortId) (abandon : Bool) : State :=
  let t := s.modPort p fun x =>
    { x with staging := none, intake := if abandon then [] else closeIntake x.intake, intakeOff := if abandon then false else x.intakeOff }
  if abandon then { t with pond := t.pond.freeIntake p } else t

/-- A port reset (06 R213): the brake asserts, the port returns to WAITING, its trackers, re-reads, sluice, virtual device and allocations go, and its staging session ends. -/
def Port.reset (x : Port) (now : Nat) : Port :=
  { x.assertBrake now with
    state := .waiting, causes := [], armMap := none, begun := false, armPending := false,
    substAgain := x.source != .slot .a && x.source != .slot .b
      && (x.substAgain || x.state == .substitute || x.state == .contained || x.state == .measured),
    cfg := none, halfRate := false, vsfdp := none, vregs := [], deadlines := [], fport := 0, advDummy := 0, profile := 0,
    addr4 := false, extAddr := 0, sr := 0,
    engineWait := false, table := [], captures := [], mode := none, trackers := [], failures := [], tallyKey := none,
    edgesAt := none, settleDone := false, vdReady := false, vdResetDue := false, recoveringVd := false,
    option := none, substDue := none, substReq := none, filled := 0, loaded := 0, badRegion := none, reloads := [],
    wel := false, protErr := false, progErr := false, eraseErr := false, dpd := false, rstEnable := false, seqs := [],
    partResetDue := x.partResetDue || x.partBusy }

/-- A port reset of the block: any state but ISOLATED (04 R117, 06 R213). The rules end its staging session and name no end of a substitute's transfer that is open for it: that one stays open until it is aborted (DESIGN CHOICE log 120). -/
def State.resetPort (s : State) (p : PortId) : State :=
  if (s.port p).state = .isolated then s
  else
    let t := (s.settle [groupDomain p]).modPort p fun x => x.reset s.now
    ({ t with pond := t.pond.freePort p }).endStaging p true

end Sys2Proof.Machine
end

