-- ==== Sys2Proof/Machine/Sha.lean ====
section
/-! DEFINITION. The digest functions that the stones compute (10 R313, R314), as FIPS 180-4 defines them, and HMAC-SHA-384 of the key derivation (08). The spec names the standard and gives the four names, digests and block lengths; where its constants come from and its rounds are the standard's own: PRESUMED log 4. -/

namespace Sys2Proof.Machine

open Sys2Proof

/-- The largest r + m, m below 2^fuel, whose e-th power does not pass x: an integer root, bit by bit. -/
def rootFloor (e x : Nat) : Nat → Nat → Nat
  | 0, r => r
  | b + 1, r => rootFloor e x b (if (r + 2 ^ b) ^ e ≤ x then r + 2 ^ b else r)

/-- The prime numbers up to 409, the eightieth: no prime below 20 divides them but themselves. -/
def firstPrimes : List Nat :=
  (List.range 410).filter (fun n => 1 < n && [2, 3, 5, 7, 11, 13, 17, 19].all (fun d => n == d || n % d != 0))

/-- The first 64 bits of the fractional part of the e-th root of n: where FIPS 180-4 (4.2, 5.3) takes its constants from. -/
def rootFraction (e n : Nat) : BitVec 64 := BitVec.ofNat 64 (rootFloor e (n * 2 ^ (64 * e)) 69 0)

/-- The constants of the rounds: cube roots of the first eighty primes. -/
def roundConstants : List (BitVec 64) := firstPrimes.map (rootFraction 3)

/-- Half of the chaining state: four words in which every round moves one place on. -/
structure ShaHalf (w : Nat) where
  newest : BitVec w
  second : BitVec w
  third : BitVec w
  oldest : BitVec w

/-- A word in front, the oldest one dropped. -/
def ShaHalf.push {w : Nat} (x : BitVec w) (v : ShaHalf w) : ShaHalf w := ⟨x, v.newest, v.second, v.third⟩

/-- The four words, the newest first. -/
def ShaHalf.words {w : Nat} (v : ShaHalf w) : List (BitVec w) := [v.newest, v.second, v.third, v.oldest]

/-- Four words of a list, from a place on. -/
def ShaHalf.at {w : Nat} (ws : List (BitVec w)) (n : Nat) : ShaHalf w := ⟨ws.getD n 0, ws.getD (n + 1) 0, ws.getD (n + 2) 0, ws.getD (n + 3) 0⟩

/-- The chaining state: the half whose newest word is a round's whole result, and the half whose newest word joins its first sum. -/
structure ShaState (w : Nat) where
  upper : ShaHalf w
  lower : ShaHalf w

/-- The eight words of a chaining state. -/
def ShaState.words {w : Nat} (v : ShaState w) : List (BitVec w) := v.upper.words ++ v.lower.words

/-- A chaining state from its eight words. -/
def ShaState.ofWords {w : Nat} (ws : List (BitVec w)) : ShaState w := { upper := .at ws 0, lower := .at ws 4 }

/-- The sum over the bits of a word's rotations. -/
def turns {w : Nat} (rs : List Nat) (x : BitVec w) : BitVec w := (rs.map x.rotateRight).foldr (· ^^^ ·) 0

/-- What one of the two families is made of: word width w, block 2w bytes; how far its functions turn and shift a word; how many rounds there are. -/
structure ShaFamily (w : Nat) where
  upperTurns : List Nat
  lowerTurns : List Nat
  early : List Nat
  earlyShift : Nat
  late : List Nat
  lateShift : Nat
  constants : List (BitVec w)

/-- SHA-256: words of 32 bits, sixty-four rounds, each constant the upper half of the other family's. -/
def sha2Short : ShaFamily 32 where
  upperTurns := [2, 13, 22]
  early := [7, 18]
  earlyShift := 3
  lowerTurns := [6, 11, 25]
  late := [17, 19]
  lateShift := 10
  constants := (roundConstants.take 64).map (BitVec.extractLsb' 32 32)

/-- The SHA-512 family: words of 64 bits, eighty rounds. -/
def sha2Long : ShaFamily 64 where
  upperTurns := [28, 34, 39]
  early := [1, 8]
  earlyShift := 7
  lowerTurns := [14, 18, 41]
  late := [19, 61]
  lateShift := 6
  constants := roundConstants

/-- Of two words, bit by bit, the first where the chooser has a one. -/
def pickBits {w : Nat} (chooser one zero : BitVec w) : BitVec w := zero ^^^ (chooser &&& (one ^^^ zero))

/-- The value that at least two of three bits have. -/
def majorityBits {w : Nat} (x y z : BitVec w) : BitVec w := pickBits (x ^^^ y) z y

/-- One round over its constant and schedule word together. -/
def ShaFamily.round {w : Nat} (q : ShaFamily w) (v : ShaState w) (kx : BitVec w) : ShaState w :=
  let sum := kx + v.lower.oldest + pickBits v.lower.newest v.lower.second v.lower.third + turns q.lowerTurns v.lower.newest
  let mix := turns q.upperTurns v.upper.newest + majorityBits v.upper.newest v.upper.second v.upper.third
  { upper := v.upper.push (sum + mix), lower := v.lower.push (v.upper.oldest + sum) }

/-- The schedule word that follows a window of sixteen. -/
def ShaFamily.extend {w : Nat} (q : ShaFamily w) (win : List (BitVec w)) : BitVec w :=
  let y := win.getD 1 0
  let z := win.getD 14 0
  win.headD 0 + (turns q.early y ^^^ y >>> q.earlyShift) + win.getD 9 0 + (turns q.late z ^^^ z >>> q.lateShift)

/-- The rounds, one for each constant, over a window of the schedule. -/
def ShaFamily.rounds {w : Nat} (q : ShaFamily w) : List (BitVec w) → List (BitVec w) → ShaState w → ShaState w
  | [], _, v => v
  | k :: ks, win, v => q.rounds ks (win.tail ++ [q.extend win]) (q.round v (k + win.headD 0))

/-- One block taken into the chaining state. -/
def ShaFamily.block {w : Nat} (q : ShaFamily w) (v : ShaState w) (win : List (BitVec w)) : ShaState w :=
  .ofWords (v.words.zipWith (· + ·) (q.rounds q.constants win v).words)

/-- Bytes as big-endian words of w bits, n of them. -/
def beWords (w : Nat) : Nat → List Byte → List (BitVec w)
  | 0, _ => []
  | n + 1, bs => BitVec.ofNat w (beNat (bs.take (w / 8))) :: beWords w n (bs.drop (w / 8))

/-- The padded message: a 1 bit, zeros, and the length in bits in a quarter as many bytes as the word has bits. -/
def shaPad (w : Nat) (msg : List Byte) : List Byte :=
  let used := (msg.length + 1 + w / 4) % (2 * w)
  msg ++ 0x80#8 :: (List.replicate (if used = 0 then 0 else 2 * w - used) 0 ++ beBytes (w / 4) (8 * msg.length))

/-- Every block of a padded message, so many of them. -/
def ShaFamily.chain {w : Nat} (q : ShaFamily w) : Nat → ShaState w → List Byte → ShaState w
  | 0, v, _ => v
  | n + 1, v, bs => q.chain n (q.block v (beWords w 16 bs)) (bs.drop (2 * w))

/-- The final chaining state of a message. -/
def ShaFamily.hash {w : Nat} (q : ShaFamily w) (start : ShaState w) (msg : List Byte) : ShaState w :=
  let p := shaPad w msg
  q.chain (p.length / (2 * w)) start p

/-- The chaining state as bits, its first word first. -/
def ShaState.bits {w : Nat} (v : ShaState w) : BitVec (8 * w) :=
  BitVec.ofNat (8 * w) (v.words.foldl (fun n x => n * 2 ^ w + x.toNat) 0)

/-- Where SHA-512 begins: square roots of the first eight primes. -/
def start512 : ShaState 64 := .ofWords ((firstPrimes.take 8).map (rootFraction 2))

/-- Where SHA-256 begins: the upper halves of the same words. -/
def start256 : ShaState 32 := .ofWords (start512.words.map (BitVec.extractLsb' 32 32))

/-- Where SHA-384 begins: square roots of the ninth prime to the sixteenth. -/
def start384 : ShaState 64 := .ofWords (((firstPrimes.drop 8).take 8).map (rootFraction 2))

/-- Where SHA-512/256 begins: the digest of its own name under SHA-512 with every byte of its start turned by A5 (FIPS 180-4, 5.3.6). -/
def start512t256 : ShaState 64 :=
  sha2Long.hash (.ofWords (start512.words.map (· ^^^ 0xA5A5A5A5A5A5A5A5#64))) ("SHA-512/256".toList.map (fun c => BitVec.ofNat 8 c.toNat))

end Sys2Proof.Machine

namespace Sys2Proof.Config

open Sys2Proof

/-- SHA-256 (10 R313). -/
def sha256 (msg : List Byte) : BitVec 256 := (Machine.sha2Short.hash Machine.start256 msg).bits

/-- SHA-384: the first 384 bits of its chaining state (10 R313). -/
def sha384 (msg : List Byte) : BitVec 384 := ((Machine.sha2Long.hash Machine.start384 msg).bits >>> 128).setWidth 384

/-- SHA-512 (10 R313). -/
def sha512 (msg : List Byte) : BitVec 512 := (Machine.sha2Long.hash Machine.start512 msg).bits

/-- SHA-512/256: the first 256 bits of its chaining state (10 R313, 03 R91). -/
def sha512t256 (msg : List Byte) : BitVec 256 := ((Machine.sha2Long.hash Machine.start512t256 msg).bits >>> 256).setWidth 256

/-- A key as HMAC pads it to the block of 128 bytes. -/
def hmacKey (key : List Byte) : List Byte := Machine.slice (if 128 < key.length then Machine.digestBytes (sha384 key) else key) 0 128

/-- HMAC-SHA-384 of key and message, as FIPS 198-1 defines it (08, key derivation): PRESUMED log 4. -/
def hmac384 (key msg : List Byte) : BitVec 384 :=
  let k := hmacKey key
  sha384 (k.map (· ^^^ 0x5C#8) ++ Machine.digestBytes (sha384 (k.map (· ^^^ 0x36#8) ++ msg)))

end Sys2Proof.Config
end

