-- ==== Sys2Proof/Machine/Operands.lean ====
section
/-! DEFINITION. The stored and delivered structures as the spec lays them out, parsed and checked: integrity trees, mill maps with their signature blocks, port and device configuration records, release graphs and sluice tables. -/

namespace Sys2Proof.Machine

open Sys2Proof

/-- A mask of bits as a number, bit i as the function says. -/
def maskNat (n : Nat) (f : Nat → Bool) : Nat := ((List.range n).map fun i => if f i then 2 ^ i else 0).sum

/-- A byte of a structure; zero beyond its end. -/
def byteAt (bs : List Byte) (i : Nat) : Byte := bs.getD i 0

/-- Every element differs from every later one. -/
def distinct {α : Type} [BEq α] : List α → Bool
  | [] => true
  | x :: xs => !xs.contains x && distinct xs

/-- Cut a list into pieces of `n`, the last as long as it comes. -/
def pieces {α : Type} (n : Nat) : Nat → List α → List (List α)
  | 0, _ => []
  | k + 1, xs => if xs.isEmpty then [] else xs.take n :: pieces n k (xs.drop n)

/-- The pieces of `n` elements, `n` at least 1. -/
def chunksOf {α : Type} (n : Nat) (xs : List α) : List (List α) := pieces n xs.length xs

/-! ### Integrity trees (03 R91 to R97) -/

/-- Digest of a granule or leaf (03 R91). -/
def leafDigest (content : List Byte) : D256 := Config.sha512t256 (0x00 :: content)

/-- Digest of an internal node (03 R92). -/
def nodeDigest (l r : D256) : D256 := Config.sha512t256 (0x01 :: (digestBytes l ++ digestBytes r))

/-- One level of the root procedure (03 R93). -/
def treeLevel : List D256 → List D256
  | l :: r :: ds => nodeDigest l r :: treeLevel ds
  | ds => ds

/-- Levels until one digest is left. -/
def treeRootFuel : Nat → List D256 → D256
  | _, [] => 0
  | _, [d] => d
  | 0, d :: _ => d
  | n + 1, ds => treeRootFuel n (treeLevel ds)

/-- Root of a region's leaf digests, ascending (03 R93). -/
def treeRoot (ds : List D256) : D256 := treeRootFuel ds.length ds

/-- The entries of a leaf table (03 R97). -/
def tableLeaves (count : Nat) (bytes : List Byte) : List D256 :=
  (List.range count).map fun j => BitVec.ofNat 256 (beNat (slice bytes (32 * j) 32))

/-! ### Signature blocks (03 R100 to R107) -/

/-- A signature entry (03 R100). -/
structure SigEntry where
  alg : Nat
  slot : Nat
  pk : List Byte
  sig : List Byte
deriving DecidableEq, Repr

/-- Entries back to back, each padded to 8 bytes, filling the block exactly (03 R100). -/
def parseEntries : Nat → List Byte → Option (List SigEntry)
  | 0, bs => if bs.isEmpty then some [] else none
  | n + 1, bs =>
    let pk := field bs 4 2
    let sg := field bs 6 2
    let body := 16 + pk + sg
    let tot := (body + 7) / 8 * 8
    if bs.length < 16 || bs.length < tot || byteAt bs 3 != 0 || !zeros bs 8 8 || !zeros bs body (tot - body) then none
    else
      (parseEntries n (bs.drop tot)).map fun es =>
        { alg := field bs 0 2, slot := field bs 2 1, pk := slice bs 16 pk, sig := slice bs (16 + pk) sg } :: es

/-- A signature block of 1 to `maxEntries` entries naming key slots up to `maxSlot`, each different (03 R100). -/
def parseSigBlock (maxEntries maxSlot : Nat) (bs : List Byte) : Option (List SigEntry) :=
  let n := field bs 4 1
  if bs.length < 16 || field bs 0 4 != 0x42534E59 || n == 0 || decide (maxEntries < n) || !zeros bs 5 3
      || field bs 8 4 != bs.length || !zeros bs 12 4 then none
  else
    match parseEntries n (bs.drop 16) with
    | some es => if es.all (fun e => decide (e.slot ≤ maxSlot)) && distinct (es.map (·.slot)) then some es else none
    | none => none

/-- An ALG code of classical class (03 R101). -/
def algClassical (a : Nat) : Bool := a == 0x0001 || a == 0x0002

/-- Chains p of an LM-OTS type that R102 accepts: N32 with W4 or W8 (03 R102, 10 R323). -/
def otsChains (t : Nat) : Option Nat := if t = 3 then some 67 else if t = 4 then some 34 else none

/-- Tree height of an LMS type that R102 accepts (03 R102). -/
def lmsHeight (t : Nat) : Option Nat := if 6 ≤ t ∧ t ≤ 9 then some (5 * (t - 4)) else none

/-- A big-endian 32-bit integer of an HSS or LMS structure (SP 800-208; PRESUMED log 4). -/
def be32 (bs : List Byte) (off : Nat) : Nat := beNat (slice bs off 4)

/-- Length of the LMS signature at an offset, from its own types: q, the LM-OTS type with C and p chains, the LMS type and the path; none for a type that R102 does not accept. -/
def lmsSigLen (sg : List Byte) (off : Nat) : Option Nat :=
  (otsChains (be32 sg (off + 4))).bind fun p =>
    (lmsHeight (be32 sg (off + 40 + 32 * p))).map fun h => 44 + 32 * p + 32 * h

/-- The types of the LMS public key at an offset are ones that R102 accepts. -/
def lmsKeyOk (bs : List Byte) (off : Nat) : Bool := (lmsHeight (be32 bs off)).isSome && (otsChains (be32 bs (off + 4))).isSome

/-- An HSS/LMS entry's parameter sets are those of R102, and its SIG_LEN is the length they imply: L is 1 or 2, the signature holds L - 1 signed public keys, and each level's types are accepted (03 R102). A signature with another number of signed public keys than L - 1 fails here, so it gives MAP_KEY (DESIGN CHOICE log 100). -/
def hssParamsOk (pk sg : List Byte) : Bool :=
  lmsKeyOk pk 4 &&
    (if be32 pk 0 = 1 then be32 sg 0 == 0 && lmsSigLen sg 4 == some (sg.length - 4)
     else if be32 pk 0 = 2 then
       be32 sg 0 == 1 && (match lmsSigLen sg 4 with
         | some n => lmsKeyOk sg (4 + n) && lmsSigLen sg (60 + n) == some (sg.length - (60 + n))
         | none => false)
     else false)

/-! ### Curves (09 R288, R303) -/

/-- Prime p of a curve's field by ALG code of 09 R287, as FIPS 186-5 has it for P-256, P-384 and P-521 (PRESUMED, log 4). -/
def curvePrime (alg : Nat) : Nat :=
  if alg = 1 then 2 ^ 256 - 2 ^ 224 + 2 ^ 192 + 2 ^ 96 - 1 else if alg = 2 then 2 ^ 384 - 2 ^ 128 - 2 ^ 96 + 2 ^ 32 - 1 else 2 ^ 521 - 1

/-- Order n of a curve, as FIPS 186-5 has it (PRESUMED, log 4). -/
def curveOrder (alg : Nat) : Nat :=
  if alg = 1 then 0xffffffff00000000ffffffffffffffffbce6faada7179e84f3b9cac2fc632551
  else if alg = 2 then 0xffffffffffffffffffffffffffffffffffffffffffffffffc7634d81f4372ddf581a0db248b0a77aecec196accc52973
  else
    0x01fffffffffffffffffffffffffffffffffffffffffffffffffffffffffffffffffa51868783bf2f966b7fcc0148f709a5d03bb5c9b8899c47aebb6fb71e91386409

/-- Coefficient b of a curve y² = x³ - 3x + b, as FIPS 186-5 has it (PRESUMED, log 4). -/
def curveB (alg : Nat) : Nat :=
  if alg = 1 then 0x5ac635d8aa3a93e7b3ebbd55769886bc651d06b0cc53b0f63bce3c3e27d2604b
  else if alg = 2 then 0xb3312fa7e23ee7e4988e056be3f82d19181d9c6efe8141120314088f5013875ac656398d8a2ed19d2a85c8edd3ec2aef
  else
    0x0051953eb9618e1c9a1f929a21a0b68540eea2da725b99b315f3b8b489918ef109e156193951ec7e937b1652c0bd3bb1bf073573df883d2c34f1ef451fd46b503f00

/-- Element size E of a curve (09 R310). -/
def elemSize (alg : Nat) : Nat := if alg = 1 then 32 else if alg = 2 then 48 else 66

/-- A point, x then y, passes the check of 09 R303: coordinates below p, on the curve, and not the point at infinity. -/
def pointOk (alg : Nat) (bs : List Byte) : Bool :=
  let e := elemSize alg
  let p := curvePrime alg
  let x := beNat (bs.take e)
  let y := beNat (bs.drop e)
  decide (x < p) && decide (y < p) && !(x == 0 && y == 0) && y * y % p == (x * x * x + curveB alg + 3 * (p - x)) % p

/-- A public key encoded 0x04 ‖ X ‖ Y, by the ALG code of 03 R101, is a point of its curve (03 R101, 09 R303). -/
def keyPointOk (alg : Nat) (bs : List Byte) : Bool := byteAt bs 0 == 4 && pointOk (alg + 1) (bs.drop 1)

/-- Algorithm, key length, signature length and parameter set are ones the device accepts (03 R101, R102). -/
def SigEntry.known (e : SigEntry) : Bool :=
  match e.alg with
  | 0x0001 => e.pk.length == 97 && e.sig.length == 96
  | 0x0002 => e.pk.length == 133 && e.sig.length == 132
  | 0x0010 => e.pk.length == 2592 && e.sig.length == 4627
  | 0x0020 => e.pk.length == 60 && hssParamsOk e.pk e.sig
  | _ => false

/-- Key hash of an entry (03 R104). -/
def SigEntry.keyHash (e : SigEntry) : D384 := Config.sha384 (leBytes 2 e.alg ++ e.pk)

/-- An OTP key slot that is all zero or all one matches no key hash (03 R105). -/
def keyMatches (slot hash : BitVec 384) : Bool := slot != 0 && slot != BitVec.allOnes 384 && slot == hash

/-- The entry's key is the one the OTP slot holds (03 R104, R105). -/
def SigEntry.authorized (e : SigEntry) (o : Otp) : Bool := keyMatches (o.keys.toList.getD e.slot 0) e.keyHash

/-- The entry verifies: classical entries over `msg`, post-quantum ones over its 48-byte digest under `ctx` (03 R101). -/
def SigEntry.verifies (e : SigEntry) (ctx msg : List Byte) : Bool :=
  if algClassical e.alg then Config.sigValid e.alg e.pk [] msg e.sig
  else Config.sigValid e.alg e.pk (if e.alg = 0x0010 then ctx else []) (digestBytes (Config.sha384 msg)) e.sig

/-- The entry runs on the public-key engine; HSS/LMS runs on the stones (03 R103). -/
def SigEntry.onEngine (e : SigEntry) : Bool := e.alg != 0x0020

/-- What a verification finds to run on: a core that returns no FAULT, and a FREE miller context (03 R103, R111, 10 R318). -/
structure Engines where
  core : Bool
  ctx : Bool
deriving DecidableEq, Repr

/-- The code for an entry that nothing can verify: 0x08 for want of a core, 0x09 for want of a context. -/
def SigEntry.lacks (e : SigEntry) (g : Engines) : Nat := if e.onEngine then (if g.core then 0 else 0x08) else if g.ctx then 0 else 0x09

/-- Codes of 03 R112 that the entries give, first failure first; 0 when every entry verifies, and 0x09 where an HSS/LMS entry finds no context (03 R107, R111, 10 R318). -/
def checkEntries (o : Otp) (ctx msg : List Byte) (g : Engines) : List SigEntry → Nat
  | [] => 0x00
  | e :: es =>
    if !e.known then 0x04
    else if !e.authorized o then 0x04
    else if e.lacks g != 0 then e.lacks g
    else if algClassical e.alg && !keyPointOk e.alg e.pk then 0x04
    else if !e.verifies ctx msg then 0x05
    else checkEntries o ctx msg g es

/-- At least one classical and one post-quantum entry (03 R106). -/
def hybridOk (es : List SigEntry) : Bool := es.any (fun e => algClassical e.alg) && es.any fun e => !algClassical e.alg

/-! ### Mill maps (03 R88 to R111) -/

/-- A floor is the number of bits blown (03, security versions). -/
def Otp.floor (o : Otp) (dom : Nat) : Nat := popcount (o.floors.toList.getD dom 0)

/-- Entry k of a region table (03 R88). -/
def parseRegion (m : List Byte) (k : Nat) : Region :=
  let b := 0x80 + 64 * k
  { policy := field m b 1, rflags := field m (b + 1) 1, start := field m (b + 4) 4, len := field m (b + 8) 4,
    ltOffset := field m (b + 12) 4, leafCount := field m (b + 16) 4, rparam := field m (b + 20) 4,
    root := BitVec.ofNat 256 (beNat (slice m (b + 32) 32)) }

/-- The map as its bytes say (03 R88). -/
def parseMap (m : List Byte) : MillMap :=
  let signed := field m 12 4
  { bytes := m, mapLen := field m 8 4, signedLen := signed, portMask := field m 16 4, vsize := field m 20 4,
    domain := field m 26 1, hybrid := (byteAt m 27).getLsbD 0, secVersion := field m 28 2, serial := slice m 32 8,
    imageId := slice m 40 16, imageDigest := BitVec.ofNat 384 (beNat (slice m 64 48)),
    regions := (List.range (field m 24 2)).map (parseRegion m), digest := Config.sha384 (m.take signed) }

/-- Leaf size of a verified policy (03 R89). -/
def leafSize (policy : Nat) : Nat := if policy = 1 then 4096 else 65536

/-- Size of a stream region's leaf table (03 R97). -/
def Region.tableLen (r : Region) : Nat := 32 * r.leafCount

/-- Resident-verify. -/
def Region.resident (r : Region) : Bool := r.policy == 1

/-- Stream-verify. -/
def Region.stream (r : Region) : Bool := r.policy == 2

/-- Resident-verify or stream-verify. -/
def Region.verified (r : Region) : Bool := r.resident || r.stream

/-- The region holds an address. -/
def Region.holds (r : Region) (a : Nat) : Bool := decide (r.start ≤ a) && decide (a < r.start + r.len)

/-- Two ranges share no address. -/
def apart (a n b k : Nat) : Bool := decide (a + n ≤ b) || decide (b + k ≤ a)

/-- The rules of one entry (03 R89, R90 items 2, 4, 5, 8, 04 R138), its reserved bytes at `m`. -/
def regionFieldsOk (m : List Byte) (v k : Nat) (r : Region) : Bool :=
  let b := 0x80 + 64 * k
  zeros m (b + 2) 2 && zeros m (b + 24) 8 && decide (1 ≤ r.policy) && decide (r.policy ≤ 5)
    && r.start % 4096 == 0 && r.len % 4096 == 0 && r.len != 0 && decide (r.start + r.len ≤ v)
    && (if r.resident then r.rflags == 0 && r.ltOffset == 0 && r.rparam == 0 && r.leafCount == r.len / 4096
        else if r.stream then
          decide (r.rflags ≤ 1) && decide (r.rparam ≤ 1000) && r.start % 65536 == 0 && r.len % 65536 == 0
            && r.leafCount == r.len / 65536
        else r.rflags == 0 && r.ltOffset == 0 && r.rparam == 0 && r.leafCount == 0 && r.root == 0)

/-- Regions ascend and do not overlap (03 R90 item 3). -/
def regionsAscend : List Region → Bool
  | r :: q :: rs => decide (r.start + r.len ≤ q.start) && regionsAscend (q :: rs)
  | _ => true

/-- Leaf tables lie where R90 item 6 says. -/
def tablesOk (v : Nat) (all : List Region) : List Region → Bool
  | [] => true
  | r :: rs =>
    (!r.stream || (r.ltOffset % 4096 == 0 && decide (r.ltOffset + r.tableLen ≤ v)
        && all.all (fun q => apart r.ltOffset r.tableLen q.start q.len)
        && rs.all (fun q => !q.stream || apart r.ltOffset r.tableLen q.ltOffset q.tableLen)))
      && tablesOk v all rs

/-- Every region entry meets R89 and R90 items 2 to 8. -/
def regionsOk (m : List Byte) (v : Nat) (rs : List Region) : Bool :=
  (rs.zipIdx.all fun (r, k) => regionFieldsOk m v k r) && regionsAscend rs && tablesOk v rs rs
    && decide ((rs.filter (·.policy == 5)).length ≤ 1)

/-- Verify a map for a port (03 R111): its result code of R112, and what it says when that is MAP_OK. An HSS/LMS entry that finds no context gives MAP_ENGINE (10 R318). -/
def verifyMap (o : Otp) (m : List Byte) (p : PortId) (v : Nat) (hybridCfg : Bool) (g : Engines) : Nat × Option MillMap :=
  let x := parseMap m
  if m.length < 0x80 || decide (24576 < m.length) then (0x01, none)
  else if field m 0 4 != 0x4D4D4E59 || field m 4 2 != 1 || field m 6 2 != 0x80 then (0x01, none)
  else if x.regions.length == 0 || decide (64 < x.regions.length) then (0x01, none)
  else if x.signedLen != 0x80 + 64 * x.regions.length || x.mapLen != m.length then (0x01, none)
  else if decide (m.length < x.signedLen + 0x10) then (0x01, none)
  else if !zeros m 30 2 || !zeros m 56 8 || !zeros m 112 16 || decide (1 < field m 27 1) || decide (15 < x.domain)
      || decide (128 < x.secVersion) then (0x01, none)
  else if x.vsize != v || !x.portMask.testBit p.val then (0x02, none)
  else if !regionsOk m v x.regions then (0x03, none)
  else
    match parseSigBlock 4 7 (m.drop x.signedLen) with
    | none => (0x01, none)
    | some es =>
      match checkEntries o (ascii "mill map") (m.take x.signedLen) g es with
      | 0 =>
        if (x.hybrid || hybridCfg) && !hybridOk es then (0x06, none)
        else if decide (x.secVersion < o.floor x.domain) then (0x07, none)
        else (0x00, some x)
      | 9 => (0x08, none)
      | c => (c, none)

/-- The region of a map that holds an address, with its index. -/
def MillMap.regionOf (m : MillMap) (a : Nat) : Option (Nat × Region) :=
  (m.regions.zipIdx.find? fun (r, _) => r.holds a).map fun (r, k) => (k, r)

/-- Virtual addresses of the resident granules, ascending, each with its region's index (04 R119). -/
def MillMap.granules (m : MillMap) : List (Nat × Nat) :=
  m.regions.zipIdx.flatMap fun (r, k) =>
    if r.resident then (List.range (r.len / 4096)).map fun j => (k, r.start + 4096 * j) else []

/-- Virtual addresses of the granules of every verified region (07 R248). -/
def MillMap.allGranules (m : MillMap) : List (Nat × Nat) :=
  m.regions.zipIdx.flatMap fun (r, k) =>
    if r.verified then (List.range (r.len / 4096)).map fun j => (k, r.start + 4096 * j) else []

/-- Stream regions with their indices, ascending. -/
def MillMap.streams (m : MillMap) : List (Nat × Region) :=
  m.regions.zipIdx.filterMap fun (r, k) => if r.stream then some (k, r) else none

/-- Verified regions with their indices, ascending. -/
def MillMap.verified (m : MillMap) : List (Nat × Region) :=
  m.regions.zipIdx.filterMap fun (r, k) => if r.verified then some (k, r) else none

/-- Length L of the image of a map (07 R227). -/
def MillMap.imageLen (m : MillMap) : Nat :=
  (m.regions.map fun r => (if r.verified then r.len else 0) + (if r.stream then r.tableLen else 0)).sum

/-- Size S of a substitute (07 R248). -/
def MillMap.substSize (m : MillMap) : Nat := (m.regions.map fun r => if r.verified then r.len else 0).sum

/-- Extents a stream region takes (04 R128). -/
def Region.extents (r : Region) : Nat := (r.leafCount + 255) / 256

/-- The bytes that R99 hashes: the verified contents, then the leaf tables. -/
def imageOf (img : SlotImage) : List Byte := img.regions.flatten ++ img.tables.flatten

/-- An image cut into its regions and tables (07 R227, R228). -/
def splitImage (m : MillMap) (bytes : List Byte) : SlotImage :=
  let lens := m.verified.map fun (_, r) => r.len
  let tabs := m.streams.map fun (_, r) => r.tableLen
  let cut := fun (acc : List (List Byte) × List Byte) (n : Nat) => (acc.1 ++ [slice acc.2 0 n], acc.2.drop n)
  let a := lens.foldl cut ([], bytes)
  { regions := a.1, tables := (tabs.foldl cut ([], a.2)).1 }

/-- Content of a verified region in a slot's image. -/
def regionContent (img : SlotImage) (m : MillMap) (k : Nat) : List Byte :=
  match (m.verified.zip img.regions).find? fun ((j, _), _) => j == k with | some (_, c) => c | none => []

/-- Leaf digests of a stream region's content. -/
def leavesOf (r : Region) (c : List Byte) : List D256 := (List.range r.leafCount).map fun j => leafDigest (slice c (65536 * j) 65536)

/-- The check of a stream region: its table's root, then every leaf against its entry (07 R235 step 2, R249). -/
def streamFault (r : Region) (table c : List Byte) : Option Nat :=
  if treeRoot (tableLeaves r.leafCount table) != r.root then some 0x10
  else if leavesOf r c != tableLeaves r.leafCount table then some 0x13
  else none

/-- The check of a resident region: the root over its granule digests, from `known` where it has them (07 R235 step 3). -/
def residentFault (r : Region) (c : List Byte) (known : Nat → Option D256) : Option Nat :=
  let ds := (List.range r.leafCount).map fun j => (known (r.start + 4096 * j)).getD (leafDigest (slice c (4096 * j) 4096))
  if treeRoot ds = r.root then none else some 0x10

/-- Where the first check of a slot's content fails: FAIL_CODE and FAIL_REGION (07 R220, R235): the stream regions one at a time, then the resident ones. -/
def checkContent (m : MillMap) (img : SlotImage) (known : Nat → Option D256) : Option (Nat × Nat) :=
  let tabs := m.streams.zip (img.tables ++ List.replicate m.streams.length [])
  let streams := tabs.findSome? fun ((k, r), t) => (streamFault r t (regionContent img m k)).map fun f => (f, k)
  let residents := m.verified.findSome? fun (k, r) =>
    if r.resident then (residentFault r (regionContent img m k) known).map fun f => (f, k) else none
  streams.orElse fun _ => residents

/-! ### Port and device configuration (13 R429 to R436) -/

/-- Bus mode of a bit index of the MODES field (05 R159). -/
def modeOf : Nat → BusMode
  | 0 => .s111 | 1 => .s114 | 2 => .s144 | 3 => .s4s4d | 4 => .s888 | _ => .d888

/-- Bit index of a bus mode (05 R159). -/
def modeIndex : BusMode → Nat
  | .s111 => 0 | .s114 => 1 | .s144 => 2 | .s4s4d => 3 | .s888 => 4 | .d888 => 5

/-- Maximum clock of a mode in MHz, at 1.8 V and at 3.3 V; 0 where R30 does not support it (02 R30). -/
def modeClock (at33 : Bool) : BusMode → Nat
  | .s111 | .s114 | .s144 => if at33 then 104 else 133
  | .s4s4d => 100
  | .s888 => if at33 then 0 else 166
  | .d888 => if at33 then 0 else 200

/-- Recovery option codes are used once each, none after a none (07 R245). -/
def optionsOk (a b c : Nat) : Bool :=
  decide (a ≤ 3) && decide (b ≤ 3) && decide (c ≤ 3) && (a != 0 || b == 0) && (b != 0 || c == 0)
    && (a == 0 || (a != b && a != c)) && (b == 0 || b != c)

/-- FORMAT of a settings item. -/
def itemFormat (bs : List Byte) : Nat := field bs 4 2

/-- A port configuration record in FORMAT 0x0002: as stored, or converted from FORMAT 0x0001 (13 R435, R436). -/
def convertCfg (bs : List Byte) : Option (List Byte) :=
  if itemFormat bs = 2 then (if bs.length = 64 then some bs else none)
  else if itemFormat bs = 1 then
    if bs.length = 48 then
      some (slice bs 0 4 ++ leBytes 2 2 ++ [byteAt bs 6, byteAt bs 7 &&& 0xFB#8] ++ slice bs 8 27
        ++ [byteAt bs 35 &&& 0xF3#8] ++ slice bs 36 12 ++ List.replicate 16 0)
    else none
  else none

/-- The fields of a port configuration record in FORMAT 0x0002 (13 R429, 07 R245). -/
def portCfgOf (bs : List Byte) : PortCfg :=
  let pf := byteAt bs 7
  let cm := byteAt bs 18
  let rf := byteAt bs 35
  { enable := pf.getLsbD 0, addr4 := pf.getLsbD 1, hybrid := pf.getLsbD 2, frst := pf.getLsbD 3,
    jesd252 := pf.getLsbD 4, golden := pf.getLsbD 5, mode := modeOf (field bs 8 1), profile := field bs 9 1,
    fport := field bs 10 2, vlog2 := field bs 12 1, fastRead := byteAt bs 13, srInit := byteAt bs 14,
    cshNs := field bs 15 1, rstRecov := field bs 16 2, csA := cm.getLsbD 0, csB := cm.getLsbD 1, csG := cm.getLsbD 2,
    baseA := field bs 20 4, baseB := field bs 24 4, baseG := field bs 28 4,
    opt1 := field bs 32 1, opt2 := field bs 33 1, opt3 := field bs 34 1, autoRepair := rf.getLsbD 0,
    autoReturn := rf.getLsbD 1, sharedWrite := rf.getLsbD 2, preload := rf.getLsbD 3, substTmo := field bs 36 2 }

/-- V of a configuration (02 R43). -/
def PortCfg.v (c : PortCfg) : Nat := 2 ^ c.vlog2

/-- Chip select of a slot. -/
def PortCfg.cs (c : PortCfg) : SlotId → Bool
  | .a => c.csA | .b => c.csB | .g => c.csG

/-- Base of a slot. -/
def PortCfg.base (c : PortCfg) : SlotId → Nat
  | .a => c.baseA | .b => c.baseB | .g => c.baseG

/-- Two slots at one place overlap: bases are multiples of V (02 R43, 07 R219). -/
def PortCfg.clash (c : PortCfg) (i j : SlotId) : Bool := c.cs i == c.cs j && c.base i == c.base j

/-- A FORMAT 0x0002 record meets R429 for a port. -/
def portCfgOk (bs : List Byte) (p : PortId) : Bool :=
  let c := portCfgOf bs
  let baseOk := fun i => c.base i % c.v == 0 && decide (c.base i + c.v ≤ 2 ^ 29)
  bs.length == 64 && field bs 0 4 == 0x43504E59 && field bs 6 1 == p.val && decide (field bs 7 1 < 64)
    && decide (field bs 8 1 ≤ 5) && decide (c.profile ≤ 3) && decide (1 ≤ c.fport) && decide (c.fport ≤ modeClock false c.mode)
    && decide (20 ≤ c.vlog2) && decide (c.vlog2 ≤ 29) && decide (field bs 14 1 % 4 = 0) && decide (field bs 18 1 < 8)
    && byteAt bs 19 == 0 && zeros bs 40 24 && decide (field bs 35 1 < 16) && zeros bs 38 2
    && optionsOk c.opt1 c.opt2 c.opt3 && decide (c.substTmo ≤ 3600)
    && baseOk .a && baseOk .b && !c.clash .a .b
    && (if c.golden then baseOk .g && !c.clash .a .g && !c.clash .b .g else c.baseG == 0)

/-- A stored port configuration as the firmware reads it: none where it breaks its layout (13 R433, R435, R436). -/
def readCfg (bs : List Byte) (p : PortId) : Option PortCfg :=
  match convertCfg bs with
  | some c => if portCfgOk c p then some (portCfgOf c) else none
  | none => none

/-- The device configuration record (13 R431). -/
structure DevCfg where
  reserve : Nat
  scrubMs : Nat
  prio0 : Nat
  prio14 : Nat
  prio15 : Nat
  authHybrid : Bool
deriving DecidableEq, Repr

/-- What the device uses with no readable record (13 R431, 11 R373). -/
def devDefault : DevCfg := { reserve := 0, scrubMs := 4000, prio0 := 192, prio14 := 64, prio15 := 128, authHybrid := false }

/-- A device configuration record in FORMAT 0x0002 (13 R435, R436). -/
def convertDev (bs : List Byte) : Option (List Byte) :=
  if itemFormat bs = 2 then (if bs.length = 32 then some bs else none)
  else if itemFormat bs = 1 then
    if bs.length = 16 then
      some (slice bs 0 4 ++ leBytes 2 2 ++ slice bs 6 6 ++ leBytes 1 192 ++ leBytes 1 64 ++ leBytes 1 128
        ++ [0] ++ List.replicate 16 0)
    else none
  else none

/-- The fields of a FORMAT 0x0002 device configuration record. -/
def devCfgOf (bs : List Byte) : DevCfg :=
  { reserve := field bs 6 2, scrubMs := field bs 8 4, prio0 := field bs 12 1, prio14 := field bs 13 1,
    prio15 := field bs 14 1, authHybrid := (byteAt bs 15).getLsbD 0 }

/-- A FORMAT 0x0002 record meets R431. -/
def devCfgOk (bs : List Byte) : Bool :=
  let c := devCfgOf bs
  bs.length == 32 && field bs 0 4 == 0x43444E59 && decide (c.reserve ≤ 12288) && decide (500 ≤ c.scrubMs)
    && decide (c.scrubMs ≤ 60000) && decide (field bs 15 1 ≤ 1) && zeros bs 16 16

/-- A stored device configuration as the firmware reads it. -/
def readDev (bs : List Byte) : Option DevCfg :=
  match convertDev bs with
  | some c => if devCfgOk c then some (devCfgOf c) else none
  | none => none

/-! ### Release graphs (06 R197 to R199) -/

/-- Record n of a release graph. -/
def relRecOf (bs : List Byte) (n : Nat) : RelRec :=
  let b := 16 + 16 * n
  { pred := BitVec.ofNat 32 (field bs b 4), hrdy := BitVec.ofNat 32 (field bs (b + 4) 4),
    skip := BitVec.ofNat 32 (field bs (b + 8) 4), settleMs := field bs (b + 12) 2, brakeMinMs := field bs (b + 14) 1,
    tmo10ms := field bs (b + 15) 1 }

/-- The 32 records of a graph. -/
def relRecs (bs : List Byte) : Vector RelRec 32 := Vector.ofFn fun n : Fin 32 => relRecOf bs n.val

/-- Every field of a graph meets R197. -/
def graphFieldsOk (bs : List Byte) : Bool :=
  bs.length == 528 && field bs 0 4 == 0x47524E59 && field bs 4 2 == 1 && zeros bs 6 10
    && (List.range 32).all fun n =>
      let r := relRecOf bs n
      !r.pred.getLsbD n && r.hrdy &&& ~~~r.pred == 0 && r.skip &&& ~~~r.pred == 0 && decide (r.settleMs ≤ 1000)
        && decide (1 ≤ r.brakeMinMs)

/-- One round: a port whose predecessors are all cleared is cleared. -/
def clearRound (rs : Vector RelRec 32) (done : BitVec 32) : BitVec 32 :=
  (List.finRange 32).foldl (fun d n => if (rs[n]).pred &&& ~~~done == 0 then d ||| BitVec.ofNat 32 (2 ^ n.val) else d) done

/-- The ports that lie on a cycle or are reachable from one (06 R199). -/
def cyclePorts (rs : Vector RelRec 32) : BitVec 32 :=
  ~~~((List.range 32).foldl (fun d _ => clearRound rs d) 0)

/-- A graph is valid (06 R198). -/
def graphOk (bs : List Byte) : Bool := graphFieldsOk bs && cyclePorts (relRecs bs) == 0

/-! ### Sluice tables (05 R158 to R163, R186) -/

/-- Opcodes no entry may name (05 R162 SLT_PROTECTED). -/
def protectedOps : List Byte :=
  [0x04, 0x05, 0x06, 0x50, 0x5A, 0x66, 0x70, 0x99, 0x9F, 0xAB, 0xB7, 0xB9, 0xC5, 0xC8, 0xE9]

/-- One entry of a stored table (05 R159). -/
def slEntryOf (e : List Byte) : SlEntry :=
  { opcode := byteAt e 0, modes := byteAt e 1, cls := field e 2 1, addr := field e 3 1 % 4, array := (byteAt e 3).getLsbD 2,
    dummy := field e 4 1 % 32, advertised := (byteAt e 4).getLsbD 7, data := field e 5 1, extent := field e 6 1,
    rcheck := field e 7 1, actPass := field e 8 1, actDeny := field e 9 1, evtPass := (byteAt e 10).getLsbD 0,
    vsrc := field e 11 1, vdata := field e 12 1 }

/-- Classes whose commands are Held (05 R160). -/
def heldClass (c : Nat) : Bool := c == 2 || c == 3 || decide (5 ≤ c ∧ c ≤ 8)

/-- A region check applies (05 R169). -/
def SlEntry.checked (e : SlEntry) : Bool := heldClass e.cls && e.array

/-- An entry meets R159. -/
def slEntryOk (b : List Byte) : Bool :=
  let e := slEntryOf b
  let needsSrc := e.cls == 4 && e.actPass == 1
  b.length == 16 && e.modes != 0 && decide (e.modes.toNat < 64) && decide (1 ≤ e.cls ∧ e.cls ≤ 8) && decide (field b 3 1 < 8)
    && byteAt b 4 &&& 0x60#8 == 0 && (!e.advertised || e.dummy == 0) && decide (e.data ≤ 2)
    && (if e.cls == 3 then e.extent == 0xFF || decide (12 ≤ e.extent ∧ e.extent ≤ 29) else e.extent == 0)
    && decide (e.rcheck ≤ 3) && decide (e.actPass ≤ 4) && decide (e.actDeny ≤ 4) && (e.checked || e.actDeny == 0)
    && decide (field b 10 1 ≤ 1)
    && (if needsSrc then e.vsrc == 1 || e.vsrc == 2 else e.vsrc == 0)
    && (e.vsrc == 1 || (e.vsrc == 2 && decide (1 ≤ e.vdata ∧ e.vdata ≤ 16)) || (e.vsrc == 0 && e.vdata == 0))
    && zeros b 13 3

/-- What R40 knows of an opcode: its class of R160, with the SCCR reads and writes and the program opcodes of the real part; 0xEE only in 8D-8D-8D; none for an unknown opcode. -/
def knownClass (sccrReads sccrWrites prog4 : List Byte) (in8d : Bool) (op : Byte) : Option Nat :=
  if op ∈ [0x03, 0x13, 0x0B, 0x0C, 0x6B, 0x6C, 0xEB, 0xEC] || (in8d && op == 0xEE) then some 1
  else if op ∈ [0x02, 0x12, 0x32, 0x34] || prog4.contains op then some 2
  else if op ∈ [0x20, 0x21, 0xD8, 0xDC, 0x60, 0xC7] then some 3
  else if op ∈ [0x5A, 0x9F, 0x05, 0x70, 0xC8] || sccrReads.contains op then some 4
  else if op ∈ [0x01, 0xC5] || sccrWrites.contains op then some 5
  else if op ∈ [0x06, 0x04, 0xB7, 0xE9, 0x66, 0x99, 0xB9, 0xAB, 0x50] then some 6
  else if op ∈ [0x75, 0xB0] then some 7
  else if op ∈ [0x7A, 0x30] then some 8
  else none

/-- An action is permitted for a class (05 R161). -/
def actionOk (cls a : Nat) : Bool :=
  match a with
  | 0 => cls == 1 || cls == 4
  | 1 => cls == 4 || cls == 5
  | 2 | 3 => heldClass cls
  | 4 => true
  | _ => false

/-- The entry covers 8D-8D-8D, where R40 knows 0xEE (02 R40). -/
def SlEntry.in8d (e : SlEntry) : Bool := e.modes.getLsbD 5

/-- An entry breaks the action rules (05 R162 SLT_ACTION). That a register write which R40 knows is VIRTUAL or CANCEL is asked of ACT_PASS alone, the action that an entry without a region check has (DESIGN CHOICE log 124). -/
def slActionBad (known : Bool → Byte → Option Nat) (e : SlEntry) : Bool :=
  !actionOk e.cls e.actPass || (e.checked && !actionOk e.cls e.actDeny) || (e.checked && e.actDeny == 2)
    || (e.cls == 1 && !e.advertised)
    || (e.cls == 5 && known e.in8d e.opcode == some 5 && e.actPass != 1 && e.actPass != 4)

/-- Two entries share an opcode and a mode. -/
def slDuplicate : List SlEntry → Option Nat
  | es => (es.zipIdx.find? fun (e, i) => (es.take i).any fun d => d.opcode == e.opcode && d.modes &&& e.modes != 0).map (·.2)

/-- A family entry (05 R186). -/
def famEntry (modes : Byte) (op : Byte) (cls addr dummy data extent act vsrc vdata : Nat) : SlEntry :=
  { opcode := op, modes, cls, addr, array := false, dummy, advertised := false, data, extent, rcheck := 0,
    actPass := act, actDeny := 0, evtPass := false, vsrc, vdata }

/-- The default tables by family code (05 R186). -/
def familyTable (f : Nat) : List SlEntry :=
  if f = 0 || 3 < f then []
  else
    let m : Byte := if f = 3 then 0x3F else 0x0F
    [famEntry m 0x4B 4 3 8 1 0 1 2 1, famEntry m 0x48 4 3 8 1 0 1 2 16, famEntry m 0x42 2 3 0 2 0 3 0 0,
     famEntry m 0x44 3 3 0 0 12 3 0 0, famEntry m 0x36 6 3 0 0 0 3 0 0, famEntry m 0x39 6 3 0 0 0 3 0 0,
     famEntry m 0x7E 6 0 0 0 0 3 0 0, famEntry m 0x98 6 0 0 0 0 3 0 0]
    ++ (if f = 1 then [] else [famEntry m 0xB1 5 0 0 2 0 3 0 0, famEntry m 0xB5 4 0 0 1 0 1 2 1])
    ++ (if f = 3 then [famEntry m 0x7C 4 0 8 1 0 0 0 0] else [])

/-- The family's entries with the modes that stored entries cover removed (05 R163). -/
def familyRest (stored : List SlEntry) (f : Nat) : List SlEntry :=
  (familyTable f).filterMap fun e =>
    let left := (stored.filter fun d => d.opcode == e.opcode).foldl (fun m d => m &&& ~~~d.modes) e.modes
    if left = 0 then none else some { e with modes := left }

/-- A table's header meets R158, with its length. -/
def slHeaderOk (t : List Byte) : Bool :=
  field t 0 4 == 0x534C4E59 && field t 4 2 == 1 && decide (field t 6 1 ≤ 64) && decide (field t 7 1 ≤ 3) && zeros t 8 8
    && t.length == 16 + 16 * field t 6 1

/-- The stored entries of a table. -/
def slEntries (t : List Byte) : List SlEntry := (chunksOf 16 (t.drop 16)).map slEntryOf

/-- The effective table (05 R163). -/
def effectiveTable (t : List Byte) : List SlEntry := slEntries t ++ familyRest (slEntries t) (field t 7 1)

/-- Result code of R162 and index of the first refused entry, `pageOk` for SLT_PAGE. A table that breaks several checks gets the lowest code, and an action code above 4 is a format fault: the spec ranks neither (DESIGN CHOICE log 71). -/
def checkSluice (t : List Byte) (known : Bool → Byte → Option Nat) (pageOk : Bool) : Nat × Nat :=
  let es := effectiveTable t
  let at1 := fun (f : SlEntry → Bool) => (es.zipIdx.find? fun (e, _) => f e).map (·.2)
  if !slHeaderOk t then (1, 0xFF)
  else
    match ((chunksOf 16 (t.drop 16)).zipIdx.find? fun (b, _) => !slEntryOk b).map (·.2) with
    | some i => (1, i)
    | none =>
    match at1 fun e => protectedOps.contains e.opcode with
    | some i => (2, i)
    | none =>
    match slDuplicate es with
    | some i => (3, i)
    | none =>
    match at1 (slActionBad known) with
    | some i => (4, i)
    | none =>
    match at1 fun e => match known e.in8d e.opcode with | some c => c != e.cls | none => false with
    | some i => (5, i)
    | none => if decide (64 < es.length) then (6, 0xFF) else if !pageOk then (7, 0xFF) else (0, 0xFF)

/-- An empty table: no entries and no family; what a port with no stored table uses (log 18). -/
def emptySluice : List Byte := leBytes 4 0x534C4E59 ++ leBytes 2 1 ++ List.replicate 10 0

end Sys2Proof.Machine
end

