-- ==== Sys2Proof/Machine/PortOps.lean ====
section
/-! DEFINITION. Operations that several families share: events of a port and its slots, allocation in the millpond and the tree store, arming targets, recovery, verdict failures, and the end of a containment. -/

namespace Sys2Proof.Machine

open Sys2Proof

/-! ### Event data (16 R506) -/

/-- The slot that a port's content comes from; the golden slot for a golden substitute. -/
def Source.slotId : Source → Option SlotId
  | .slot i => some i
  | .golden => some .g
  | .adapter => none

/-- The active-slot remap follows the content that the port is armed on, while Pn_HCS# is high and the brake asserted (02 R44, R49): the golden slot's place for a golden substitute, FCS0# and base 0 for an adapter's (log 76). -/
def Port.mapTo (x : Port) : Port :=
  if x.hcsLow || !x.brake then x
  else { x with remap := match x.cfg, x.source.slotId with | some c, some i => (c.cs i, c.base i) | _, _ => (false, 0) }

/-- SLOT byte of an event: 0xFF for the adapter's substitute (log 21). -/
def Source.code (x : Source) : Nat := match x.slotId with | some i => slotCode i | none => 0xFF

/-- DATA of ARM_FAIL: reason, code of R112 or R162, region, slot. -/
def armFailData (reason code region slot : Nat) : List Byte :=
  leBytes 1 reason ++ leBytes 1 code ++ leBytes 1 region ++ leBytes 1 slot

/-- Raise ARM_FAIL (16 R503 offset 10). -/
def State.armFail (s : State) (p : PortId) (reason code region : Nat) : State :=
  s.portEvent p 10 (armFailData reason code region (s.port p).source.code)

/-! ### Configuration and maps in the settings store -/

/-- A port's configuration as stored: none when no record is stored, some none when it is unreadable, as every read of the home port is while VIO_HOME is out (13 R433, 17 R531). -/
def State.storedCfg (s : State) (p : PortId) : Option (Option PortCfg) :=
  if s.gov.vioHome then
    (if (s.pstore p).config.stored then some (((s.pstore p).config.read).bind fun bs => readCfg bs p) else none)
  else some none

/-- A port's configuration where it is readable. -/
def State.cfgOf (s : State) (p : PortId) : Option PortCfg := (s.storedCfg p).bind id

/-- The configuration in force on a port: the one it was armed on, for a stored record takes effect at the next arming; a port that is not armed has the stored one (13 R429). -/
def State.cfgInForce (s : State) (p : PortId) : Option PortCfg :=
  match (s.port p).state with
  | .disabled | .waiting | .failed | .isolated => s.cfgOf p
  | _ => (s.port p).cfg.orElse fun _ => s.cfgOf p

/-- The bytes of a slot's stored map; one of a higher FORMAT is unreadable, and a read of the home port fails while VIO_HOME is out (03 R85, 13 R435, 17 R531). -/
def State.storedMap (s : State) (p : PortId) (i : SlotId) : Option (List Byte) :=
  if s.gov.vioHome then ((s.pstore p).map i).read.filter fun bs => decide (itemFormat bs ≤ 1) else none

/-- The stored map of a slot, as its bytes say. -/
def State.slotMap (s : State) (p : PortId) (i : SlotId) : Option MillMap := (s.storedMap p i).map parseMap

/-- STAGE_OFFSET or L of a slot's event: L of its stored map where the hopper brought its image, else the offset of the staging session that is open on it, 0 with none; R506 does not say which of the two an event carries (07 R223, R227, 16 R506; DESIGN CHOICE log 74). -/
def State.slotPlace (s : State) (p : PortId) (i : SlotId) : Nat :=
  if (s.slot p i).hopperImage then ((s.slotMap p i).map (·.imageLen)).getD 0
  else if i = s.standbySlot p then (s.port p).staging.getD 0
  else 0

/-- Raise a slot event: sub-code, slot, its FAIL_CODE and FAIL_REGION, and an offset or length, the slot's own unless one is given. -/
def State.slotEvent (s : State) (p : PortId) (off sub : Nat) (i : SlotId) (arg : Option Nat := none) : State :=
  let r := s.slot p i
  s.portEvent p off (leBytes 1 sub ++ leBytes 1 (slotCode i) ++ leBytes 1 r.failCode ++ leBytes 1 r.failRegion
    ++ leBytes 4 (arg.getD (s.slotPlace p i)))

/-- A core of the public-key engine is in service. -/
def State.engineUp (s : State) : Bool := s.pke.core0.state != .retired || s.pke.core1.state != .retired

/-- The miller's contexts that are FREE, of its 12, lowest number first (10 R317). -/
def State.millerFrees (s : State) : List (Fin 16) := (List.finRange 16).filter fun n => decide (n.val < 12) && s.dge.ctx[n].state == .free

/-- How many they are. -/
def State.millerFree (s : State) : Nat := s.millerFrees.length

/-- Contexts that an HSS/LMS verification of the miller takes: those FREE, 8 at most (10 R322). -/
def State.hssContexts (s : State) : Nat := min 8 s.millerFree

/-- What a signature verification finds; `fault` is a FAULT of the engine on both runs (03 R111, 09 R295). -/
def State.engines (s : State) (fault : Bool := false) : Engines := { core := s.engineUp && !fault, ctx := s.hssContexts != 0 }

/-- Verify the stored map of a slot for a port (03 R85, R111). -/
def State.verifySlotMap (s : State) (p : PortId) (i : SlotId) (c : PortCfg) (g : Engines) : Nat × Option MillMap :=
  match s.storedMap p i with
  | some bs => verifyMap s.otp bs p c.v c.hybrid g
  | none => (0x01, none)

/-! ### Allocation (04 R119, R120, R128) -/

/-- The lowest number of `[lo, hi)` that an ascending table does not list. -/
def firstGap {α : Type} : List (Nat × α) → Nat → Nat → Option Nat
  | [], lo, hi => if lo < hi then some lo else none
  | (k, _) :: t, lo, hi =>
    if k < lo then firstGap t lo hi
    else if k = lo then firstGap t (lo + 1) hi
    else if lo < hi then some lo else none

/-- The banks in the order R119 tries them for a port's k-th granule. -/
def bankOrder (p : PortId) (k : Nat) : List Nat := (List.range 4).map fun j => (p.val + k + j) % 4

/-- The FREE granule for a port's k-th granule (04 R119). -/
def Pond.takeFree (m : Pond) (p : PortId) (k : Nat) : Option Nat :=
  (bankOrder p k).findSome? fun b => firstGap m.granules (3072 * b) (3072 * b + 3072)

/-- The HELD reserve granule for a port's k-th granule, placed as R119 places (07 R250). -/
def Pond.takeReserve (m : Pond) (p : PortId) (k : Nat) : Option Nat :=
  (bankOrder p k).findSome? fun b =>
    (m.granules.find? fun (n, g) => g.hold == some .reserve && n / 3072 == b).map (·.1)

/-- A granule newly allocated to a port. -/
def newGranule (p : PortId) (region va : Nat) (fromReserve : Bool) : Granule :=
  { state := .filling, hold := none, owner := some p, region, va, data := [], digest := none, fromReserve }

/-- Put a granule in the table. -/
def Pond.put (m : Pond) (n : Nat) (g : Granule) : Pond := { m with granules := tblSet m.granules n g }

/-- Allocate granules for the addresses, the first being the port's k-th, from FREE granules only; none when they do not fit (04 R119, R121). -/
def Pond.allocGranules (p : PortId) : Pond → Nat → List (Nat × Nat) → Option Pond
  | m, _, [] => some m
  | m, k, (r, va) :: rest =>
    match m.takeFree p k with
    | some n => Pond.allocGranules p (m.put n (newGranule p r va false)) (k + 1) rest
    | none => none

/-- Allocate extents for a region: whole ones of 256 entries (04 R128); lowest number first (log 22). -/
def Pond.allocExtents (p : PortId) (region : Option Nat) : Pond → Nat → Option Pond
  | m, 0 => some m
  | m, n + 1 =>
    match firstGap m.extents 0 1984 with
    | some e => Pond.allocExtents p region { m with extents := tblSet m.extents e { port := p, region, leaves := [] } } n
    | none => none

/-- Extents for every stream region, all together or not at all (04 R128). -/
def Pond.allocStreams (p : PortId) : Pond → List (Nat × Region) → Option Pond
  | m, [] => some m
  | m, (k, r) :: rest =>
    match Pond.allocExtents p (some k) m r.extents with
    | some m' => Pond.allocStreams p m' rest
    | none => none

/-- Everything an arming on a flash slot allocates (04 R119, R128). -/
def Pond.allocArm (m : Pond) (p : PortId) (x : MillMap) : Option Pond :=
  (m.allocGranules p 0 x.granules).bind fun m' => m'.allocStreams p x.streams

/-- Adopt a slot's preloaded granules as PENDING (07 R241). -/
def Pond.adopt (m : Pond) (p : PortId) (i : SlotId) : Pond :=
  { m with granules := m.granules.map fun (n, g) =>
      if g.hold = some (.preload p i) then (n, { g with state := .pending, hold := none, owner := some p }) else (n, g) }

/-- Change every granule. -/
def Pond.modGranules (m : Pond) (f : Granule → Granule) : Pond :=
  { m with granules := m.granules.map fun (n, g) => (n, f g) }

/-- Does a predicate hold of some granule. -/
def Pond.anyGranule (m : Pond) (f : Granule → Bool) : Bool := m.granules.any fun (_, g) => f g

/-- How many granules meet a predicate. -/
def Pond.countGranules (m : Pond) (f : Granule → Bool) : Nat := (m.granules.filter fun (_, g) => f g).length

/-- A port's granule at a virtual address. -/
def Pond.granuleAt (m : Pond) (p : PortId) (va : Nat) : Option (Nat × Granule) :=
  m.granules.find? fun (_, g) => g.ownedBy p && g.va == va && g.state != .bad

/-- The extents of a port's region, ascending. -/
def Pond.regionExtents (m : Pond) (p : PortId) (region : Nat) : List (Nat × Extent) :=
  m.extents.filter fun (_, e) => e.port == p && e.region == some region

/-- Tree entry of a leaf (04, the tree store). -/
def Pond.leafEntry (m : Pond) (p : PortId) (region leaf : Nat) : Option D256 :=
  ((m.regionExtents p region)[leaf / 256]?).bind fun (_, e) => e.leaves[leaf % 256]?

/-- Enter a region's leaf digests, 256 an extent (03 R17, R95). -/
def Pond.setLeaves (m : Pond) (p : PortId) (region : Nat) (ds : List D256) : Pond :=
  let es := m.regionExtents p region
  { m with extents := m.extents.map fun (n, e) =>
      match es.findIdx? fun (k, _) => k == n with
      | some j => (n, { e with leaves := (ds.drop (256 * j)).take 256 })
      | none => (n, e) }

/-- A granule gets content and digest (04 R122, R125). -/
def Granule.fill (g : Granule) (data : List Byte) (st : GranState) : Granule :=
  { g with state := st, data, digest := some (leafDigest data) }

/-- Granule digests of a port's region, in address order (03 R94). -/
def Pond.regionDigests (m : Pond) (p : PortId) (region : Nat) (r : Region) : List D256 :=
  (List.range (r.len / 4096)).map fun j =>
    match m.granules.find? fun (_, g) => g.ownedBy p && g.region == region && g.va == r.start + 4096 * j with
    | some (_, g) => g.digest.getD 0
    | none => 0

/-- Content of a region in the port's granules. -/
def Pond.content (q : Pond) (p : PortId) (r : Region) : List Byte :=
  (List.range (r.len / 4096)).flatMap fun j =>
    match q.granuleAt p (r.start + 4096 * j) with | some (_, g) => slice g.data 0 4096 | none => List.replicate 4096 0

/-- Make a port's PENDING granules VALID (04 R122, 07 R249). -/
def Pond.validate (m : Pond) (p : PortId) : Pond :=
  { m with granules := m.granules.map fun (n, g) =>
      if g.ownedBy p && g.state == .pending then (n, { g with state := .valid }) else (n, g) }

/-- The granules that R250 lets a substitute of a port claim; a preload only while the home port takes the write of its slot's record (07 R220, R238). -/
def State.claimable (s : State) (p : PortId) : Nat :=
  (12288 - s.pond.granules.length) + s.pond.countGranules fun g =>
    match g.hold with
    | some .reserve => true
    | some (.preload q _) => q != p && s.stores true
    | none => false

/-- A substitute of this map fits (07 R250). -/
def State.substFits (s : State) (p : PortId) (m : MillMap) : Bool :=
  decide (m.substSize / 4096 ≤ s.claimable p)
    && m.streams.all fun (_, r) => decide (r.extents ≤ 1984 - s.pond.extents.length)

/-- Drop a slot's preload (07 R238). -/
def State.dropPreload (s : State) (p : PortId) (i : SlotId) : State :=
  { (s.modSlot p i fun r => { r with preloaded := false }) with pond := s.pond.freePreload p i }

/-- Claim the preload of the highest-numbered other port that has one (07 R250); its slot's record is written first (07 R220). -/
def State.claimPreload (s : State) (p : PortId) : State :=
  if !s.stores true then s
  else
  match allPorts.reverse.find? fun q => q != p && s.pond.anyGranule fun g => g.hold == some (.preload q .a) || g.hold == some (.preload q .b) with
  | some q => (s.dropPreload q .a).dropPreload q .b
  | none => s

/-- Allocate a substitute's granules in the order of R250; nothing more is taken when none is left. -/
def State.allocSubst (p : PortId) : State → Nat → List (Nat × Nat) → State
  | s, _, [] => s
  | s, k, (r, va) :: rest =>
    match s.pond.takeFree p k with
    | some n => State.allocSubst p { s with pond := s.pond.put n (newGranule p r va false) } (k + 1) rest
    | none =>
      match s.pond.takeReserve p k with
      | some n => State.allocSubst p { s with pond := s.pond.put n (newGranule p r va true) } (k + 1) rest
      | none =>
        let t := s.claimPreload p
        match t.pond.takeFree p k with
        | some n => State.allocSubst p { t with pond := t.pond.put n (newGranule p r va false) } (k + 1) rest
        | none => t

/-! ### Slots, arming targets and recovery (07) -/

/-- Put a slot in FAILED (07 R221): a preload goes (R238). -/
def State.failSlot (s : State) (p : PortId) (i : SlotId) (code region : Nat) : State :=
  (s.modSlot p i fun r => { r with state := .failed, failCode := code, failRegion := region, switchPending := false }).dropPreload p i

/-- Retire a slot and raise SLOT_RETIRED; from then on neither of A and B is active (07 R219, R221, R222, 04 R146). -/
def State.retireSlot (s : State) (p : PortId) (i : SlotId) (code region : Nat) : State :=
  let t := ((s.setLost p (some i)).modSlot p i fun r =>
    { r with state := .retired, failCode := code, failRegion := region, tries := 0, switchPending := false }).dropPreload p i
  t.slotEvent p 18 0 i

/-- A port goes to FAILED: braked, its allocations freed after the brake (04 R117, R120). -/
def State.failPort (s : State) (p : PortId) : State :=
  let t := s.modPort p fun x =>
    { x.holdBrake s.now with state := .failed, option := none, begun := false, armPending := false, engineWait := false, substDue := none, substReq := none, substAgain := false }
  { t with pond := t.pond.freePort p }

/-- The slot of A and B whose failure brought a recovery (07 R219, R248). -/
def State.lostSlot (s : State) (p : PortId) : SlotId := (s.pstore p).lost.getD (otherSlot (s.standbySlot p))

/-- Some link port is ACTIVE. -/
def State.linkUp (s : State) : Bool := s.link.la.tstate == 6 || s.link.lb.tstate == 6

/-- Begin a recovery option: the port waits for what that option does next (07 R246). -/
def State.beginOption (s : State) (p : PortId) (k : Nat) (src : Source) (pending : Bool) : State :=
  s.modPort p fun x =>
    Port.mapTo { x with option := some k, source := src, armPending := pending, begun := false, engineWait := false, halfRate := false,
                        armMap := none, filled := 0, loaded := 0, badRegion := none, substDue := none, substReq := none }

/-- SUBST_TMO in ns (07 R245). -/
def PortCfg.substNs (c : PortCfg) : Nat := (if c.substTmo = 0 then 600 else c.substTmo) * 1000000000

/-- The substitution request of SUBST_ADAPTER: its event, what it carries to the owner, and SUBST_TMO from there (07 R251). DATA of the event has the layout of 16 R506, which holds L and no digest (log 74). -/
def State.requestSubst (s : State) (p : PortId) (k : Nat) (c : PortCfg) (m : MillMap) : State :=
  let t := (s.beginOption p k .adapter false).modPort p fun x =>
    { x with substDue := some (s.now + c.substNs), substReq := some (m.digest, m.imageDigest, m.imageLen) }
  (t.slotEvent p 17 0 (t.lostSlot p) (some m.imageLen)).emit (.substRequest p m.digest m.imageDigest m.imageLen)

/-- Try option k of the policy: none when it is not eligible (07 R246, R247). -/
def State.tryOption (s : State) (p : PortId) (c : PortCfg) (k : Nat) : Option State :=
  match [c.opt1, c.opt2, c.opt3].getD (k - 1) 0 with
  | 1 =>
    let i := s.standbySlot p
    if (s.slot p i).state = .ready then some (s.beginOption p k (.slot i) true) else none
  | 2 =>
    match s.slotMap p .g with
    | some m => if (s.slot p .g).state = .ready && s.substFits p m then some (s.beginOption p k .golden false) else none
    | none => none
  | 3 =>
    match s.slotMap p (s.lostSlot p) with
    | some m =>
      if s.linkUp && s.fan.owner.isSome && s.substFits p m then
        some (s.requestSubst p k c m)
      else none
    | none => none
  | _ => none

/-- Try options in turn; FAILED when none remains (07 R246). -/
def State.tryOptions (p : PortId) (c : PortCfg) : State → List Nat → State
  | s, [] => (s.failPort p).slotEvent p 19 0 (s.lostSlot p)
  | s, k :: ks =>
    match s.tryOption p c k with
    | some t => t
    | none => State.tryOptions p c s ks

/-- The configuration a recovery uses: the one in use, else the stored one. -/
def State.recoveryCfg (s : State) (p : PortId) : Option PortCfg := (s.port p).cfg.orElse fun _ => s.cfgOf p

/-- The port goes through the options that `which` names of its policy, its allocations freed (07 R246). -/
def State.goThrough (s : State) (p : PortId) (which : PortCfg → List Nat) : State :=
  let f := { s with pond := s.pond.freePort p }
  let t := f.modPort p fun x => { x.holdBrake s.now with state := .recovering, option := none, substDue := none, substReq := none }
  match t.recoveryCfg p with
  | some c => t.tryOptions p c (which c)
  | none => (t.failPort p).slotEvent p 19 0 (t.lostSlot p)

/-- Go on with the recovery after option k (07 R246). -/
def State.nextOption (s : State) (p : PortId) (k : Nat) : State :=
  s.goThrough p fun _ => (List.range 3).filterMap fun j => if k < j + 1 then some (j + 1) else none

/-- The options of a policy from the first one that names this action on. -/
def PortCfg.optionsFrom (c : PortCfg) (want : Nat) : List Nat :=
  (List.range 3).filterMap fun j => if ([c.opt1, c.opt2, c.opt3].take (j + 1)).contains want then some (j + 1) else none

/-- What a port leaves behind as it enters RECOVERING (07 R246). -/
def Port.recovers (x : Port) (now : Nat) : Port := { x.holdBrake now with state := .recovering, trackers := [], failures := [], causes := [] }

/-- The port enters RECOVERING with its brake asserted and its allocations freed, and the options are tried (07 R246). -/
def State.startRecovery (s : State) (p : PortId) : State := (s.modPort p (Port.recovers · s.now)).nextOption p 0

/-- A port whose content is lost recovers: an adapter's substitute is obtained again first (07 R246, R253). -/
def State.recoverLost (s : State) (p : PortId) : State :=
  if (s.port p).source = .adapter then (s.modPort p (Port.recovers · s.now)).goThrough p (·.optionsFrom 3) else s.startRecovery p

/-- The port's content is lost: it is contained, and the miller, which wakes for it, takes it to RECOVERING, at once where it runs (01 R24, 04 R117, R127, 07 R253). A port that is MEASURED or MEASURING goes the same way, as R127 says of every port, though R117 lists no such transition (DESIGN CHOICE log 110). -/
def State.contentLost (s : State) (p : PortId) : State :=
  let t := (s.modPort p fun x => { x.holdBrake s.now with state := .contained, causes := .lost :: x.causes }).stir
  if t.millerRuns then t.recoverLost p else t

/-- What an arming arms: a flash slot, pending or not, or a substitute's source again (07 R219, R240, R253). -/
inductive Target where
  | slot (i : SlotId) (pending : Bool)
  | again
  | recover
deriving DecidableEq, Repr

/-- The slot of A and B that is READY with SWITCH_PENDING, the one set last of both (07 R253). -/
def State.pendingSlot (s : State) (p : PortId) : Option SlotId :=
  let ok := fun j => (s.slot p j).state == .ready && (s.slot p j).switchPending
  if ok .a && ok .b then some (if (s.slot p .a).switchSetAt ≤ (s.slot p .b).switchSetAt then .b else .a)
  else if ok .a then some .a
  else if ok .b then some .b
  else none

/-- The place of a SWITCH_PENDING set now in the order of both slots' settings (07 R253). -/
def State.switchOrder (s : State) (p : PortId) : Nat := max (s.slot p .a).switchSetAt (s.slot p .b).switchSetAt + 1

/-- Choose what an arming arms (07 R219, R240, R253). With none active and none pending, and no substitute to arm again, the rules name no order of two READY slots and no course for a port that a device or power-on reset took out of SUBSTITUTE or RECOVERING: slot A is taken before B, and without a READY slot the port recovers from OPT1 (DESIGN CHOICE log 111). -/
def State.armTarget (s : State) (p : PortId) : Target :=
  match s.activeSlot p with
  | some act =>
    let st := s.standbySlot p
    if (s.slot p st).state = .ready && (s.slot p st).switchPending then .slot st true else .slot act false
  | none =>
    match s.pendingSlot p with
    | some i => .slot i true
    | none =>
      if (s.port p).substAgain then .again
      else if (s.slot p .a).state = .ready then .slot .a true
      else if (s.slot p .b).state = .ready then .slot .b true
      else .recover

/-- The arming of a slot fails: a pending slot goes to FAILED and the active one is armed from configuration load, or the next recovery option is tried; an active slot's port goes to FAILED (07 R242, R246, 01 R22). -/
def State.armingFails (s : State) (p : PortId) (code region : Nat) : State :=
  let x := s.port p
  let f := { s with pond := s.pond.freePort p }
  match x.source, x.armPending, x.option with
  | .slot i, true, some k => ((f.failSlot p i code region).slotEvent p 16 1 i).nextOption p k
  | .slot i, true, none =>
    let t := (f.failSlot p i code region).slotEvent p 16 1 i
    match t.activeSlot p with
    | some act => t.modPort p fun x =>
        Port.mapTo { x with state := .arming, source := .slot act, armPending := false, begun := false, armMap := none, engineWait := false,
                            halfRate := false, filled := 0, loaded := 0, badRegion := none, captures := [] }
    | none => t.startRecovery p
  | .golden, _, some k => ((f.failSlot p .g code region).slotEvent p 16 0 .g).nextOption p k
  | .adapter, _, some k => f.nextOption p k
  | _, _, _ => f.failPort p

/-- An arming step of a port can take place: nothing pauses its tailrace (15 R482, 05 R182, 06 R213). -/
def State.armFree (s : State) (p : PortId) : Bool :=
  let x := s.port p
  x.containBy.isEmpty && x.held.isNone && x.held2.isNone && !x.partResetDue

/-! ### MEASURED, containment and verdict failures (04, 06) -/

/-- The port enters MEASURED: the reset of R75 and R76 is due, and SETTLE counts from here at the earliest (06 R203, R205). -/
def Port.enterMeasured (x : Port) : Port :=
  { x with state := .measured, causes := [], vdResetDue := true, vdReady := false, edgesAt := none, settleDone := false,
           option := none, substDue := none, substReq := none }

/-- VIO_PG of a port's group permits its mode (02 R32, 06 R217). -/
def State.vioOk (s : State) (p : PortId) : Bool := s.gov.vioPg.toList.getD (p.val / 4) .out != .out

/-- A CONTAINED port may return to MEASURED (04 R117, R126, R140, 06 R217, 15 R483). -/
def State.mayLeave (s : State) (p : PortId) : Bool :=
  let x := s.port p
  x.state == .contained && x.failures.isEmpty && x.trackers.isEmpty && x.containBy.isEmpty
    && !x.causes.contains .fabric && !x.causes.contains .lost && (!x.causes.contains .supply || s.vioOk p)
    && !s.pond.anyGranule fun g => g.ownedBy p && g.state == .invalid

/-- End a containment where it may end, or take a port whose content was lost to RECOVERING: the miller makes both transitions (04 R117, R127, 07 R253). Lost content goes before a lost fabric, under which R153 has the port stay contained (DESIGN CHOICE log 114). -/
def State.endContainment (s : State) (p : PortId) : State :=
  let x := s.port p
  if !s.millerRuns then s
  else if s.mayLeave p then s.modPort p Port.enterMeasured
  else if x.state == .contained && x.causes.contains .lost then s.recoverLost p
  else s

/-- A verdict failure: the port is contained and the failure waits for its hardware re-reads (04 R145). A port that is MEASURED stays so, since R117 contains a port from SERVICE and SUBSTITUTE only: its brake is asserted already, and the failure is classified once the port is CONTAINED (DESIGN CHOICE log 75). -/
def State.verdictFails (s : State) (p : PortId) (u : FailUnit) (cs : Bool) (stone : Fin 32) : State :=
  (s.contain p .verdict).modPort p fun x =>
    { x with failures := x.failures ++
        [{ cause := u, cs, stone, done := false, katPass := true, r1 := false, r2 := none, time := 0, seq := 0 }] }

/-- The port has a stream-verify region. -/
def Port.hasStream (x : Port) : Bool := match x.map with | some m => !m.streams.isEmpty | none => false

/-! ### The real parts (02 R76) -/

/-- The method of R76 that a configuration names: 1 FRST#, 2 JESD252, 3 the software pair. -/
def PortCfg.resetMethod (c : PortCfg) : Nat := if c.frst then 1 else if c.jesd252 then 2 else 3

/-- The real part of a chip select, as read at arming. -/
def Port.partOn (x : Port) (cs : Bool) : Option Sfdp := if cs then x.sfdp1 else x.sfdp0

/-- Chip select that host addresses go to (02 R44). -/
def Port.activeCs (x : Port) : Bool := x.remap.1

/-- Physical base that host addresses go to (02 R44). -/
def Port.activeBase (x : Port) : Nat := x.remap.2

/-- The real part of the active slot's chip select. -/
def Port.part (x : Port) : Option Sfdp := x.partOn x.activeCs

end Sys2Proof.Machine
end

