-- ==== Sys2Proof/Machine/Stones.lean ====
section
/-! DEFINITION. The stones and their shared queue, their faults and tests (04 R148 to R153), and what a digest context does with them (10 R316, R321, R328 to R332). -/

namespace Sys2Proof.Machine

open Sys2Proof

/-! ### Stone faults (04 R151, R153) -/

/-- Stones in service. -/
def Fabric.inService (f : Fabric) : Nat := (f.stones.toList.filter (·.inService)).length

/-- With fewer than 9 stones left the fabric is lost (04 R153). -/
def State.checkFabric (s : State) : State :=
  if decide (s.fab.inService < 9) && !s.fab.lost then
    let t := s.mapPorts fun _ x => if x.hasStream then x.contain s.now .fabric else x
    ({ t with fab := { t.fab with lost := true } }).raise
      { src := 738, act := fixedActions 738, contains := allPorts.any fun p => (s.port p).hasStream }
  else s

/-- Change a stone. -/
def State.modStone (s : State) (n : Fin 32) (f : Stone → Stone) : State :=
  { s with fab := { s.fab with stones := s.fab.stones.set n (f s.fab.stones[n]) } }

/-- Change a context. -/
def State.modCtx (s : State) (n : Fin 16) (f : Context → Context) : State :=
  { s with dge := { s.dge with ctx := s.dge.ctx.set n (f s.dge.ctx[n]) } }

/-- FAULT of a context: one already DONE has its digest zeroed (10 R321). -/
def Context.hit (c : Context) : Context := if c.state = .free then c else { c with fault := true, digest := [] }

/-- Every context that is not FREE and had a block on the stone since its last passing test sets FAULT (10 R321). -/
def State.faultContexts (s : State) (n : Fin 32) : State :=
  let cs := s.fab.stones[n].touched
  let t := { s with dge := { s.dge with ctx := Vector.ofFn fun k : Fin 16 => if cs.contains k then s.dge.ctx[k].hit else s.dge.ctx[k] } }
  t.modStone n fun x => { x with touched := [] }

/-- A stone's block goes back to the front of the queue, for another stone (04 R151); a block of its own known-answer test, which no other stone takes, does not. -/
def State.takeBack (s : State) (n : Fin 32) : State :=
  match s.fab.stones[n].busy with
  | some b =>
    ({ s with fab := { s.fab with queue := if b.src = BlockSource.stone n then s.fab.queue else { b with exclude := n :: b.exclude } :: s.fab.queue } }).modStone
      n fun x => { x with busy := none }
  | none => s

/-! ### The shared queue (04 R148 to R150) -/

/-- Place of a source in the round robin. R149 gives the sources no order: ports come in ascending number, then contexts, then link ports; the scrub, the stones' own tests and the miller's hashes, which it does not name, are sources of their own after them (DESIGN CHOICE log 128). -/
def sourceIx : BlockSource → Nat
  | .port p => p.val
  | .context n => 32 + n.val
  | .link .la => 48
  | .link .lb => 49
  | .scrub => 50
  | .stone n => 51 + n.val
  | .miller => 83

/-- The stone's power domain is On: DGA for stones 0 to 15, DGB for 16 to 31 (17 R514). -/
def State.stoneOn (s : State) (n : Fin 32) : Bool := s.domain (if n.val < 16 then 4 else 5) == .on

/-- A stone may take a block: one of its class, not the block of a stone's own known-answer test but its own, not on a stone that it is to avoid, and none but those of its test while that is due (04 R145, R150 to R152). -/
def State.mayTake (s : State) (n : Fin 32) (b : Block) : Bool :=
  let x := s.fab.stones[n]
  let allSlow := s.fab.stones.toList.all fun y => !y.inService || y.slow
  x.inService && x.busy.isNone && s.stoneOn n && (b.cls != 0 || !x.slow || allSlow) && !b.exclude.contains n
    && (!x.katDue || b.src == .stone n) && (match b.src with | .stone k => k == n | _ => true)

/-- A source has a block in flight. -/
def Fabric.inFlight (f : Fabric) (src : BlockSource) : Bool :=
  f.stones.toList.any fun x => match x.busy with | some b => b.src == src | none => false

/-- A block may start: a context has at most one in flight, and its blocks start in message order (04 R149, 10 R315, R316). -/
def Fabric.ready (f : Fabric) (b : Block) : Bool :=
  match b.src with
  | .context n => !f.inFlight (.context n) && (f.queue.find? fun c => c.src == b.src) == some b
  | _ => true

/-- Distance of a source past the one served last in its class. -/
def Fabric.turn (f : Fabric) (cls : Nat) (src : BlockSource) : Nat :=
  match f.lastSource.lookup cls with
  | some l => (sourceIx src + 83 - sourceIx l) % 84
  | none => sourceIx src

/-- The lowest-numbered free stone that may take a block (04 R149). -/
def State.freeStone (s : State) (b : Block) : Option (Fin 32) := allPorts.find? fun n => s.mayTake n b

/-- The block to start in a class: of those that a free stone may take, the oldest of the next source in turn. -/
def State.pickBlock (s : State) (cls : Nat) : Option Block :=
  (s.fab.queue.filter fun b => b.cls == cls && s.fab.ready b && (s.freeStone b).isSome).foldl
    (fun acc b => match acc with
      | some a => if s.fab.turn cls b.src < s.fab.turn cls a.src then some b else some a
      | none => some b) none

/-- The block to start now and the stone that takes it. -/
def State.nextBlock (s : State) : Option (Block × Fin 32) :=
  (List.range 5).findSome? fun c => (s.pickBlock c).bind fun b => (s.freeStone b).map fun n => (b, n)

/-! ### Contexts (10) -/

/-- Block length of an algorithm (10 R314). -/
def algBlock (alg : Nat) : Nat := if alg = 0 then 64 else 128

/-- Blocks that remain after the whole ones: the padding needs a bit and an 8- or 16-byte length (10 R330). -/
def padBlocks (alg len : Nat) : Nat :=
  if algBlock alg < len % algBlock alg + (if alg = 0 then 9 else 17) then 2 else 1

/-- The digest of an algorithm (10 R313, R314). -/
def digestOf (alg : Nat) (msg : List Byte) : List Byte :=
  match alg with
  | 0 => digestBytes (Config.sha256 msg)
  | 1 => digestBytes (Config.sha384 msg)
  | 2 => digestBytes (Config.sha512 msg)
  | _ => digestBytes (Config.sha512t256 msg)

/-- Blocks of a context join the queue in class 3 (04 R148). -/
def State.enqueue (s : State) (n : Fin 16) (k : Nat) : State :=
  let sha256 := s.dge.ctx[n].alg == 0
  { s with fab := { s.fab with queue := s.fab.queue ++ List.replicate k { cls := 3, src := .context n, born := s.now, sha256 } } }

/-- One block of the first entry like this one leaves the queue. -/
def takeOne (b : Block) : List Block → List Block
  | [] => []
  | c :: cs => if c = b then (if 1 < c.n then { c with n := c.n - 1 } :: cs else cs) else c :: takeOne b cs

/-- FINAL acts in OPEN with the buffer free (10 R330, R332). -/
def State.finalActs (s : State) (n : Fin 16) : State :=
  let c := s.dge.ctx[n]
  if c.msg.length < c.len then s.modCtx n fun c => { c with short := true, finalKept := false }
  else if c.fault then s.modCtx n fun c => { c with state := .done, digest := [], finalKept := false }
  else (s.modCtx n fun c => { c with state := .finalizing, finalKept := false }).enqueue n (padBlocks c.alg c.len)

/-- A block starts on a stone: its context's buffer is free again unless a block of it still waits, as after a timeout, and a FINAL kept for that acts (04 R149, R151, 10 R328, R331). -/
def State.startBlock (s : State) (b : Block) (n : Fin 32) : State :=
  let f := s.fab
  let t := { s with fab := { f with
    queue := takeOne b f.queue
    lastSource := (b.cls, b.src) :: f.lastSource.filter fun e => e.1 != b.cls } }
  let one := { b with n := 1 }
  match b.src with
  | .context k =>
    let u := (t.modStone n fun x => { x with busy := some one, touched := if x.touched.contains k then x.touched else k :: x.touched }).modCtx k
      fun c => { c with busy := c.busy && t.fab.queue.any fun q => q.src == .context k }
    if u.dge.ctx[k].finalKept && !u.dge.ctx[k].busy then u.finalActs k else u
  | _ => t.modStone n fun x => { x with busy := some one }

/-- Start blocks while one may start (04 R149). -/
def State.dispatchFuel : Nat → State → State
  | 0, s => s
  | n + 1, s =>
    match s.nextBlock with
    | some (b, k) => State.dispatchFuel n (s.startBlock b k)
    | none => s

/-- Free stones take blocks, at most one each. -/
def State.dispatch (s : State) : State := s.dispatchFuel 32

/-- Blocks of a message of so many bytes in the SHA-512 family (10 R314). -/
def hashBlocks (n : Nat) : Nat := (n + 17 + 127) / 128

/-- Blocks of a piece of work join the queue in its class, and free stones take what they may; where nothing needed the stones before, their domains are Off (04 R148, R149, 17 R514; log 43). -/
def State.hashWork (s : State) (cls : Nat) (src : BlockSource) (n : Nat) (exclude : List (Fin 32) := []) (sha256 intake : Bool := false) : State :=
  if n = 0 then s
  else
    let r := s.settle digestDomains
    let t : State := { r with fab := { r.fab with queue := r.fab.queue ++ [{ cls, src, born := s.now, n, exclude, sha256, intake }] } }
    t.dispatch

/-- The blocks of a map's SHA-384, which R111 takes before it judges keys and signatures: a map of code 0x01, 0x02 or 0x03 has none (03 R111, R112, 04 R148; log 43). -/
def State.mapHash (s : State) (map : List Byte) (code : Nat) : State :=
  if 1 ≤ code ∧ code ≤ 3 then s else s.hashWork 3 .miller (hashBlocks (parseMap map).signedLen)

/-- The blocks of a re-read of so many bytes, its final one in class 0, none on the stone that the failing digest came from (04 R145, R148). -/
def State.rereadWork (s : State) (p : PortId) (bytes : Nat) (stone : Fin 32) : State :=
  (s.hashWork 1 (.port p) (hashBlocks (bytes + 1) - 1) [stone]).hashWork 0 (.port p) 1 [stone]

/-- Blocks of a stream epoch whose prefix is complete, but for its final one (04 R131, R148). -/
def Tracker.wholeBlocks (t : Tracker) : Nat := (t.bytes.length + 1) / 128

/-- Epochs whose prefix has reached the end of the leaf. -/
def endedEpochs (ts : List Tracker) : Nat := (ts.filter fun t => t.bytes.length == 65536).length

/-- The blocks that an advance of a port's epochs brings: class 1, and class 0 for a final block (04 R148). -/
def State.epochWork (s : State) (p : PortId) (before after : List Tracker) : State :=
  (s.hashWork 1 (.port p) ((after.map Tracker.wholeBlocks).sum - (before.map Tracker.wholeBlocks).sum)).hashWork 0 (.port p)
    (endedEpochs after - endedEpochs before)

/-- Blocks of a leaf table's root: one for each internal node (03 R92, 04 R148). -/
def rootBlocks (leaves : Nat) : Nat := leaves - 1

/-- Blocks of a context leave the queue and the stones, and a new message starts untouched (10 R319, R327). -/
def Fabric.dropContext (f : Fabric) (n : Fin 16) : Fabric :=
  { f with
    queue := f.queue.filter fun b => b.src != .context n
    stones := f.stones.map fun x =>
      { x with
        busy := match x.busy with | some b => if b.src = .context n then none else some b | none => none
        touched := x.touched.filter fun k => k != n } }

/-! ### The outcome of a fault (04 R151) -/

/-- A stone's known-answer blocks, one for each algorithm family, join the queue in class 1 for that stone (04 R148, R152). -/
def State.katWork (s : State) (n : Fin 32) : State := (s.hashWork 1 (.stone n) 1).hashWork 1 (.stone n) 1 [] true

/-- DATA of a stone event (16 R506). -/
def stoneData (cause n k : Nat) : List Byte := leBytes 1 cause ++ leBytes 1 n ++ leBytes 1 k

/-- A stone's test is made: it takes blocks again (04 R152, 17 R515). -/
def State.tested (s : State) (n : Fin 32) : State := s.modStone n fun x => { x with katDue := false }

/-- A stone's retest, which is a known-answer test: failing it sets FAULT of the contexts it served, and passing it ends their interval (04 R151, 10 R321). -/
def State.retested (s : State) (n : Fin 32) (pass : Bool) : State :=
  if pass then s.modStone n fun x => { x with touched := [] } else s.faultContexts n

/-- A stone retires: its block goes to another stone, and the blocks of its own known-answer test leave the queue (04 R151). -/
def State.retireStone (s : State) (n : Fin 32) : State :=
  let t := (s.takeBack n).modStone n fun x => { x with inService := false }
  { t with fab := { t.fab with queue := t.fab.queue.filter fun b => b.src != .stone n } }

/-- A stone fault: its retest, whose blocks are queued as those of any known-answer test are, and before which it takes no other, makes it a transient or retires the stone (04 R148, R151). `cause` is that of R506. -/
def State.stoneFault (s : State) (n : Fin 32) (cause : Nat) (retestPass : Bool) : State :=
  let past := recent s.now sixtySeconds s.fab.stones[n].transients
  let r := (((s.modStone n fun x => { x with katDue := true }).katWork n).tested n).retested n retestPass
  if retestPass && !decide (4 < past.length) then
    (r.modStone n fun x => { x with transients := s.now :: past }).event 736 (stoneData cause n.val (past.length + 1))
  else
    ((r.retireStone n).event (704 + n.val) (stoneData (if retestPass then 3 else cause) n.val past.length)).checkFabric

/-! ### The rows (04 R149 to R152) -/

/-- Families of a stone's last 1,024 blocks, with the one that it finishes now. -/
def Stone.history (x : Stone) : List Bool :=
  match x.busy with | some b => (b.sha256 :: x.hist).take 1024 | none => x.hist

/-- Four times a mean block time exceeds five times the nominal mean of the blocks it is over; 80 ns where there is none (04 R150; log 44). -/
def slowMean (hist : List Bool) (meanNs : Nat) : Bool :=
  if hist.isEmpty then decide (400 < 4 * meanNs)
  else decide (5 * (hist.map fun h => if h then 64 else 80).sum < 4 * meanNs * hist.length)

/-- STONE_BLOCK_COMPLETE: a stone finishes a block, is marked slow or not by its mean block time over its last 1,024 blocks, and free stones take blocks (04 R149, R150). -/
def execStoneBlockComplete (n : Fin 32) (meanNs : Nat) (s : State) : Result :=
  let x := s.fab.stones[n]
  if !x.inService || s.dark then .next s
  else
    let slow := slowMean x.history meanNs
    let t := s.modStone n fun y => { y with busy := none, slow, hist := x.history }
    let u := if slow && !x.slow then t.event 737 (stoneData 4 n.val (recent s.now sixtySeconds x.transients).length) else t
    .next u.dispatch

/-- When the oldest block that may still rise in class has waited 1 ms. -/
def Fabric.ageDue (f : Fabric) : Option Nat :=
  ((f.queue.filter fun b => decide (1 < b.cls)).map fun b => b.born + 1000000).min?

/-- BLOCK_AGE_PROMOTE: a block that has waited more than 1 ms moves up one class, to class 1 at most (04 R149). Its next 1 ms counts from there. -/
def execBlockAgePromote (s : State) : Result := s.powered <|
  match s.fab.ageDue with
  | none => .next s
  | some due =>
    let t := s.upTo due
    let up := fun b : Block => if 1 < b.cls ∧ b.born + 1000000 ≤ t.now then { b with cls := b.cls - 1, born := t.now } else b
    .next ({ t with fab := { t.fab with queue := t.fab.queue.map up } }).dispatch

/-- STONE_TIMEOUT: a stone has not completed a block within four times nominal; the block goes to another stone, and the stone faults (04 R151, 10 R321). -/
def execStoneTimeout (n : Fin 32) (retestPass : Bool) (s : State) : Result :=
  if s.fab.stones[n].inService && s.fab.stones[n].busy.isSome && !s.dark then .next (((s.takeBack n).stoneFault n 1 retestPass).dispatch) else .next s

/-- What the outcome of a stone's known-answer test does (04 R151, 10 R321). -/
def State.katEnds (s : State) (n : Fin 32) (cause : Nat) (pass retestPass : Bool) : State :=
  if pass then (s.tested n).modStone n fun x => { x with touched := [] } else ((s.tested n).faultContexts n).stoneFault n cause retestPass

/-- A domain is On; out of Off, the stones of DGA and DGB are tested before they take blocks (04 R152, 17 R513, R515). -/
def State.powerDomain (s : State) (d : Nat) : State :=
  let g := s.domain d
  let t := { s with gov := { s.gov with dom := s.gov.dom.setIfInBounds d .on } }
  if g = .off ∧ (d = 4 ∨ d = 5) then
    { t with fab := { t.fab with stones := Vector.ofFn fun n : Fin 32 =>
        if (n.val < 16) = (d = 4) then { t.fab.stones[n] with katDue := true } else t.fab.stones[n] } }
  else t

/-- STONE_KAT: the known-answer blocks of a stone, at its domain's power-up and after each 1 s of powered time, and what comes of them (04 R148, R151, R152, 10 R321; log 43). -/
def execStoneKat (n : Fin 32) (pass retestPass : Bool) (s : State) : Result :=
  if !s.fab.stones[n].inService || !s.stoneOn n then .next s
  else .next ((s.katWork n).katEnds n 0 pass retestPass).dispatch

end Sys2Proof.Machine
end

