-- ==== Sys2Proof/Machine/Tailrace.lean ====
section
/-! DEFINITION. The device's own traffic on a port's tailrace: the reads of R556, the mode, address and dummy settings it keeps on the real parts, and the virtual SFDP (02 R30, R45, R50 to R53, R60, R76, R556, R558). -/

namespace Sys2Proof.Machine

open Sys2Proof

/-- VIO_PG of a port's group: where it lies now, the 10 ms of R217 over or not (02 R32, 18 R534). -/
def State.vioOf (s : State) (p : PortId) : VioState :=
  if s.gov.vioBack.getLsbD (p.val / 4) then (if s.gov.vioHigh.getLsbD (p.val / 4) then .v33 else .v18)
  else s.gov.vioPg.toList.getD (p.val / 4) .out

/-- A port's group runs at 3.3 V (02 R30, R32). -/
def State.at33 (s : State) (p : PortId) : Bool := s.vioOf p == .v33

/-- N_real of an opcode (02 R52). -/
def nRealOf (x : Sfdp) (op : Byte) : Nat := match x.dummies.find? fun (o, _) => o == op with | some (_, n) => n | none => 0

/-- Read opcodes that take 4 address bytes in every address mode (JESD216: PRESUMED log 73). -/
def alwaysFour : List Byte := [0x13, 0x0C, 0x6C, 0xEC, 0xEE]

/-- The 4-byte-address form of an opcode, where the real part's table lists one; an opcode that is one already is its own (02 R556). -/
def fourForm (q : Sfdp) (op : Byte) : Option Byte :=
  ((q.four.find? fun (o, _) => o == op).map (·.2)).orElse fun _ =>
    if alwaysFour.contains op || q.prog4.contains op || q.four.any (fun (_, o) => o == op) then some op else none

/-- A mode that is entered only by a sequence (02 R557). -/
def entered (m : BusMode) : Bool := m == .s4s4d || m == .s888 || m == .d888

/-! ### What the device keeps set on the real parts -/

/-- Extended address register of a chip select. -/
def RealParts.ext (r : RealParts) (cs : Bool) : Byte := if cs then r.ext1 else r.ext0

/-- Dummy setting of a chip select. -/
def RealParts.dummy (r : RealParts) (cs : Bool) : Option Nat := if cs then r.dummy1 else r.dummy0

/-- Change what is held of the real parts. -/
def State.modReal (s : State) (p : PortId) (f : RealParts → RealParts) : State := s.modPort p fun x => { x with real := f x.real }

/-- Write a part's extended address register where it differs (02 R45). No 0x06 goes before this 0xC5, nor before the device's own 0xB7 and volatile dummy setting: 02 R558 asks for one where the part needs WEL, and no rule says that these do (DESIGN CHOICE log 108). -/
def State.setExt (s : State) (p : PortId) (cs : Bool) (b : Byte) : State :=
  if (s.port p).real.ext cs = b then s
  else (s.modReal p fun r => if cs then { r with ext1 := b } else { r with ext0 := b }).emit (.tail p (!cs) cs 0xC5 none [b])

/-- Program a part's volatile dummy setting (02 R53). -/
def State.setDummy (s : State) (p : PortId) (cs : Bool) (n : Nat) : State :=
  (s.modReal p fun r => if cs then { r with dummy1 := some n } else { r with dummy0 := some n }).emit (.partDummy p cs n)

/-- Value of R45 for the active slot's part: its base above 16 MiB, or the virtual register. -/
def Port.extWant (x : Port) : Byte := BitVec.ofNat 8 (x.activeBase / 2 ^ 24) ||| x.extAddr

/-- R45 applies: the active slot's part has the register, and the host uses 3-byte addressing now. -/
def Port.extApplies (x : Port) : Bool := match x.part with | some q => q.extAddr && !x.addr4 | none => false

/-- The active part's extended address register takes the value of R45 (02 R45, R556). -/
def State.restoreExt (s : State) (p : PortId) : State :=
  let x := s.port p
  if x.extApplies then s.setExt p x.activeCs x.extWant else s

/-- Program N_real into the part of a chip select (02 R53). -/
def State.programDummy (s : State) (p : PortId) (cs : Bool) : State :=
  match (s.port p).partOn cs, (s.port p).cfg with
  | some q, some c => s.setDummy p cs (nRealOf q c.fastRead)
  | _, _ => s

/-- What follows every reset of the parts and every SFDP read at arming: N_real, and the extended address register where R45 applies (02 R45, R53, R76). -/
def State.programParts (s : State) (p : PortId) : State := ((s.programDummy p false).programDummy p true).restoreExt p

/-- Both parts take the 4-byte address mode by 0xB7 where the configuration names it for the virtual device (02 R62, R75, R80, R558). -/
def State.matchAddr (s : State) (p : PortId) : State :=
  match (s.port p).cfg with
  | some c =>
    if c.addr4 && !(s.port p).real.addr4 then (s.modReal p fun r => { r with addr4 := true }).emit (.tail p true true 0xB7 none []) else s
  | none => s

/-- Reset the real parts by the method the configuration names, program them again, and bring them to the state that matches the virtual device's (02 R76, R80). -/
def State.resetParts (s : State) (p : PortId) (method : Nat) : State :=
  (((s.emit (.partReset p method)).modReal p fun _ => {}).programParts p).matchAddr p

/-! ### Modes (02 R30, R60) -/

/-- Mode-entry sequences of a part: its command sequences to octal DDR, whose modes R30 excludes at 3.3 V, and the 4-4-4 enable sequence on a port configured for 4S-4D-4D (02 R30, R60; log 72). -/
def sequencesOf (q : Sfdp) (c : PortCfg) (at33 : Bool) : List (BusMode × List SeqCmd) :=
  (q.octal.filter fun e => modeClock at33 e.1 != 0) ++ (if c.mode = .s4s4d then [(.s4s4d, q.quad)] else [])

/-- The command of a sequence on both chip selects (02 R558, R60). -/
def State.sendSeq (p : PortId) : State → List SeqCmd → State
  | s, [] => s
  | s, c :: cs => State.sendSeq p (s.emit (.tail p true true c.op none c.bytes)) cs

/-- Put the real parts into a mode by its sequence, where they are not in it (02 R556). -/
def State.enterMode (s : State) (p : PortId) (m : BusMode) : State :=
  let x := s.port p
  if !entered m || x.real.mode = m then s
  else
    match x.part, x.cfg with
    | some q, some c =>
      match (sequencesOf q c (s.at33 p)).find? fun e => e.1 == m with
      | some (_, cs) =>
        let t := (State.sendSeq p s cs).modReal p fun r => { r with mode := m }
        if x.state = .measured then t.modPort p fun y => { y with vdResetDue := true, vdReady := false } else t
      | none => s
    | _, _ => s

/-- Mode of the device's own reads: the configured one while the brake is asserted, else the one the parts are in (02 R556). -/
def Port.readMode (x : Port) (c : PortCfg) : BusMode :=
  if x.brake || x.real.mode = c.mode then c.mode
  else if entered x.real.mode || entered c.mode then x.real.mode
  else c.mode

/-- Fast-read opcode in a mode: the configured one in its own mode, else the part's for that mode (02 R556). -/
def readOp (q : Sfdp) (c : PortCfg) (m : BusMode) : Byte :=
  if m = c.mode then c.fastRead
  else match q.fastOps.find? fun e => e.1 == m with | some (_, op) => op | none => c.fastRead

/-- Clock of the device's own reads, MHz: f_port or the mode's limit, halved where R145 and R222 ask for it (02 R556). -/
def State.readClock (s : State) (p : PortId) (m : BusMode) (half : Bool) : Nat :=
  let f := min (s.port p).fport (modeClock (s.at33 p) m)
  if half then f / 2 else f

/-! ### Addresses (02 R556) -/

/-- The 16 MiB window that 3-byte addresses go to: the extended address register's, or the lowest on a part that has none. -/
def RealParts.window (r : RealParts) (q : Sfdp) (cs : Bool) : Nat := if q.extAddr then (r.ext cs).toNat else 0

/-- A transfer in 3-byte mode reaches its address: with the brake asserted the device sets the register for it, else only the 16 MiB window that is set is reached. -/
def Port.reaches (x : Port) (q : Sfdp) (four : Bool) (cs : Bool) (addr : Nat) : Bool :=
  four || x.real.addr4 || x.brake || x.real.window q cs == addr / 2 ^ 24

/-- Opcode and address bytes of a transfer of the device's own: the 4-byte form where the part lists one, else the part's current address mode; and the register set for it in 3-byte mode. A part that has no register gets its low 3 address bytes, with the brake asserted above 16 MiB too, since 02 R556 has nothing else to set (DESIGN CHOICE log 116). -/
def State.address (s : State) (p : PortId) (q : Sfdp) (cs : Bool) (op : Byte) (addr : Nat) : State × Byte × Nat :=
  match fourForm q op with
  | some o => (s, o, 4)
  | none =>
    if (s.port p).real.addr4 || !q.addr3 then (s, op, 4)
    else if q.extAddr then (s.setExt p cs (BitVec.ofNat 8 (addr / 2 ^ 24)), op, 3)
    else (s, op, 3)

/-- A whole array read of the device's own reaches its addresses now, or waits for the brake (02 R556). -/
def State.readReaches (s : State) (p : PortId) (cs : Bool) (addr len : Nat) : Bool :=
  let x := s.port p
  match x.partOn cs, x.cfg with
  | some q, some c =>
    let four := (fourForm q (readOp q c (x.readMode c))).isSome || !q.addr3
    x.reaches q four cs addr && x.reaches q four cs (addr + (len - 1))
  | _, _ => true

/-- A range cut where its 16 MiB windows end. -/
def windowCuts : Nat → Nat → Nat → List (Nat × Nat)
  | 0, _, _ => []
  | fuel + 1, a, n =>
    if n = 0 then []
    else
      let k := min n (2 ^ 24 - a % 2 ^ 24)
      (a, k) :: windowCuts fuel (a + k) (n - k)

/-- The transfers that a read takes: one, or one for each 16 MiB window where the register is set for each (02 R556). -/
def Port.pieces (x : Port) (q : Sfdp) (op : Byte) (addr len : Nat) : List (Nat × Nat) :=
  if (fourForm q op).isSome || x.real.addr4 || !q.addr3 || !q.extAddr then [(addr, len)] else windowCuts 257 addr len

/-- An array read of the device's own: none where it waits for the brake (02 R556). -/
def State.devRead (s : State) (p : PortId) (cs : Bool) (addr len : Nat) (half : Bool) : Option State :=
  let x := s.port p
  match x.partOn cs, x.cfg with
  | some q, some c =>
    let m := x.readMode c
    let op := readOp q c m
    if !s.readReaches p cs addr len then none
    else
      some ((x.pieces q op addr len).foldl (fun u e =>
        let (t, o, n) := u.address p q cs op e.1
        t.emit (.devRead p cs o m (s.readClock p m half) n e.1 (nRealOf q c.fastRead) e.2)) (s.enterMode p m))
  | _, _ => some s

/-- A transfer of the device's own reaches its address now, or waits for the brake (02 R556). -/
def State.devReaches (s : State) (p : PortId) (cs : Bool) (op : Byte) (addr : Nat) : Bool :=
  match (s.port p).partOn cs with
  | some q => (s.port p).reaches q ((fourForm q op).isSome || !q.addr3) cs addr
  | none => true

/-- Like `devRead`, for a read with the brake asserted, which never waits. -/
def State.devReads (s : State) (p : PortId) (cs : Bool) (addr len : Nat) (half : Bool) : State :=
  (s.devRead p cs addr len half).getD s

/-- A program or erase of the device's own, once its address is reached: 0x06 first, then the command in its 4-byte form (02 R41, R556, R558). -/
def State.devWrite (s : State) (p : PortId) (cs : Bool) (op : Byte) (addr : Nat) (data : List Byte) : State :=
  match (s.port p).partOn cs with
  | some q =>
    let (t, o, n) := (s.emit (.tail p (!cs) cs 0x06 none [])).address p q cs op addr
    t.emit (.tail p (!cs) cs o (some addr) data n)
  | none => s

/-! ### The virtual SFDP (02 R50 to R52) -/

/-- The millrace figure of R52. -/
def millraceCount (f : Nat) : Nat := max 4 ((40 * f + 999) / 1000)

/-- A map has a readable region that is forwarded from the tailrace (02 R42, R52; log 24). -/
def MillMap.forwards (m : MillMap) : Bool := m.regions.any fun r => r.policy == 2 || r.policy == 3 || r.policy == 4

/-- Advertised dummy count of a read opcode (02 R52, 07 R252): 0 for 0x03 and 0x13. -/
def advCount (m : MillMap) (subst : Bool) (part : Sfdp) (f : Nat) (op : Byte) : Nat :=
  if op = 0x03 ∨ op = 0x13 then 0
  else if m.forwards && !subst then max (millraceCount f) (nRealOf part op + 2)
  else millraceCount f

/-- Instructions of the 4-byte table that name modes R30 excludes: dual-line, 1-1-8 and 1-8-8 reads and programs, and DTR in 1S; 0xEE is the fast read of 4S-4D-4D and 8D-8D-8D ports alone (02 R30, R40, R51; JESD216: PRESUMED log 73). -/
def excludedFour : List Byte := [0x3C, 0xBC, 0x0E, 0xBE, 0x7C, 0xCC, 0xFD, 0x84, 0x8E]

/-- Frequencies that xSPI Profile 1.0 lists, MHz (02, worked example: advertised dummy counts). -/
def xspiFreqs : List Nat := [200, 166, 133, 100]

/-- All bus modes, in the order of the MODES field (05 R159). -/
def allModes : List BusMode := [.s111, .s114, .s144, .s4s4d, .s888, .d888]

/-- A sector map clipped to a slot, with addresses relative to its base (02 R51). -/
def clipSectors (base v : Nat) : Nat → List (Nat × Nat) → List (Nat × Nat)
  | _, [] => []
  | a, (n, mask) :: rest =>
    let k := min (a + n) (base + v) - max a base
    if k = 0 then clipSectors base v (a + n) rest else (k, mask) :: clipSectors base v (a + n) rest

/-- The second status register's opcode on a port of profile S3. -/
def Port.sr2 (x : Port) : Option Sr2 := if x.profile = 3 then x.part.bind (·.sr2) else none

/-- The virtual SFDP of a port whose map is known (02 R30, R45, R50 to R52, R562, 05 R178, 07 R252). -/
def Port.buildSfdp (x : Port) (q : Sfdp) (c : PortCfg) (m : MillMap) (subst at33 : Bool) : VSfdp :=
  let adv := advCount m subst q x.fport
  let cancels := fun (op : Byte) => x.table.any fun e => e.opcode == op && e.actPass == 4
  let blocked := fun (op : Byte) => x.table.any fun e => e.opcode == op && (e.actPass == 3 || e.actPass == 4)
  { revision := q.revision
    headers := 6
    addr3 := (decide (c.v ≤ 2 ^ 24) && !c.addr4) || (q.addr3 && q.addr4)
    addr4 := !(decide (c.v ≤ 2 ^ 24) && !c.addr4)
    fast114 := c.mode == .s114
    fast144 := c.mode == .s144
    dtr := c.mode == .s4s4d || c.mode == .d888
    density := c.v
    dummies := q.dummies.map fun (op, _) => (op, adv op)
    erases := q.erases.filter fun e => decide (2 ^ e.log2 ≤ c.v)
    page := q.page
    progUs := q.progUs
    byteUs := q.byteUs
    nextByteUs := q.nextByteUs
    chipEraseUs := q.chipEraseUs
    suspend := q.suspendOk && !blocked 0x75 && !blocked 0xB0
    suspendUs := q.suspendUs
    susp := q.susp
    profile := x.profile
    sr2 := x.sr2
    quad := if c.mode = .s4s4d then q.quad else []
    quadOff := if c.mode = .s4s4d then q.quadOff else []
    extReg := q.extAddr && !c.addr4
    octalEnable := q.octalEnable
    speeds := allModes.map fun k => (k, min x.fport (modeClock at33 k))
    table4 := (q.prog4 ++ q.four.map (·.2)).eraseDups.filter fun op =>
      !cancels op && !excludedFour.contains op && (op != 0xEE || c.mode == .s4s4d || c.mode == .d888)
    xspi := xspiFreqs.map fun f => (f, if f ≤ x.fport then some (adv c.fastRead) else none)
    octal := q.octal
    sectors := clipSectors x.activeBase c.v 0 q.sectors }

/-- Build the port's virtual SFDP and what PRT_MODE reports of it (02 R50, R52). -/
def State.advertise (s : State) (p : PortId) (c : PortCfg) (m : MillMap) (subst : Bool) : State :=
  s.modPort p fun x =>
    match x.part with
    | some q => { x with advDummy := advCount m subst q x.fport c.fastRead, vsfdp := some (x.buildSfdp q c m subst (s.at33 p)) }
    | none => { x with advDummy := if subst then millraceCount x.fport else 0, vsfdp := none }

end Sys2Proof.Machine
end

