-- ==== Sys2Proof/Machine/Pond.lean ====
section
/-! DEFINITION. The millpond in service: memory errors, the scrub pass and refills (04 R124 to R127, 07 R238, R253). -/

namespace Sys2Proof.Machine

open Sys2Proof

/-- Replace a granule. -/
def State.putGranule (s : State) (n : Nat) (g : Granule) : State := { s with pond := s.pond.put n g }

/-- A single-bit error was corrected: sub-code 0 in the port's granules, 1 in its tree-store entries (04 R127, 16 R503 offset 5, R506). -/
def State.eccCorrected (s : State) (p : PortId) (sub : Nat := 0) : State :=
  (s.modPort p fun x => { x with cntEcc := x.cntEcc + 1 }).portEvent p 5 (leBytes 1 sub)

/-- A millpond fault of a port: 0 a host read of an INVALID granule, 1 an uncorrectable error, 2 a granule BAD (16 R503 offset 4, R506). -/
def State.pondFault (s : State) (p : PortId) (sub : Nat) (contains : Bool) : State :=
  (s.modPort p fun x => { x with cntPond := x.cntPond + 1 }).portEvent p 4 (leBytes 1 sub) contains

/-- How many granules of the port lie below an address: the k of R119. -/
def Pond.rank (m : Pond) (p : PortId) (va : Nat) : Nat := m.countGranules fun g => g.ownedBy p && decide (g.va < va)

/-- The source of an adapter's substitute is gone: its granule cannot be refilled and the port recovers anew (07 R253). -/
def State.lostGranule (s : State) (p : PortId) : State := s.contentLost p

/-- A granule's content is bad: INVALID, to be refilled from its source (04 R125, 07 R253). -/
def State.invalidate (s : State) (p : PortId) (n : Nat) (g : Granule) : State :=
  if (s.port p).source = .adapter then s.lostGranule p else s.putGranule n { g with state := .invalid }

/-- A granule had an uncorrectable error now (04 R127). -/
def State.noteErr (s : State) (n : Nat) : State := { s with pond := { s.pond with errs := tblSet s.pond.errs n s.now } }

/-- A granule's last uncorrectable error lies within 60 s, whoever held it then (04 R127). -/
def State.errHot (s : State) (n : Nat) : Bool :=
  match tblGet s.pond.errs n with | some t => decide (s.now ≤ t + sixtySeconds) | none => false

/-- A granule withdrawn from use (04, the millpond). -/
def Granule.withdrawn (g : Granule) : Granule := { g with state := .bad, owner := none, hold := none, data := [], digest := none }

/-- A port in SERVICE or SUBSTITUTE, which a containment takes to CONTAINED (04 R117). -/
def Port.serving (x : Port) : Bool := x.state == .service || x.state == .substitute

/-- An uncorrectable millpond error in a port's granule: it is INVALID and refilled; the second within 60 s makes it BAD and moves its content to a FREE granule, to be refilled there (04 R127). An adapter's substitute has no source, and the port recovers (07 R253). `host` says that a host read found it, which contains the port. -/
def State.memError (s0 : State) (p : PortId) (n : Nat) (g : Granule) (host : Bool := false) : State :=
  let s := s0.noteErr n
  let adapter := (s.port p).source == .adapter
  let home := s.pond.takeFree p (s.pond.rank p g.va)
  let ends := host || ((s.port p).serving && (adapter || (s0.errHot n && home.isNone)))
  if s0.errHot n then
    let t := (s.pondFault p 2 ends).putGranule n g.withdrawn
    match home with
    | some k => if adapter then t.lostGranule p else t.putGranule k { g with state := .invalid, fromReserve := false }
    | none => t.contentLost p
  else (s.pondFault p 1 ends).invalidate p n g

/-- A slot's preload goes once the write of its record can stand (07 R220, R238). -/
def State.preloadGoes (s : State) (p : PortId) (i : SlotId) : State := if s.stores true then s.dropPreload p i else s

/-- The scrub pass reads VALID granules and HELD ones with content (04 R124). -/
def Granule.scrubbed (g : Granule) : Bool :=
  g.state == .valid || (match g.hold with | some (.preload _ _) => true | _ => false)

/-- The next granule of the pass, in ascending number, the next pass beginning at the lowest (04 R124). -/
def Pond.nextScrub (m : Pond) : Option (Nat × Granule) :=
  let ok := m.granules.filter fun (_, g) => g.scrubbed
  (ok.find? fun (n, _) => decide (m.scrubPos ≤ n)).orElse fun _ => ok.head?

/-- A leaf entry is lost: its region's table is to be read again (04 R127). -/
def State.reloadLeaf (s : State) (p : PortId) (region : Nat) : State :=
  if (s.pond.regionExtents p region).isEmpty then s
  else s.modPort p fun x => { x with reloads := if x.reloads.contains region then x.reloads else x.reloads ++ [region] }

/-- Every granule of a port's region is handled as a scrub failure (04 R127). The granule whose digest was lost is refilled against the digest that it had, since R127 names no other (DESIGN CHOICE log 112). -/
def State.invalidateRegion (s : State) (p : PortId) (region : Nat) : State :=
  if (s.port p).source = .adapter then s.lostGranule p
  else
    let hit := fun g : Granule => g.ownedBy p && g.region == region && g.state == .valid
    { s with pond := s.pond.modGranules fun g => if hit g then { g with state := .invalid } else g }

/-- A granule digest is lost: the region is rehashed from the millpond and its root recomputed, over 64 KiB leaves in a substitute's stream region (03 R93, 04 R127, 07 R249). Its blocks are the scrub's (04 R148; log 43). -/
def State.rehashRegion (s0 : State) (p : PortId) (region : Nat) : State :=
  let n := s0.pond.countGranules fun g => g.ownedBy p && g.region == region
  let s := s0.hashWork 4 .scrub (n * hashBlocks 4097 + rootBlocks n)
  let m := s.pond.modGranules fun g =>
    if g.ownedBy p && g.region == region then { g with digest := some (leafDigest g.data) } else g
  match (s.port p).map with
  | some x =>
    match x.regions[region]? with
    | some r =>
      let leaves := if r.stream then leavesOf r (s.pond.content p r) else m.regionDigests p region r
      if treeRoot leaves = r.root then { s with pond := m } else s.invalidateRegion p region
    | none => s
  | none => s

/-- What the tree-store reads of a pass find where no granule has content: leaf entries only (04 R124, R127, 16 R503). -/
def State.leafRead (s : State) (r : TreeRead) : State :=
  match r with
  | .corrected p => s.eccCorrected p 1
  | .leafLost p k => (s.pondFault p 1 false).reloadLeaf p k
  | .ok | .digestLost => s

/-- What the tree-store read of a scrub step finds; an uncorrectable word is a millpond fault of its port (04 R127, 07 R238, 16 R503). -/
def State.treeRead (s : State) (g : Granule) (r : TreeRead) : State :=
  match r with
  | .ok => s
  | .corrected p => s.eccCorrected p 1
  | .digestLost =>
    match g.hold, g.owner with
    | some (.preload p i), _ => (s.pondFault p 1 false).preloadGoes p i
    | _, some p => (s.pondFault p 1 false).rehashRegion p g.region
    | _, none => s
  | .leafLost p k => (s.pondFault p 1 false).reloadLeaf p k

/-- An uncorrectable error in a preloaded granule: the preload goes, and the second error within 60 s withdraws the granule (04 R127, 07 R238). -/
def State.preloadError (s : State) (p : PortId) (i : SlotId) (n : Nat) (g : Granule) : State :=
  let t := ((s.noteErr n).pondFault p (if s.errHot n then 2 else 1) false).preloadGoes p i
  if s.errHot n then t.putGranule n g.withdrawn else t

/-- A scrubbed granule of a port, or of a slot's preload. -/
def State.scrubOne (s : State) (n : Nat) (g : Granule) (data : List Byte) (ecc : Ecc) : State :=
  match g.hold with
  | some (.preload p i) =>
    if ecc = .uncorrectable then s.preloadError p i n g
    else
      let t := if ecc = .corrected then s.eccCorrected p else s
      if g.digest = some (leafDigest data) then t else t.preloadGoes p i
  | _ =>
    match g.owner with
    | none => s
    | some p =>
      let t := if ecc = .corrected then s.eccCorrected p else s
      if ecc = .uncorrectable then s.memError p n g
      else if g.digest = some (leafDigest data) then t
      else t.invalidate p n g

/-- SCRUB_GRANULE: while the millpond has power, the pass rehashes the next granule and compares it with its stored digest (04 R124, R125, R127, 07 R238, 15 R491, 17 R514). `data` is what the array returns. -/
def execScrubGranule (data : List Byte) (ecc : Ecc) (tree : TreeRead) (s : State) : Result :=
  if s.dark then .next s
  else
  match s.pond.nextScrub with
  | none => .next (s.leafRead tree)
  | some (n, g) =>
    let t := ({ s with pond := { s.pond with scrubPos := (n + 1) % 12288 } }).hashWork 4 .scrub (hashBlocks 4097)
    let u := t.treeRead g tree
    match tree, tblGet u.pond.granules n with
    | .digestLost, _ => .next u
    | _, some g' => .next (u.scrubOne n g' data ecc)
    | _, none => .next u

/-- A failure of this granule already waits for its classification. -/
def Port.granuleFailing (x : Port) (n : Nat) : Bool := x.failures.any fun f => f.cause == .granule n

/-- The refill of an INVALID granule, read from its source (04 R125, R127). A granule of the fill itself has no digest yet: it takes its content's and is PENDING. `got` is the digest that the stone produced. -/
def State.refill (s : State) (p : PortId) (n : Nat) (g : Granule) (data : List Byte) (got : D256) (stone : Fin 32) : State :=
  match g.digest with
  | none => s.putGranule n (g.fill data .pending)
  | some d =>
    if d = got then (s.putGranule n { g with state := .valid, data }).endContainment p
    else if (s.port p).granuleFailing n then s
    else s.verdictFails p (.granule n) (s.port p).activeCs stone

/-- GRANULE_REFILL_DONE: the refill of an INVALID granule is read from the tailrace and compared with its stored digest (04 R125, R126, R127, R151, 07 R253). `run` names the stone, and what it produced in place of the content's digest where it is faulty. -/
def execGranuleRefillDone (n : Fin 12288) (data : List Byte) (ecc : Ecc) (run : StoneRun) (s : State) : Result := s.powered <|
  match tblGet s.pond.granules n.val with
  | none => .next s
  | some g =>
    match g.owner, g.state with
    | some p, .invalid =>
      let x := s.port p
      if x.state = .measuring ∧ !s.armFree p then .next s
      else
      match s.devRead p x.activeCs (x.activeBase + g.va) 4096 x.halfRate with
      | none => .next s
      | some r =>
        if ecc = .uncorrectable then .next (r.memError p n.val g)
        else
          let t := (if ecc = .corrected then r.eccCorrected p else r).hashWork 1 (.port p) (hashBlocks 4097)
          .next (t.refill p n.val g data (run.bad.getD (leafDigest data)) run.stone)
    | _, _ => .next s

end Sys2Proof.Machine
end

