-- ==== Sys2Proof/Machine/Arming.lean ====
section
/-! DEFINITION. The arming of a port: configuration load, map verification, allocation, captures, fill, leaf tables and the comparison of roots (02 R43 to R68, 03 R94 to R113, 04 R117 to R122, 07 R222, R240 to R242). -/

namespace Sys2Proof.Machine

open Sys2Proof

/-- An arming can begin: nor does a program or erase of the device's own still run on the port's parts (06 R213), and Pn_HCS# is high, as a change of the remap needs (02 R49). -/
def State.tailFree (s : State) (p : PortId) : Bool := s.armFree p && (s.port p).devOp.isNone && !(s.port p).hcsLow

/-- Status profile: as configured, else by R562. -/
def profileOf (c : PortCfg) (part : Sfdp) : Nat :=
  if c.profile != 0 then c.profile
  else if part.flagStatus then 2
  else match part.sr2 with
    | some r => if r.progBit.isSome || r.eraseBit.isSome then 3 else 1
    | none => 1

/-- f_port after R68: no higher than lets CSH_NS fit one period less 1 ns. -/
def fportOf (c : PortCfg) : Nat := min c.fport (1000 / (c.cshNs + 1))

/-- ns to read one leaf at f_port in a mode (04 R139, 02 R30): half cycles a byte 16, 4, 4, 2, 2, 1. -/
def leafNs (m : BusMode) (f : Nat) : Nat :=
  let half := match m with | .s111 => 16 | .s114 => 4 | .s144 => 4 | .s4s4d => 2 | .s888 => 2 | .d888 => 1
  (65536 * half * 500 + (f - 1)) / f

/-- What R40 knows with a real part's tables. -/
def partKnows (x : Sfdp) (in8d : Bool) (op : Byte) : Option Nat := knownClass x.sccrReads x.sccrWrites x.prog4 in8d op

/-- The stored table that a port loads; where none was stored the empty one, and of an unreadable one nothing, which no check accepts (05 R157, R162, R163, 13 R433). -/
def State.sluiceBytes (s : State) (p : PortId) : List Byte :=
  if (s.pstore p).sluice.stored then ((s.pstore p).sluice.read).getD [] else emptySluice

/-- A failure of an arming that is no slot's own: the port goes to FAILED, and a recovery's FAILOVER gives way to the next option (01 R22, 04 R117, R119, 07 R246; log 20). The slot that FAILOVER armed then shows FAIL_CODE 0x00 and FAIL_REGION 0xFF, since 07 R220 gives such a failure no code (DESIGN CHOICE log 20); where the home port does not take the write of its record, nothing of it can be read either, and the port goes to FAILED (17 R531). -/
def State.armAbort (s : State) (p : PortId) (reason code : Nat) : State :=
  let x := s.port p
  let t := s.armFail p reason code 0
  match x.source, x.option with
  | .slot _, some _ => if x.armPending && t.stores true then t.armingFails p 0 0xFF else t.failPort p
  | _, _ => t.failPort p

/-- VIO_PGn is out of its range as the port begins to arm, or leaves it while it arms: the port goes to FAILED (06 R217). -/
def State.supplyFails (s : State) (p : PortId) : State := (s.armFail p 4 0 0).failPort p

/-- A failure of an arming that the slot brings with it (07 R242, 04 R117; log 20). -/
def State.armSlotFails (s : State) (p : PortId) (reason code region failCode failRegion : Nat) : State :=
  let t := if (s.port p).armPending then s else s.armFail p reason code region
  t.armingFails p failCode failRegion

/-- Configured slots of a port (13 R429 PFLAGS). -/
def PortCfg.slots (c : PortCfg) : List SlotId := [.a, .b] ++ (if c.golden then [.g] else [])

/-- Every configured slot lies wholly on its chip select (02 R43). -/
def geometryOk (c : PortCfg) (cs0 cs1 : Sfdp) : Bool :=
  c.slots.all fun i => decide (c.base i + c.v ≤ (if c.cs i then cs1 else cs0).capacity)

/-- The virtual registers that a part's SCCR table names, at their configured values (02 R51, R59; log 77). -/
def vregsOf (part : Sfdp) : List (Byte × Byte) := part.sccrReads.map fun op => (op, Config.virtualReg part op)

/-- What a configuration load takes from the record and the real parts: f_port after R68 with its Notice, the status profile and the virtual registers and the active-slot remap (02 R44, R45, R50, R54, R59, R62, R68, R562). -/
def State.loadCommon (s : State) (p : PortId) (c : PortCfg) (cs0 cs1 part : Sfdp) : State :=
  let f := fportOf c
  let t := s.modPort p fun x =>
    Port.mapTo { x with
      cfg := some c, sfdp0 := some cs0, sfdp1 := some cs1, fport := f, profile := profileOf c part, vregs := vregsOf part
      sr := c.srInit, addr4 := c.addr4, extAddr := 0, mode := some .s111, captures := []
      armMap := none, filled := 0, loaded := 0, badRegion := none, engineWait := false, halfRate := false }
  if f < c.fport then t.portEvent p 11 [0] else t

/-- The sluice's checks with a real part's tables (05 R162). -/
def State.tableCheck (s : State) (p : PortId) (part : Sfdp) : Nat × Nat :=
  checkSluice (s.sluiceBytes p) (partKnows part) (decide (part.page ≤ 4096))

/-- The effective table is in force (05 R157, R163). -/
def State.takeTable (s : State) (p : PortId) : State := s.modPort p fun x => { x with table := effectiveTable (s.sluiceBytes p) }

/-- The table event (05 R162, 16 R506). -/
def State.tableEvent (s : State) (p : PortId) (r : Nat × Nat) : State := s.portEvent p 9 (leBytes 1 r.1 ++ leBytes 1 r.2)

/-- A refused table ends the arming, and the port goes to FAILED with its ARM_FAIL, whatever it was to arm; a pending slot goes to FAILED with it under steps 1 and 2 of R242 (05 R157, R162, 07 R242, 16 R503; log 20). -/
def State.tableRefused (s : State) (p : PortId) (i : SlotId) (code : Nat) : State :=
  let t := s.armFail p 6 code 0
  (if (s.port p).armPending then (t.failSlot p i 0 0xFF).slotEvent p 16 1 i else t).failPort p

/-- The configuration load of an arming on a flash slot (04 R117, R147, 02 R43, R45, R50, R53, R54, R68, 05 R162). -/
def State.loadPort (s : State) (p : PortId) (c : PortCfg) (cs0 cs1 : Sfdp) (i : SlotId) (pending : Bool) : State :=
  let part := if c.cs i then cs1 else cs0
  let t := (s.modPort p fun x =>
    { x with
      state := if x.state = .recovering then .recovering else .arming
      source := .slot i, armPending := pending, begun := true, substAgain := false
      transients := match x.lastServed with | some j => if j = i then x.transients else [] | none => x.transients }).loadCommon
        p c cs0 cs1 part
  let r := s.tableCheck p part
  if !geometryOk c cs0 cs1 then t.armAbort p 1 0
  else if r.1 != 0 then (t.tableEvent p r).tableRefused p i r.1
  else if !c.addr4 && decide (2 ^ 24 ≤ c.base i) && !part.extAddr then (t.takeTable p).armSlotFails p 5 0 0 0 0xFF
  else (t.takeTable p).programParts p

/-- The configuration load of an arming that begins with a substitute: its configuration, real parts and sluice table; none when the geometry or the table is refused (02 R43, R50, R68, R562, 05 R157, R162, 07 R219, R252, R253). -/
def State.loadSubst (s : State) (p : PortId) (c : PortCfg) (cs0 cs1 : Sfdp) : Bool × State :=
  let home : SlotId := if (s.port p).source = .golden then .g else s.lostSlot p
  let part := if c.cs home then cs1 else cs0
  let t := (s.modPort p fun x => { x with option := none }).loadCommon p c cs0 cs1 part
  if !geometryOk c cs0 cs1 then (false, t.armAbort p 1 0)
  else
    let r := s.tableCheck p part
    if r.1 = 0 then (true, (t.takeTable p).programParts p) else (false, (t.tableEvent p r).armAbort p 6 r.1)

/-- The substitute of a port that left SUBSTITUTE is obtained again from its source (07 R253). -/
def State.substAgain (s : State) (p : PortId) (c : PortCfg) : State :=
  let t := s.modPort p fun x => { x with state := .recovering, cfg := some c, option := none }
  t.tryOptions p c (c.optionsFrom (if (s.port p).source = .golden then 2 else 3))

/-- The port's arming has yet to begin: WAITING, or again from configuration load (07 R242), or for FAILOVER (07 R246). -/
def Port.armDue (x : Port) : Bool :=
  x.state == .waiting || (x.state == .arming && !x.begun)
    || (x.state == .recovering && !x.begun && x.armPending)

/-- Depth of a port in the release graph: the ports whose predecessors all stand before them come level by level (01 R21, 06 R197). -/
def levelFrom (preds : List (BitVec 32)) (p : Nat) : Nat → Nat → BitVec 32 → Nat
  | 0, n, _ => n
  | fuel + 1, n, placed =>
    if (preds.getD p 0) &&& ~~~placed = 0 then n
    else
      let next := (preds.zipIdx.foldl (fun (acc : Nat) (m, q) => if m &&& ~~~placed = 0 then acc + 2 ^ q else acc) 0)
      levelFrom preds p fuel (n + 1) (BitVec.ofNat 32 next)

/-- Depth of a port (01 R21). -/
def Release.depth (r : Release) (p : PortId) : Nat := levelFrom (r.records.toList.map (·.pred)) p.val 32 0 0

/-- It is a WAITING port's turn: no port still to begin stands before it in the graph's order, and among ports at one depth the lower number begins first (01 R21). A port whose tailrace is held (06 R213, 15 R482) lets the others pass. -/
def State.armTurn (s : State) (p : PortId) : Bool :=
  allPorts.all fun q =>
    q == p || (s.port q).state != .waiting || !s.tailFree q
      || decide (s.rel.depth p < s.rel.depth q) || (s.rel.depth p == s.rel.depth q && decide (p < q))

/-- A power domain has reached On (17 R513, R515). -/
def State.domOn (s : State) (d : Nat) : Bool := s.domain d == .on

/-- The port's engine group is On (17 R514). -/
def State.groupOn (s : State) (p : PortId) : Bool := s.domOn (groupDomain p)

/-- The millpond banks that hold content and the tree store are On (17 R514). -/
def State.storesOn (s : State) : Bool :=
  ((List.range 4).all fun b => !s.pond.bankUsed b || s.domOn (6 + b)) && ((!s.pond.used && s.pond.extents.isEmpty) || s.domOn 10)

/-- The port begins to arm now: the miller has loaded the graph (06 R199), its engine group is On, nothing holds its tailrace, its arming is due, and from WAITING it is its turn (01 R21). -/
def State.armsNow (s : State) (p : PortId) : Bool :=
  s.millerRuns && s.mil.loaded && s.groupOn p && s.tailFree p && (s.port p).armDue && ((s.port p).state != .waiting || s.armTurn p)

/-- What a WAITING port arms (07 R219, R240, R246, R253). -/
def State.armWaiting (s : State) (p : PortId) (c : PortCfg) (cs0 cs1 : Sfdp) : State :=
  match s.armTarget p with
  | .slot i pending => s.loadPort p c cs0 cs1 i pending
  | .again => match s.loadSubst p c cs0 cs1 with | (true, t) => t.substAgain p c | (false, t) => t
  | .recover => match s.loadSubst p c cs0 cs1 with | (true, t) => t.startRecovery p | (false, t) => t

/-- PORT_ARM_BEGIN: the port's configuration is loaded, its real parts' SFDP read, its sluice table built, and the slot to arm chosen; an arming wakes the miller (17 R519) (01 R21, R22, 02 R30 to R68, 04 R117, R147, 05 R157 to R163, 06 R217, 07 R219, R240, R253). -/
def execPortArmBegin (p : PortId) (cs0 cs1 : Sfdp) (s0 : State) : Result :=
  let s := s0.stir
  let x := s.port p
  if !s.armsNow p then .next s0
  else
    match s.storedCfg p with
    | none => .next (if x.state = .waiting then s.modPort p fun y => { y with state := .disabled } else s.armAbort p 1 0)
    | some none => .next (s.armAbort p 1 0)
    | some (some c) =>
      if !c.enable then
        .next (if x.state = .waiting then s.modPort p fun y => { y with state := .disabled, begun := false, option := none }
          else s.armAbort p 1 0)
      else
        match s.vioOf p with
        | .out => .next ((s.supplyFails p).event (868 + p.val / 4))
        | v =>
          if v = .v33 ∧ modeClock true c.mode < c.fport then .next (s.armAbort p 4 0)
          else if x.state = .waiting then .next (s.armWaiting p c cs0 cs1)
          else
            match x.source with
            | .slot i => .next (s.loadPort p c cs0 cs1 i x.armPending)
            | _ => .next s

/-- Deadlines of a map's stream regions after R139, in region order, and how many were raised (04 R138, R139). -/
def deadlinesOf (m : MillMap) (mode : BusMode) (f : Nat) : List Nat × Nat :=
  let low := 2 * leafNs mode f
  let set := m.streams.map fun (_, r) => (if r.rparam = 0 then 20 else r.rparam) * 1000000
  (set.map (max low), (set.filter fun d => decide (d < low)).length)

/-- One ARM_ADJUST for each deadline raised (04 R139, 16 R503 offset 11). -/
def State.raisedEvents (p : PortId) : State → Nat → State
  | s, 0 => s
  | s, n + 1 => State.raisedEvents p (s.portEvent p 11 [1]) n

/-- A verified map whose allocation succeeded takes the port to MEASURING (04 R117, R119, R128, R133, R139, 02 R50, R52, 07 R241). -/
def State.startMeasuring (s : State) (p : PortId) (c : PortCfg) (m : MillMap) (pond : Pond) (filled : Nat) : State :=
  let (ds, raised) := deadlinesOf m c.mode (s.port p).fport
  let t : State := { s.settle storeDomains with pond }
  let k : BitVec 128 := t.draw 128
  let u := (t.modPort p fun x =>
    { x with state := .measuring, armMap := some m, deadlines := ds, filled, loaded := 0, badRegion := none, captures := [],
             tallyKey := if m.streams.isEmpty then none else some k }).advertise p c m false
  let v := if m.streams.isEmpty then u else u.drawn
  State.raisedEvents p v raised

/-- A slot's preload is whole: every resident granule of its map is HELD for it (07 R237, R241). -/
def State.preloadWhole (s : State) (p : PortId) (i : SlotId) (m : MillMap) : Bool :=
  (s.slot p i).preloaded && s.pond.countGranules (fun g => g.hold == some (.preload p i)) == m.granules.length

/-- The allocation of an arming on a flash slot, with how many granules need no fill: the slot's preload is adopted where it is whole, and given up where it is not (04 R119, R121, R128, 07 R241). -/
def State.allocFor (s : State) (p : PortId) (i : SlotId) (m : MillMap) (pending : Bool) : Option (Pond × Nat) :=
  if pending && s.preloadWhole p i m then ((s.pond.adopt p i).allocStreams p m.streams).map fun q => (q, m.granules.length)
  else ((s.pond.freePreload p i).allocArm p m).map fun q => (q, 0)

/-- The blocks of a stored map's SHA-384 (03 R85, R111, 04 R148). -/
def State.storedHash (s : State) (p : PortId) (i : SlotId) (code : Nat) : State :=
  match s.storedMap p i with
  | some bs => s.mapHash bs code
  | none => s

/-- The golden slot's map is verified for its substitute, and the granules are allocated (07 R246, R248 to R250, R252). -/
def State.verifyGolden (s0 : State) (p : PortId) (c : PortCfg) (g : Engines) : State :=
  let r := s0.verifySlotMap p .g c g
  let s := s0.storedHash p .g r.1
  match r with
  | (8, _) => (s.modPort p fun x => { x with engineWait := true }).armFail p 2 8 0
  | (0, some m) =>
    if s.substFits p m then
      let t := (s.settle storeDomains).allocSubst p 0 m.allGranules
      (t.modPort p fun x =>
        { x with state := .measuring, armMap := some m, deadlines := [], captures := [], filled := 0, loaded := 0,
                 badRegion := none }).advertise p c m true
    else s.nextOption p ((s.port p).option.getD 3)
  | (code, _) => s.armingFails p code 0xFF

/-- The active slot fails under R559: neither of A and B is then active, and the port recovers (07 R219, R559). -/
def State.activeFails (s : State) (p : PortId) (i : SlotId) (code : Nat) : State :=
  (((s.armFail p 2 code 0).setLost p (some i)).failSlot p i code 0xFF).startRecovery p

/-- An arming on a flash slot waits for its map. -/
def Port.mapDue (x : Port) : Bool := x.begun && x.armMap.isNone && (x.state == .arming || x.state == .recovering)

/-- The home port gives no map while VIO_HOME is out, nor does it take a slot's record: an arming ends in FAILED with its event, a golden substitute gives way to the next option (01 R22, 07 R246, 17 R531; log 20). -/
def State.mapUnread (s : State) (p : PortId) : Option State :=
  let x := s.port p
  if x.state = .recovering ∧ x.source = .golden then some (s.nextOption p (x.option.getD 3))
  else if x.mapDue then (match x.source with | .slot _ => some (s.armAbort p 1 0) | _ => none)
  else none

/-- MAP_VERIFY_DONE: verification of the arming's map completes; MAP_OK allocates and enters MEASURING. It waits while an alarm's CONTAIN is in force, under which the port keeps its state; a miller that sleeps wakes for it (07 R220, 15 R482, 03 R85, R88 to R113, 04 R117 to R121, R128, R133, R138, R139, R148, 07 R241, R242, R559, 08 R283, 17 R531). -/
def execMapVerifyDone (p : PortId) (engineFault : Bool) (s0 : State) : Result :=
  let s := s0.stir
  let x := s.port p
  if !s.millerRuns || x.engineWait || !x.containBy.isEmpty then .next s0
  else if !s.stores true then .next ((s.mapUnread p).getD s0)
  else
    match x.cfg with
    | none => .next s0
    | some c =>
      let up := s.engines engineFault
      if x.state = .recovering ∧ x.source = .golden then .next (s.verifyGolden p c up)
      else if !x.mapDue then .next s0
      else
        match x.source with
        | .slot i =>
          if (s.storedMap p i).isNone then .next (s.armSlotFails p 1 0 0 0 0xFF)
          else
            let r := s.verifySlotMap p i c up
            let t := s.storedHash p i r.1
            match r with
            | (8, _) => .next ((t.modPort p fun y => { y with engineWait := true }).armFail p 2 8 0)
            | (0, some m) =>
              if s.drbg.failed && !m.streams.isEmpty then .next (t.armSlotFails p 7 0 0 0 0xFF)
              else
                match s.allocFor p i m x.armPending with
                | some (pond, filled) => .next (t.startMeasuring p c m pond filled)
                | none => .next (t.armAbort p 3 0)
            | (code, _) =>
              if x.armPending then .next (t.armingFails p code 0xFF)
              else .next (t.activeFails p i code)
        | _ => .next s0

/-- What the port's map waits for, a core or a context, is available: its verification now would not end as MAP_ENGINE (03 R113, 10 R318). -/
def State.engineReady (s : State) (p : PortId) : Bool :=
  match (s.port p).cfg with
  | some c => (s.verifySlotMap p ((s.port p).source.slotId.getD .a) c s.engines).1 != 8
  | none => false

/-- MAP_ENGINE_RETRY: a map that returned MAP_ENGINE is verified again now that what it lacked is available (03 R113, 10 R318). -/
def execMapEngineRetry (p : PortId) (s : State) : Result := s.powered <|
  if s.engineReady p then .next (s.modPort p fun x => { x with engineWait := false }) else .next s

/-- Entries of the effective table whose answers are captured (05 R167). -/
def Port.captureEntries (x : Port) : List SlEntry := x.table.filter fun e => e.vsrc == 2

/-- An arming's reads go on: nothing pauses the tailrace (05 R182, 06 R213, 15 R482). -/
def State.readsGoOn (s : State) (p : PortId) : Bool := (s.port p).state == .measuring && s.armFree p

/-- Measurement on a flash slot goes on: nothing pauses its reads, and what it fills is On. -/
def State.measuringFlash (s : State) (p : PortId) : Bool :=
  let x := s.port p
  s.readsGoOn p && s.storesOn && x.source.slotId.isSome && x.source != .golden

/-- The transfer of a capture: the entry's opcode, address and dummy structure, from address 0, in the mode and at the clock of R556 (05 R167). -/
def State.captureRead (s : State) (p : PortId) (e : SlEntry) : State :=
  let x := s.port p
  match x.cfg with
  | some c =>
    let m := x.readMode c
    let n := match e.addr with | 0 => 0 | 1 => 3 | 2 => 4 | _ => if x.real.addr4 then 4 else 3
    (s.enterMode p m).emit (.devRead p x.activeCs e.opcode m (s.readClock p m false) n 0
      (if e.advertised then x.advDummy else e.dummy) (16 * e.vdata))
  | none => s

/-- SLUICE_CAPTURE_READ: the answer of the next VSRC 0x02 entry is captured, before measurement begins (05 R167). -/
def execSluiceCaptureRead (p : PortId) (data : List Byte) (s : State) : Result := s.powered <|
  match (s.port p).captureEntries[(s.port p).captures.length]? with
  | some e =>
    if s.readsGoOn p then
      .next ((s.captureRead p e).modPort p fun x => { x with captures := x.captures ++ [slice data 0 (16 * e.vdata)] })
    else .next s
  | none => .next s

/-- Every capture is made. -/
def Port.captured (x : Port) : Bool := x.captures.length == x.captureEntries.length

/-- Every granule of the fill has its content: none still FILLING, none INVALID and waiting for its refill (04 R122, R127). -/
def State.fillWhole (s : State) (p : PortId) : Bool :=
  !s.pond.anyGranule fun g => g.ownedBy p && (g.state == .filling || g.state == .invalid)

/-- GRANULE_FILL: the next granule of the fill is read from the tailrace, hashed and PENDING (03 R94, 04 R122, R127). -/
def execGranuleFill (p : PortId) (data : List Byte) (ecc : Ecc) (s : State) : Result := s.powered <|
  let x := s.port p
  match x.armMap with
  | none => .next s
  | some m =>
    match m.granules[x.filled]? with
    | none => .next s
    | some (_, va) =>
      if !(s.measuringFlash p && x.captured) then .next s
      else
        match s.pond.granuleAt p va with
        | none => .next s
        | some (n, g) =>
          if ecc = .uncorrectable then .next ((s.memError p n g).modPort p fun y => { y with filled := y.filled + 1 })
          else
            let t := (if ecc = .corrected then s.eccCorrected p else s).devReads p x.activeCs (x.activeBase + va) 4096 x.halfRate |>.hashWork 2 (.port p) (hashBlocks 4097)
            .next ((t.putGranule n (g.fill data .pending)).modPort p fun y => { y with filled := y.filled + 1 })

/-- A leaf table's entries for a region of a map: entered only when its root matches (03 R17, R95). -/
def State.loadTable (s : State) (p : PortId) (k : Nat) (r : Region) (data : List Byte) : Bool × State :=
  let ds := tableLeaves r.leafCount data
  if treeRoot ds = r.root then (true, { s with pond := s.pond.setLeaves p k ds }) else (false, s)

/-- LEAF_TABLE_LOAD: the next stream region's leaf table is read and its root compared; in service, a table whose entry was lost is read again (03 R95 to R98, 04 R127, R129). One whose root still differs stays due and is read again, since 04 R127 gives no other outcome (DESIGN CHOICE log 112). -/
def execLeafTableLoad (p : PortId) (data : List Byte) (s : State) : Result := s.powered <|
  let x := s.port p
  match x.state, x.reloads with
  | .measuring, _ =>
    match x.armMap with
    | none => .next s
    | some m =>
      match m.streams[x.loaded]? with
      | none => .next s
      | some (k, r) =>
        if !(s.measuringFlash p && x.captured) then .next s
        else
          let u := (s.devReads p x.activeCs (x.activeBase + r.ltOffset) r.tableLen x.halfRate).hashWork 2 (.port p) (rootBlocks r.leafCount)
          let (ok, t) := u.loadTable p k r data
          .next (t.modPort p fun y =>
            { y with loaded := y.loaded + 1
                     badRegion := if ok then y.badRegion else some (match y.badRegion with | some b => min b k | none => k) })
  | _, k :: rest =>
    match x.map with
    | none => .next s
    | some m =>
      match m.regions[k]? with
      | none => .next s
      | some r =>
        match (if x.hcsLow then none else s.devRead p x.activeCs (x.activeBase + r.ltOffset) r.tableLen false) with
        | none => .next s
        | some s1 =>
        let (ok, t) := (s1.hashWork 2 (.port p) (rootBlocks r.leafCount)).loadTable p k r data
        .next (if ok then t.modPort p fun y => { y with reloads := rest } else t)
  | _, [] => .next s

/-- The region whose root differs, the lowest of several (03 R94 to R96; DESIGN CHOICE log 100). -/
def State.mismatch (s : State) (p : PortId) (m : MillMap) : Option Nat :=
  let res := m.regions.zipIdx.findSome? fun (r, k) =>
    if r.resident && treeRoot (s.pond.regionDigests p k r) != r.root then some k else none
  match res, (s.port p).badRegion with
  | some a, some b => some (min a b)
  | some a, none => some a
  | none, b => b

/-- The armed slot becomes ACTIVE, the former active slot READY, SWITCH_PENDING clear on both (07 R219, R221, R240). -/
def State.makeActive (s0 : State) (p : PortId) (i : SlotId) : State :=
  let s := s0.setLost p none
  match s0.activeSlot p with
  | some j =>
    if i = j then s
    else
      let t := (s.modSlot p j fun r => { r with state := if r.state = .active then .ready else r.state, switchPending := false }).modSlot p i
        fun r => { r with state := .active, switchPending := false, preloaded := false, failCode := 0, failRegion := 0xFF }
      t.slotEvent p 15 0 i
  | none =>
    let t := s.modSlot p i fun r => { r with state := .active, switchPending := false, preloaded := false, failCode := 0, failRegion := 0xFF }
    t.slotEvent p 15 0 i

/-- Every root matches: granules VALID, the port MEASURED, the role change of R240 (04 R117, R122, 06 R203). -/
def State.measuredOk (s : State) (p : PortId) (m : MillMap) : State :=
  let t := { s with pond := s.pond.validate p }
  let u := match (s.port p).source with
    | .slot i => if (s.port p).armPending then t.makeActive p i else t
    | _ => t
  u.modPort p fun x =>
    { x.enterMeasured with map := some m, armMap := none, armPending := false, begun := false, halfRate := false,
                           lastServed := match x.source with | .slot i => some i | _ => x.lastServed }

/-- The second measurement at half of f_port: everything freed and allocated anew (07 R222). -/
def State.remeasure (s : State) (p : PortId) (m : MillMap) : State :=
  match (s.pond.freePort p).allocArm p m with
  | some pond => ({ s with pond }).modPort p fun x => { x with halfRate := true, filled := 0, loaded := 0, badRegion := none }
  | none => s.armAbort p 3 0

/-- MEASUREMENT_ROOT_COMPARE: the computed roots are compared: a match takes the port to MEASURED, a mismatch waits for the miller, and a change of roles or a failure of the slot for the write of its record (07 R220, 03 R92 to R96, 04 R117, R122, 06 R203, 07 R221, R222, R240 to R242). -/
def execMeasurementRootCompare (p : PortId) (s : State) : Result := s.powered <|
  let x := s.port p
  match x.armMap with
  | none => .next s
  | some m =>
    if !(s.measuringFlash p && x.captured && s.fillWhole p && x.filled == m.granules.length && x.loaded == m.streams.length) then .next s
    else
      let u := s.hashWork 2 (.port p) (m.regions.map fun r => if r.resident then rootBlocks r.leafCount else 0).sum
      match u.mismatch p m with
      | none => if x.armPending && !s.stores true then .next s else .next (u.measuredOk p m)
      | some k =>
        let v := u.stir
        if !v.millerRuns || ((x.armPending || x.halfRate) && !v.stores true) then .next s
        else if x.armPending then .next (v.armingFails p 0x10 k)
        else
          let t := v.armFail p 8 0 k
          if x.halfRate then
            match x.source with
            | .slot i => .next (({ t with pond := t.pond.freePort p }.retireSlot p i 0x10 k).startRecovery p)
            | _ => .next t
          else .next (t.remeasure p m)

end Sys2Proof.Machine
end

