-- ==== Sys2Proof/Machine/Control.lean ====
section
/-! DEFINITION. Operations of the control half that several families share: the link's own frames, the fantail's grant and end of ownership, the engine's queue, digest contexts, SPDM transports, debug sessions, evidence, the alarm action ZERO. -/

namespace Sys2Proof.Machine

open Sys2Proof

/-! ### Masters, mailboxes, link ports -/

/-- Node number of a master (11 R373). -/
def masterId : Master → Nat
  | .m0 => 0 | .m14 => 14 | .m15 => 15

/-- The master of a node number. -/
def masterOf : Nat → Option Master
  | 0 => some .m0 | 14 => some .m14 | 15 => some .m15 | _ => none

/-- A link port. -/
def State.lport (s : State) : LinkId → LinkPort
  | .la => s.link.la
  | .lb => s.link.lb

/-- Replace a link port. -/
def State.setLport (s : State) (l : LinkId) (x : LinkPort) : State :=
  match l with
  | .la => { s with link := { s.link with la := x } }
  | .lb => { s with link := { s.link with lb := x } }

/-- Change a link port. -/
def State.modLport (s : State) (l : LinkId) (f : LinkPort → LinkPort) : State := s.setLport l (f (s.lport l))

/-- The other link port. -/
def otherLink : LinkId → LinkId
  | .la => .lb
  | .lb => .la

/-- Port counters in the order of 12 R400: 0 RETRAIN, 1 HCRC, 2 CRC, 3 STOMP_RX, 4 STOMP_TX, 5 NAK_TX, 6 NAK_RX, 7 REPLAY, 8 REPLAY_TMO, 9 DUP, 10 CREDIT_OVF, 11 FORMAT, 12 NOROUTE, 13 DOWN_DROP. -/
def LinkPort.count (x : LinkPort) (i : Fin 14) (n : Nat := 1) : LinkPort :=
  { x with cnt := x.cnt.set i (x.cnt[i] + BitVec.ofNat 32 n) }

/-- Length of a frame padded to a multiple of 8 (11 R346). -/
def Frame.padded (f : Frame) : Nat := (16 + f.payload.length + 4 + 7) / 8 * 8

/-- Credits of a frame (11 R361). -/
def Frame.cost (f : Frame) : Nat := (f.padded + 63) / 64

/-- Replace a mailbox. -/
def State.setMbox (s : State) (m : MbxId) (x : Mailbox) : State :=
  match m with
  | .owner => { s with mbx := { s.mbx with owner := x } }
  | .obs0 => { s with mbx := { s.mbx with obs0 := x } }
  | .obs1 => { s with mbx := { s.mbx with obs1 := x } }
  | .obs2 => { s with mbx := { s.mbx with obs2 := x } }

/-! ### The link's own frames (11 R350, R360, R365, R368) -/

/-- The port through which a node lies (11 R360). -/
def State.portTo (s : State) (dest : Nat) : LinkId := if dest < s.sys.node then .la else .lb

/-- Frames can leave a port: it is ACTIVE, or retrains and lets them wait (11 R344, R365). -/
def LinkPort.up (x : LinkPort) : Bool := x.tstate == 6 || x.width != 0

/-- A frame of the device's own waits to leave; with no node ID it makes none, and one to nodes 9 to 14, or through a port that is down, is discarded as no-route (11 R365, R371). -/
def State.sendOwn (s : State) (f : Frame) : State :=
  if s.sys.node = 0 then s
  else
    s.modLport (s.portTo f.dest) fun x =>
      if x.up && !(decide (9 ≤ f.dest) && decide (f.dest ≤ 14)) then { x with txq := x.txq ++ [f] } else x.count 12

/-- A FANTAIL frame of the device. -/
def State.fanFrame (s : State) (dest kind status epoch tag : Nat) (payload : List Byte) : Frame :=
  { type := 9, dest, src := s.sys.node, vc := false, bcast := false, epoch, tag, status, argA := 0, argB := kind, payload }

/-- A response exchanges SRC and DEST and echoes TAG and EPOCH (11 R368). -/
def State.respond (s : State) (f : Frame) (type status argA argB : Nat) (payload : List Byte) : State :=
  s.sendOwn { type, dest := f.src, src := s.sys.node, vc := false, bcast := false, epoch := f.epoch, tag := f.tag, status, argA, argB, payload }

/-! ### The engine's queue (09 R304 to R308) -/

/-- A core. -/
def Pke.core (k : Pke) (c : Fin 2) : Core := if c = 0 then k.core0 else k.core1

/-- Replace a core. -/
def Pke.setCore (k : Pke) (c : Fin 2) (x : Core) : Pke := if c = 0 then { k with core0 := x } else { k with core1 := x }

/-- A core with its whole operand memory zeroed and no operation, back at the queue. -/
def Core.clear (x : Core) : Core :=
  { x with
    state := (match x.state with | .retired => .retired | .kat => .kat | .powerKat => .powerKat | _ => .idle)
    req := none, mem := [], work := [] }

/-- Miller requests in the queue. -/
def Pke.millerQueued (k : Pke) : Nat := (k.queue.filter fun r => r.user == .miller).length

/-- Waiting miller work enters the queue as entries free: at most 15 of it there (09 R304). -/
def Pke.letIn (k : Pke) : Pke :=
  let n := 15 - k.millerQueued
  { k with queue := k.queue ++ k.waiting.take n, waiting := k.waiting.drop n }

/-- 10 ms in ns (09 R305). -/
def grantNs : Nat := 10000000

/-- A free core takes the entry at the head: an operation starts, or the owner is granted the core (09 R304, R305). -/
def Pke.takeHead (k : Pke) (c : Fin 2) (now : Nat) : Pke :=
  if (k.core c).state != .idle then k
  else
    match k.queue with
    | [] => k
    | r :: rest =>
      let k1 := { k with queue := rest }
      match r.user with
      | .miller => k1.setCore c { k.core c with state := .millerOp, req := some r, mem := r.input, work := [] }
      | .owner =>
        if r.second then
          { k1.setCore c { k.core c with state := .ownerOp, req := some r, mem := r.input, work := [] } with status := 0x03, coreNo := c.val }
        else
          { k1.setCore c { k.core c with state := .ownerGrant, req := some r, mem := [], work := [], limit := now + grantNs } with
            status := 0x02, coreNo := c.val }

/-- Both cores are retired (09 R297). -/
def Pke.none2 (k : Pke) : Bool := k.core0.state == .retired && k.core1.state == .retired

/-- Every request ends at once while both cores are retired (09 R297). -/
def Pke.refuseAll (k : Pke) : Pke :=
  if k.none2 then
    let owner := k.queue.any fun r => r.user == .owner
    { k with
      status := if owner then 0x32 else k.status
      millerDone := List.replicate (k.millerQueued + k.waiting.length) 0x32 ++ k.millerDone
      queue := [], waiting := [] }
  else k

/-- Free cores serve the queue, core 0 first, and waiting work moves up (09 R297, R304). -/
def Pke.serve (k : Pke) (now : Nat) : Pke :=
  ((((k.letIn.refuseAll.takeHead 0 now).letIn).takeHead 1 now)).letIn

/-- A miller request of a list, by its number there, is taken out. -/
def dropMiller : List PkeReq → Nat → List PkeReq
  | [], _ => []
  | r :: rs, n =>
    if r.user = .owner then r :: dropMiller rs n
    else match n with
      | 0 => rs
      | k + 1 => r :: dropMiller rs k

/-- The miller aborts its own request number `n`, counted over core 0, core 1, the queue and what waits in the miller (09 R306, R307). -/
def Pke.abortMiller (k : Pke) (n : Nat) : Pke :=
  let on := ([0, 1] : List (Fin 2)).filter fun c => (k.core c).state == .millerOp
  let done := { k with cntAbort := k.cntAbort + 1, millerDone := 0x30 :: k.millerDone }
  match on[n]? with
  | some c => done.setCore c (k.core c).clear
  | none =>
    let i := n - on.length
    if i < k.millerQueued then { done with queue := dropMiller k.queue i }
    else if i < k.millerQueued + k.waiting.length then { done with waiting := dropMiller k.waiting (i - k.millerQueued) }
    else k

/-- The core that the owner holds or runs on (09 R305). -/
def Pke.ownerCore (k : Pke) : Option (Fin 2) :=
  let mine := fun c : Fin 2 => let st := (k.core c).state; st == .ownerGrant || st == .ownerOp || st == .ownerDone
  if mine 0 then some 0 else if mine 1 then some 1 else none

/-- The owner has a request queued, granted or running (09 R306). -/
def Pke.ownerActive (k : Pke) : Bool := k.status == 0x01 || k.status == 0x02 || k.status == 0x03

/-- Abort the owner's request; a core it held is zeroed and serves the queue again (09 R306 to R308). -/
def Pke.abortOwner (k : Pke) (now : Nat) : Pke :=
  if k.ownerActive then
    let k1 := { k with queue := k.queue.filter fun r => r.user != PkeUser.owner, status := 0x30, cntAbort := k.cntAbort + 1 }
    (match k1.ownerCore with | some c => k1.setCore c (k1.core c).clear | none => k1).serve now
  else k

/-- The PKE domain powers up: each core in service runs its known-answer tests (09 R296; log 96). -/
def Pke.powerUp (k : Pke) : Pke :=
  let f := fun x : Core => if x.state = .idle then { x with state := .powerKat } else x
  { k with core0 := f k.core0, core1 := f k.core1 }

/-- The owner's core is given up, and the window reads IDLE (09 R307). -/
def Pke.ownerGone (k : Pke) (now : Nat) : Pke :=
  let k1 := k.abortOwner now
  let k2 := match k1.ownerCore with | some c => k1.setCore c (k1.core c).clear | none => k1
  { k2.serve now with status := 0x00 }

/-- Abort every request (09 R307): miller restart and ZERO. -/
def Pke.abortAll (k : Pke) (now : Nat) : Pke :=
  let owner := k.abortOwner now
  let running := [owner.core0, owner.core1].countP fun x => x.state == .millerOp
  let n := owner.queue.length + owner.waiting.length + running
  { owner with
    queue := [], waiting := [], core0 := owner.core0.clear, core1 := owner.core1.clear
    cntAbort := owner.cntAbort + BitVec.ofNat 32 n, millerDone := List.replicate n 0x30 ++ owner.millerDone }

/-! ### Digest contexts and blocks of the shared queue (10 R319, 04 R149) -/

/-- A context is freed: its state, buffer and digest zeroed (10 R319). The registers CFG and LEN stay. -/
def State.freeCtx (s : State) (n : Fin 16) : State :=
  { s.modCtx n fun c => { ({} : Context) with cfgAlg := c.cfgAlg, cfgLen := c.cfgLen } with fab := s.fab.dropContext n }

/-- The owner's contexts (10 R317). -/
def ownerContexts : List (Fin 16) := [12, 13, 14, 15]

/-- All the owner's contexts are freed. -/
def State.freeOwnerContexts (s : State) : State := ownerContexts.foldl State.freeCtx s

/-- All 16 contexts are freed. -/
def State.freeAllContexts (s : State) : State := (List.finRange 16).foldl State.freeCtx s

/-! ### SPDM transports and debug sessions -/

/-- Index of a transport. -/
def transportIx : Transport → Fin 5
  | .owner => 0 | .obs0 => 1 | .obs1 => 2 | .obs2 => 3 | .i3c => 4

/-- A transport's SPDM state. -/
def State.tr (s : State) (t : Transport) : Spdm := s.spdm[transportIx t]

/-- Replace a transport's SPDM state. -/
def State.setTr (s : State) (t : Transport) (x : Spdm) : State := { s with spdm := s.spdm.set (transportIx t) x }

/-- A reset of a transport's connection: its context is FREE again, and its error counter counts on (08 R266, R274, 10 R322). -/
def State.resetTr (s : State) (t : Transport) : State :=
  let u := match (s.tr t).ctx with | some n => s.freeCtx n | none => s
  u.setTr t { ({} : Spdm) with errors := (s.tr t).errors }

/-- The transports. -/
def allTransports : List Transport := [.owner, .obs0, .obs1, .obs2, .i3c]

/-- A miller restart, device reset or power-on reset resets every transport (08 R266). -/
def State.resetAllTr (s : State) : State :=
  let t := allTransports.foldl State.resetTr s
  { t with mbx := { t.mbx with spdm := [] } }

/-- A connection's state after a message: what its transcript gained is hashed on its context, in class 3 (04 R148, 10 R315, R322). -/
def State.transcribe (s : State) (t : Transport) (x : Spdm) : State :=
  let y := s.tr t
  let u := s.setTr t x
  match x.ctx with
  | some n => u.hashWork 3 (.context n) (x.transcript.length / 128 - (if y.ctx = x.ctx then y.transcript.length / 128 else 0))
  | none => u

/-- The keys of every secured session go, and each session ends (14 R463, 15 R481). -/
def State.endSpdmSessions (s : State) : State :=
  { s with spdm := s.spdm.map fun x => { x with session := none, established := false, keyed := false, keys := [], seqIn := 0, seqOut := 0 } }

/-! ### SPDM responses (08 R267, R271, R275) -/

/-- Version in a message's header: 1.0 until one is negotiated (08 R268, DSP0274; log 92). -/
def Spdm.header (x : Spdm) : Nat := if x.version = 0 then 0x10 else x.version

/-- Unspecified, LargeResponse: ERROR codes of DSP0274 (log 92). -/
def errUnspecified : Nat := 0x05
/-- LargeResponse. -/
def errLarge : Nat := 0x0F

/-- An ERROR message. -/
def Spdm.error (x : Spdm) (code : Nat) : List Byte := Config.spdmBytes x.header 0x7F (leBytes 1 code)

/-- A response inside the CHUNK_SEND_ACK of the request's last chunk (08 R270). -/
def Spdm.inChunk (x : Spdm) (chunk : Option Nat) (msg : List Byte) : List Byte :=
  match chunk with
  | some k => Config.spdmBytes x.header 0x05 (leBytes 2 k ++ msg)
  | none => msg

/-- A response that leaves in a message larger than DataTransferSize is held, and answered with ERROR LargeResponse; both in the CHUNK_SEND_ACK of the request's last chunk where it came so (08 R270, R271). R271 gives no least DataTransferSize: any is taken, and 0 sets no limit (DESIGN CHOICE log 126). -/
def Spdm.fit (x : Spdm) (chunk : Option Nat) (msg : List Byte) : Spdm × List Byte :=
  let out := x.inChunk chunk msg
  if x.dataSize ≠ 0 ∧ x.dataSize < out.length then ({ x with large := some (0, msg.length, msg) }, x.inChunk chunk (x.error errLarge))
  else (x, out)

/-- The I3C target, which AONM holds, answers: the device is powered and out of its power-on reset (17 R514, R528). -/
def State.i3cUp (s : State) : Bool := !s.dark && !s.gov.porstLow

/-- The target takes transfers to its address: it has one, and the device is not in DEEP, where they are NACKed (17 R521). -/
def State.i3cPrivate (s : State) : Bool := s.i3cUp && s.i3c.addr.isSome && s.gov.state != .deep

/-- A transfer to the target's address in DEEP is NACKed, and its address match wakes the device (17 R519, R521). -/
def State.i3cMatch (s : State) : State := if s.i3cUp && s.i3c.addr.isSome && s.gov.state == .deep then s.wakeUp else s

/-- The messages on I3C that still wait for their turn are lost with its connection (08 R266, 13 R408). -/
def State.dropArrivals (s : State) : State := { s with mbx := { s.mbx with spdm := s.mbx.spdm.filter fun w => w.transport != .i3c } }

/-- An MCTP message of a type in packets of at most 64 bytes (08 R267). -/
def State.mctpPackets (s : State) (type : Nat) (body : List Byte) : List MctpPacket :=
  let msg := leBytes 1 type ++ body
  let n := (msg.length + 63) / 64
  (List.range n).map fun i =>
    { source := s.i3c.eid, som := i == 0, eom := i + 1 == n, seq := i % 4, payload := (msg.drop (64 * i)).take 64 }

/-- An MCTP message is ready for the I3C master: an in-band interrupt signals it, and its packets are read (08 R267). -/
def State.mctpSend (s : State) (type : Nat) (body : List Byte) : State := (s.emit .ibi).emit (.mctp (s.mctpPackets type body))

/-- An SPDM message leaves on a transport: over I3C as MCTP message type 0x05, or 0x06 for a secured one (08 R266, R272). -/
def State.spdmOut (s : State) (t : Transport) (secured : Bool) (msg : List Byte) : State :=
  match t with
  | .i3c => s.mctpSend (if secured then 0x06 else 0x05) msg
  | t => s.emit (.spdm t msg)

/-- The executing request gets its answer, with the durable effect that R432 tells apart. -/
def State.finishCmd (s : State) (m : MbxId) (a : Response) (effect : Nat := 0) : State :=
  let x := s.mbox m
  s.setMbox m { x with accepted := x.accepted.map fun r => { r with result := some a, effect } }

/-- An SPDM message leaves in a session, sealed under these keys; the next one has the next sequence number, unless the session has other keys by then (08 R272, DSP0277). -/
def State.spdmSealed (s : State) (t : Transport) (keys : List Byte) (n : Nat) (msg : List Byte) : State :=
  let x := s.tr t
  (s.spdmOut t true (Config.securedSeal keys n msg)).setTr t (if x.keys = keys then { x with seqOut := n + 1 } else x)

/-- The response to a request of a secured session, sealed under its keys: header and body of 13 R405, the request's fields echoed (13 R413). -/
def State.sessionReply (s : State) (t : Transport) (plain : List Byte) (time : Nat) (a : Response) : State :=
  let rsp := slice plain 0 4 ++ leBytes 2 a.body.length ++ leBytes 1 a.status ++ leBytes 1 a.detail ++ slice plain 8 4
    ++ leBytes 4 (min ((s.now - time) / 1000) 0xFFFFFFFF) ++ a.body
  s.spdmSealed t (s.tr t).keys (s.tr t).seqOut rsp

/-- An SPDM response goes where its request came from. -/
def State.spdmSend (s : State) (t : Transport) (r : SpdmRoute) (msg : List Byte) : State :=
  match r with
  | .wire => s.spdmOut t false msg
  | .mailbox m => s.finishCmd m { status := 0, detail := 0, body := msg }
  | .session plain time => s.sessionReply t plain time { status := 0, detail := 0, body := msg }

/-- The response that waited for its signature: with it, or ERROR Unspecified where the engine made none (08 R275; log 93). -/
def State.spdmSigned (s : State) (t : Transport) (sig : Option (List Byte)) : State :=
  let x := s.tr t
  match x.signing with
  | none => s
  | some j =>
    let y := { x with signing := none }
    let z := match sig, j.session with
      | some _, some id => { y with session := some id, established := false, keyed := true, seqIn := 0, seqOut := 0 }
      | _, _ => y
    let msg := match sig with
      | some g => Config.spdmBytes z.header j.code (j.body ++ g)
      | none => z.error errUnspecified
    let said := z.transcript ++ j.raw ++ msg
    let out := ({ z with transcript := said, keys := if sig.isSome && j.session.isSome then said else z.keys }).fit j.chunk msg
    (s.transcribe t out.1).spdmSend t j.route out.2

/-- The SPDM responses that requests in the engine sign. -/
def Pke.jobs (k : Pke) : List Nat :=
  (k.core0.req.toList ++ k.core1.req.toList ++ k.queue ++ k.waiting).filterMap PkeReq.job

/-- A response whose request has left the engine without a signature is answered (08 R275, 09 R297, R307). -/
def State.spdmSweep (s : State) : State :=
  allTransports.foldl (fun (u : State) t =>
    match (u.tr t).signing with
    | some j => if u.pke.jobs.contains j.id then u else u.spdmSigned t none
    | none => u) s

/-- The DBG domain without demand is Off, and what its access registers held is lost: what they hold at the next session is a free value (17 R513, R514; log 5). -/
def State.dbgSettle (s : State) : State :=
  if s.dbg.powered then s
  else
    let f := s.freeBytes 9
    let d := s.dbg
    ({ s with dbg := { d with
      accStatus := (byteAt f 0).toNat % 16, accAddr := BitVec.ofNat 32 (field f 1 4), accData := BitVec.ofNat 32 (field f 5 4) } }).skipFree 9

/-- The debug session ends (14 R465); the level stays. -/
def State.endDebug (s : State) : State :=
  if s.dbg.session.isSome || s.dbg.d2Opening then
    (({ s with dbg := { s.dbg with session := none, d2Opening := false } }).event 910).dbgSettle
  else s

/-- The alias key, the sealed slot, the seal key and the nonces are zeroed (14 R463, 15 R481). -/
def State.zeroKeys (s : State) : State :=
  ({ s with
    aonb := { s.aonb with sealKey := none, sealState := 0 }
    pke := { s.pke with sealedKey := none }
    idn := { s.idn with aliasPub := none }
    mbx := { s.mbx with nonce := none }
    dbg := { s.dbg with nonce := none } }).endSpdmSessions

/-- The alarm action ZERO (15 R481, 08 R280, 09 R307). -/
def State.actZero (s : State) : State :=
  let t := s.zeroKeys.endDebug
  ({ t with
    pke := t.pke.abortAll t.now, drbg := { t.drbg with requests := 0 }, idn := { t.idn with zeroed := true } }).spdmSweep

/-- CONTAIN of a monitor on a port: in force until R483 lifts it (04 R144, 15 R481, R482). -/
def State.alarmContain (s : State) (p : PortId) (m : Nat) : State :=
  (s.modPort p fun x => { x with containBy := if x.containBy.contains m then x.containBy else m :: x.containBy }).contain p .alarm

/-! ### Evidence (15 R487 to R489) -/

/-- Blow the lowest unblown bit of a class's counter, in Production and Locked alone. -/
def State.addEvidence (s : State) (c : Fin 8) : State :=
  if s.life.state = .production ∨ s.life.state = .locked then
    let v := s.otp.evidence[c]
    { s with otp := { s.otp with evidence := s.otp.evidence.set c (v ||| (v + 1)) } }
  else s

/-- Evidence class of a monitor (15 R473); `paired` for a pin of an active pair. -/
def monClass (m : Nat) (paired : Bool) : Nat :=
  if m ≤ 7 then (if paired then 1 else 0)
  else if m ≤ 19 then 2 else if m = 20 then 3 else if m ≤ 23 then 4 else if m ≤ 25 then 5 else if m = 26 then 7 else 6

/-! ### The fantail (11 R370 to R382, 13 R412) -/

/-- The stored device configuration as the firmware reads it, or its defaults, which stand while no read of the home port succeeds (13 R431, 17 R531). -/
def State.devCfg (s : State) : DevCfg := if s.gov.vioHome then (s.store.device.read.bind readDev).getD devDefault else devDefault

/-- The bytes of the election nonce. -/
def Fan.nonceBytes (f : Fan) : List Byte := digestBytes f.nonce

/-- OWNER and SESSION_EPOCH of a RESULT (11 R375). -/
def Fan.resultBody (f : Fan) : List Byte :=
  [BitVec.ofNat 8 (match f.owner with | some m => masterId m | none => 0xFF), BitVec.ofNat 8 f.epoch, 0, 0]

/-- A RESULT for master 14 is stored; one that answers its request clears BUSY (12 FAN_SEND, FAN_RESULT). -/
def Fan.storeResult (f : Fan) (status : Nat) (reply : Bool) : Fan :=
  { f with resNew := true, resEpoch := f.epoch, resOwner := f.owner, resStatus := status, sendBusy := if reply then false else f.sendBusy }

/-- A write of FAN_SEND.KIND with 0x2, 0x3 or 0x4: FAN_MSG as it stands is sent, which wakes the miller, and BUSY sets; while BUSY it is discarded (12 R397, FAN_SEND, 17 R519). -/
def State.postSend (s : State) (kind : Nat) : State :=
  let f := s.fan
  if f.sendBusy then { s with fan := { f with sendPosterr := true } }
  else { s with fan := { f with sendKind := kind, sendBusy := true, sent := memReads f.msg 0 232 } }.wakeUp

/-- RESULT to every master; it answers no request, so its STATUS is zero (11 R347, R377, R382). Its TAG and EPOCH are free values (log 5). -/
def State.resultToAll (s : State) : State :=
  let s1 := { s with fan := s.fan.storeResult 0 false }
  let tag := Config.freeTag s1.fresh
  let body := s1.fan.resultBody
  ((s1.skipFree 1).sendOwn (s1.fanFrame 0 5 0 tag.2.toNat tag.1.toNat body)).sendOwn (s1.fanFrame 15 5 0 tag.2.toNat tag.1.toNat body)

/-- Event frames that wait: unacknowledged, or not made yet. -/
def State.evtWaiting (s : State) : Nat := s.evt.unacked.length + s.evt.toOwner.length

/-- The EVT epoch advances; unacknowledged frames are discarded and counted (11 R370). -/
def State.advanceEvt (s : State) : State :=
  { s with
    evt := { s.evt with epoch := (s.evt.epoch + 1) % 16, unacked := [], toOwner := [] }
    link := { s.link with cntEvtDrop := s.link.cntEvtDrop + BitVec.ofNat 32 s.evtWaiting } }

/-- The event of an advance that discarded frames (16 R503). -/
def State.evtDropped (s : State) (n : Nat) : State := if n = 0 then s else s.event 663

/-- What the session epoch change does to one mailbox; a command that executes goes on, and one that waits its turn is not executed (13 R411, R412). -/
def Mailbox.newEpoch (x : Mailbox) (executes : Bool) : Mailbox :=
  { x with
    req := [], rsp := [], ring := false, ready := false, lastSeq := none
    accepted := x.accepted.map fun r => if executes || r.result.isSome then r else { r with result := some { status := 0x05, detail := 0, body := [] } } }

/-- What every ownership change does: its end and a grant alike (09 R307, 11 R370, R382, 13 R417, 14 R462; log 28). -/
def State.ownerChanges (s : State) : State :=
  ({ s with
    pke := s.pke.ownerGone s.now
    mbx := { s.mbx with nonce := none }
    dbg := { s.dbg with nonce := none } }).advanceEvt

/-- The session epoch advances, and what R412 and R319 attach to that (08 R266, 10 R319, R334, 13 R410, R412). -/
def State.newSession (s : State) : State :=
  let t := (s.freeOwnerContexts).resetTr .owner
  let turn := fun m : MbxId => t.mbx.order.head? == some m
  { t with
    fan := { t.fan with epoch := (t.fan.epoch + 1) % 16 }
    mbx := { t.mbx with
      owner := t.mbx.owner.newEpoch (turn .owner), obs0 := t.mbx.obs0.newEpoch (turn .obs0)
      obs1 := t.mbx.obs1.newEpoch (turn .obs1), obs2 := t.mbx.obs2.newEpoch (turn .obs2)
      object := [], nonce := none } }

/-- The observer mailbox of a master (12 R389). -/
def obsOf : Master → Transport
  | .m0 => .obs0 | .m14 => .obs1 | .m15 => .obs2

/-- A master's writes can be taken at all: from an owner alone in Locked, from no master in End of life, and from none while the registers have no power (12 R392, R403, 17 R528; log 115). -/
def State.takesWrites (s : State) (m : Master) : Bool :=
  !s.dark && (match s.life.state with
    | .endOfLife => false
    | .locked => s.fan.owner == some m
    | _ => true)

/-- The owner's writes are taken: there is one (12 R389, R403). -/
def State.ownerWrites (s : State) : Bool := match s.fan.owner with | some m => s.takesWrites m | none => false

/-- An observer block takes its master's writes: while that master is not owner (12 R389, R403). -/
def State.observerWrites (s : State) (m : Master) : Bool := s.takesWrites m && s.fan.owner != some m

/-- The registers of a mailbox take writes: the owner's from the owner, an observer's from its master while that is not owner (12 R389, R403). -/
def State.mbxTakes (s : State) : MbxId → Bool
  | .owner => s.ownerWrites
  | .obs0 => s.observerWrites .m0
  | .obs1 => s.observerWrites .m14
  | .obs2 => s.observerWrites .m15

/-- grant (11 R377, R382). The granted master's observer mailbox has no master while it owns the device (08 R266, 12 R389). -/
def State.grant (s : State) (m : Master) : State :=
  let t := (s.ownerChanges.newSession).resetTr (obsOf m)
  let u := { t with fan := { t.fan with
    owner := some m, leaseEnd := t.now + 2000000000, leasePaused := none, window := false, directed := none, cands := [], offered := false } }
  ((u.resultToAll).event 659).evtDropped s.evtWaiting

/-- Priority of a master in the current window (11 R373). -/
def Fan.prio (f : Fan) : Master → Nat
  | .m0 => f.prio0 | .m14 => f.prio14 | .m15 => f.prio15

/-- An OFFER frame to a link master (11 R375). Its TAG and EPOCH are free values (log 5). -/
def State.sendOffer (s : State) (dest : Nat) (directed : Bool) : State :=
  let tag := Config.freeTag s.fresh
  (s.skipFree 1).sendOwn (s.fanFrame dest 1 0 tag.2.toNat tag.1.toNat
    (s.fan.nonceBytes ++ leBytes 8 s.sys.serial.toNat ++ leBytes 1 s.fan.round ++ leBytes 1 (bit directed) ++ [0, 0]))

/-- 10 ms window (11 R377, R379). -/
def windowNs : Nat := 10000000

/-- The miller runs, has loaded the device configuration record, and an election can be held (11 R376, R377). -/
def State.electionOk (s : State) : Bool := s.serves && s.mil.loaded && s.life.state != .endOfLife

/-- open_window_if_unowned; before the record is loaded the request is kept (11 R373, R377, 12 R401). -/
def State.openWindow (s : State) : State :=
  if s.fan.owner.isSome || s.fan.window then s
  else if !s.electionOk then { s with fan := { s.fan with due := true } }
  else
    let c := s.devCfg
    let nonce : BitVec 256 := s.draw 256
    let t := s.drawn
    let u := { t with fan := { t.fan with
      nonce, offered := true, round := (t.fan.round + 1) % 256, window := true, windowEnd := t.now + windowNs, cands := [],
      directed := none, due := false, opened := true, prio0 := c.prio0, prio14 := c.prio14, prio15 := c.prio15 } }
    (u.sendOffer 0 false).sendOffer 15 false

/-- Ownership ends with no successor yet, under its event; the events of one cycle come in ascending ID (11 R378, R379, R382, 16 R498). -/
def State.ownershipEnds (s : State) (src : Nat) : State :=
  match s.fan.owner with
  | none => s
  | some m =>
    let t := ({ s with fan := { s.fan with owner := none, leasePaused := none } }).ownerChanges
    ((t.resetTr (obsOf m)).resultToAll.event src).evtDropped s.evtWaiting

/-- set_node gives an ID, or none; a different one ends the session as lease expiry does (11 R371, R372). -/
def State.setNode (s : State) (n : Nat) : State :=
  let old := s.sys.node
  let t := { s with sys := { s.sys with node := n } }
  let u := if n = 0 then t else t.event 656
  if old != 0 && old != n && u.fan.owner.isSome then (u.ownershipEnds 658).openWindow else u

/-! ### Committing log records (16 R504, R508 to R511) -/

/-- The next record goes to the foundation area (16 R508). -/
def State.toFoundation (s : State) : Bool := s.life.state == .production && decide (s.log.found < 4096)

/-- LOG_HEAD: the index that the next record takes (16 R508). -/
def State.logHead (s : State) : Nat := if s.toFoundation then s.log.found else s.log.race

/-- The event of a record written at an index: the foundation's last record, and the race area's last (16 R504). -/
def commitEvent (i : Nat) : Option Nat := if i = 4095 then some 993 else if i = 65535 then some 994 else none

/-- The next queued record is written at its index (16 R504, R508 to R510). -/
def State.commitHead (s : State) : State :=
  match s.log.queue with
  | [] => s
  | r :: rest =>
    let l := { s.log with queue := rest, records := tblSet s.log.records s.logHead r }
    let t : State := { s with log :=
      if s.toFoundation then { l with found := l.found + 1 }
      else { l with race := if l.race = 65535 then 4096 else l.race + 1 } }
    match commitEvent s.logHead with
    | some e => t.event e
    | none => t

/-- Every queued record is written, those of the two events that a write raises included (15 R485, R486). -/
def State.commitAll (s : State) : State := (List.range (s.log.queue.length + 2)).foldl (fun (v : State) _ => v.commitHead) s

end Sys2Proof.Machine
end

