-- ==== Sys2Proof/Machine/MailboxOps.lean ====
section
/-! DEFINITION. The mailboxes' protocol: framing, acceptance, the checks that come before a command runs, authorization blocks, and responses (13 R404 to R421). -/

namespace Sys2Proof.Machine

open Sys2Proof

/-! ### Status codes (13 R421) -/

/-- Status codes that the command set answers. -/
def stOk : Nat := 0x00
/-- BAD_CMD. -/
def stBadCmd : Nat := 0x01
/-- BAD_LEN. -/
def stBadLen : Nat := 0x02
/-- BAD_FIELD. -/
def stBadField : Nat := 0x03
/-- BAD_SEQ. -/
def stBadSeq : Nat := 0x04
/-- STALE_SESSION. -/
def stStale : Nat := 0x05
/-- NOT_OWNER. -/
def stNotOwner : Nat := 0x06
/-- LOCKED. -/
def stLocked : Nat := 0x07
/-- AUTH_REQUIRED. -/
def stAuthRequired : Nat := 0x08
/-- AUTH_NO_NONCE. -/
def stAuthNoNonce : Nat := 0x09
/-- AUTH_FAIL. -/
def stAuthFail : Nat := 0x0A
/-- BAD_STATE. -/
def stBadState : Nat := 0x0B
/-- MAP. -/
def stMap : Nat := 0x0C
/-- SLUICE. -/
def stSluice : Nat := 0x0D
/-- GRAPH. -/
def stGraph : Nat := 0x0E
/-- CONFIG. -/
def stConfig : Nat := 0x0F
/-- CTX_FULL. -/
def stCtxFull : Nat := 0x10
/-- ENGINE. -/
def stEngine : Nat := 0x11
/-- DRBG_FAILED. -/
def stDrbgFailed : Nat := 0x12
/-- SETTINGS_WRITE. -/
def stSettings : Nat := 0x13
/-- HOPPER_BUSY. -/
def stHopperBusy : Nat := 0x14
/-- STG_MISSING. -/
def stMissing : Nat := 0x15
/-- STG_ERASE. -/
def stErase : Nat := 0x16
/-- STG_SHARED. -/
def stShared : Nat := 0x17
/-- ROLLBACK_ACTIVE. -/
def stRbActive : Nat := 0x18
/-- ROLLBACK_GOLDEN. -/
def stRbGolden : Nat := 0x19
/-- FW_FORMAT. -/
def stFwFormat : Nat := 0x1A
/-- FW_SIG. -/
def stFwSig : Nat := 0x1B
/-- FW_ROLLBACK. -/
def stFwRollback : Nat := 0x1C
/-- FW_SETTINGS. -/
def stFwSettings : Nat := 0x1D
/-- SEAL_ABSENT. -/
def stSealAbsent : Nat := 0x1E
/-- UNSEAL_FAIL. -/
def stUnsealFail : Nat := 0x1F
/-- TRANSFER. -/
def stTransfer : Nat := 0x21
/-- OTP_FAIL. -/
def stOtpFail : Nat := 0x22
/-- REFUSED. -/
def stRefused : Nat := 0x23

/-- An answer with no body. -/
def answer (status : Nat) (detail : Nat := 0) (body : List Byte := []) : Response := { status, detail, body }

/-! ### The command set (13 R422) -/

/-- Class of a command code: some true for control; none for an unknown code. -/
def cmdControl (c : Nat) : Option Bool :=
  if 0x0001 ≤ c ∧ c ≤ 0x0007 then some false
  else if (0x0101 ≤ c ∧ c ≤ 0x0110) ∨ c = 0x0201 ∨ c = 0x0202 ∨ (0x0301 ≤ c ∧ c ≤ 0x0310) then some true
  else none

/-- A command takes an authorization block of slots 0 to 7 (13 R422, 14 R447, R451, R456). -/
def cmdTakesBlock (c : Nat) : Bool := decide (0x0301 ≤ c ∧ c ≤ 0x030F)

/-- A command must carry a block in this state (13 R416, 14 R447, R451). -/
def cmdNeedsBlock (c : Nat) (st : LcState) : Bool :=
  if c = 0x030E then st == .test || st == .production
  else if c = 0x030F then false
  else cmdTakesBlock c && st == .production

/-! ### Framing (13 R404) -/

/-- Size of a mailbox's buffers (13, mailboxes). -/
def mbxSize : MbxId → Nat
  | .owner => 4096
  | _ => 1024

/-- CMD. -/
def hdrCmd (raw : List Byte) : Nat := field raw 0 2
/-- SEQ with its epoch. -/
def hdrSeq (raw : List Byte) : Nat := field raw 2 2
/-- LEN. -/
def hdrLen (raw : List Byte) : Nat := field raw 4 2
/-- ALEN. -/
def hdrAlen (raw : List Byte) : Nat := field raw 6 2
/-- The request body. -/
def hdrBody (raw : List Byte) : List Byte := slice raw 16 (hdrLen raw)

/-- LEN and ALEN meet R404. -/
def framed (raw : List Byte) : Bool :=
  let a := hdrAlen raw
  let inl := if a = 0xFFFF then 0 else a
  decide (16 + hdrLen raw + inl ≤ raw.length) && (a == 0 || a == 0xFFFF || decide (8 ≤ a ∧ a ≤ 4064))

/-- The authorization block that a request carries: none for no block, some none for one that runs past the object buffer (13 R404, R420). -/
def blockOf (raw : List Byte) (object : Memory) : Option (Option (List Byte)) :=
  let a := hdrAlen raw
  if a = 0 then none
  else if a = 0xFFFF then
    let n := leNat (memReads object (24576 + 8) 4)
    if 24576 + n ≤ 32768 then some (some (memReads object 24576 n)) else some none
  else some (some (slice raw (16 + hdrLen raw) a))

/-! ### Authorization (13 R416 to R419) -/

/-- The message M that a block's entries sign (13 R418). -/
def authMsg (serial : BitVec 64) (nonce : BitVec 256) (cmd : Nat) (body : List Byte) : List Byte :=
  ascii "xisesel auth" ++ leBytes 8 serial.toNat ++ digestBytes nonce ++ leBytes 2 cmd ++ digestBytes (Config.sha384 body)

/-- Judge a block: the map result code of R112 that the same check would give, 0x09 where an HSS/LMS entry finds no context, and AUTH_DIGEST (13 R419, 14 R448, 10 R318). -/
def State.judgeBlock (s : State) (cmd : Nat) (body : List Byte) (nonce : BitVec 256) (block : List Byte) (fault : Bool) : Nat × BitVec 384 :=
  match parseSigBlock 4 9 block with
  | none => (0x01, 0)
  | some es =>
    if !(cmdTakesBlock cmd && es.all fun e => decide (e.slot ≤ 7)) then (0x04, 0)
    else
      match checkEntries s.otp (ascii "xisesel auth") (authMsg s.sys.serial nonce cmd body) (s.engines fault) es with
      | 0 =>
        if s.mil.authHybrid && !hybridOk es then (0x06, 0)
        else (0x00, Config.sha384 (es.flatMap fun e => digestBytes e.keyHash))
      | c => (c, 0)

/-- Authorization of a request: the state with the nonce used up, an answer that refuses it, and AUTH_DIGEST (13 R416 to R419). -/
def State.authorize (s : State) (cmd : Nat) (body : List Byte) (block : Option (List Byte)) (fault : Bool) : State × Option Response × BitVec 384 :=
  match block with
  | none => (s, if cmdNeedsBlock cmd s.life.state then some (answer stAuthRequired) else none, 0)
  | some b =>
    match s.mbx.nonce with
    | none => (s, some (answer stAuthNoNonce), 0)
    | some n =>
      let t := { s with mbx := { s.mbx with nonce := none } }
      match t.judgeBlock cmd body n b fault with
      | (0, d) => (t, none, d)
      | (8, _) => (t, some (answer stEngine), 0)
      | (9, _) => (t, some (answer stCtxFull), 0)
      | (c, _) => (t.event 945, some (answer stAuthFail c), 0)

/-! ### Acceptance (13 R406, R408 to R416, R420) -/

/-- Checks that need no key: the answer that refuses the request, and whether its sequence is accepted. A header answered BAD_FIELD or BAD_LEN does not advance the sequence (DEDUCED log 41). -/
def State.headerCheck (s : State) (m : MbxId) (raw : List Byte) : Option Response × Bool :=
  let x := s.mbox m
  let seq := hdrSeq raw
  let cmd := hdrCmd raw
  let late := match x.lastSeq with | some k => seq % 4096 != (k + 1) % 4096 | none => false
  if !zeros raw 12 4 then (some (answer stBadField), false)
  else if !framed raw then (some (answer stBadLen), false)
  else if seq / 4096 != s.fan.epoch then (some (answer stStale), false)
  else if late then (some (answer stBadSeq), false)
  else
    match cmdControl cmd with
    | none => (some (answer stBadCmd), true)
    | some control =>
      if control && m != .owner then (some (answer stNotOwner), true)
      else if s.life.state = .locked ∧ control ∧ cmd ≠ 0x0101 ∧ cmd ≠ 0x030F then (some (answer stLocked), true)
      else (none, true)

/-- The request of an accepted doorbell, with its answer where a check refuses it. Every request that carries a block uses up the nonce, whichever check answers it (13 R417). -/
def State.acceptRaw (s : State) (m : MbxId) (raw : List Byte) (f : EngFaults) : State :=
  let h := s.headerCheck m raw
  let cmd := hdrCmd raw
  let body := hdrBody raw
  let j : State × Option Response × BitVec 384 :=
    match h.1 with
    | some r => (s, some r, 0)
    | none =>
      match blockOf raw s.mbx.object with
      | some none => (s, some (answer stBadLen), 0)
      | some (some b) => s.authorize cmd body (some b) f.auth
      | none => s.authorize cmd body none f.auth
  let t := j.1
  let req : Request :=
    { cmd, seq := hdrSeq raw, epoch := s.fan.epoch, token := slice raw 8 4, body, authDigest := j.2.2,
      authorized := hdrAlen raw != 0, time := s.now, ownFault := f.own, ended := f.ended, result := j.2.1 }
  let x := t.mbox m
  let u := t.setMbox m { x with
    ring := false, busy := true, accepted := some req
    lastSeq := if h.2 then some (hdrSeq raw % 4096) else x.lastSeq }
  { u with mbx := { u.mbx with order := u.mbx.order ++ [m], nonce := if hdrAlen raw = 0 then u.mbx.nonce else none } }

/-- A pending RING is accepted when the mailbox is idle and firmware runs (13 R406, R409). `f` is the engine's outcome for the request (13 R419; log 3). -/
def State.tryAccept (s : State) (m : MbxId) (f : EngFaults := {}) : State :=
  let x := s.mbox m
  if x.ring && !x.busy && !x.ready && s.serves then s.acceptRaw m (memReads x.req 0 (mbxSize m)) f else s

/-- Pending RINGs are accepted in the order of R408. -/
def State.acceptAll (s : State) (f : EngFaults := {}) : State := [MbxId.owner, .obs0, .obs1, .obs2].foldl (fun t m => t.tryAccept m f) s

/-- RING is written (12 R394, 13 R406). -/
def State.ringMbox (s : State) (m : MbxId) (f : EngFaults := {}) : State :=
  (s.wakeUp.setMbox m { s.mbox m with ring := true }).tryAccept m f

/-! ### Execution and responses (13 R405, R407, R408, R412) -/

/-- Source of the mailbox-response event. -/
def rspSource : MbxId → Nat
  | .owner => 928 | .obs0 => 929 | .obs1 => 930 | .obs2 => 931

/-- The response of a request (13 R405). -/
def Request.rspBytes (r : Request) (a : Response) (now : Nat) : List Byte :=
  leBytes 2 r.cmd ++ leBytes 2 r.seq ++ leBytes 2 a.body.length ++ leBytes 1 a.status ++ leBytes 1 a.detail ++ r.token
    ++ leBytes 4 (min ((now - r.time) / 1000) 0xFFFFFFFF) ++ a.body

/-- The request that the miller executes: the oldest accepted, with no answer yet; none while it is stopped or halted by debug (13 R408, 14 R468). -/
def State.executing (s : State) : Option (MbxId × Request) :=
  match s.mbx.order with
  | m :: _ =>
    match (s.mbox m).accepted with
    | some r => if r.result.isNone && s.serves then some (m, r) else none
    | none => none
  | [] => none

/-- A command whose effect is a settings write or a slot-record write (13 R422, 07 R220). -/
def cmdWritesSettings (c : Nat) : Bool := c == 0x0201 || c == 0x0202 || c == 0x0108 || c == 0x0109 || decide (0x0301 ≤ c ∧ c ≤ 0x0306) || c == 0x030A

/-- A command that blows OTP bits (14 R443, R444). -/
def cmdBlowsOtp (c : Nat) : Bool := c == 0x0307 || c == 0x0309 || decide (0x030B ≤ c ∧ c ≤ 0x030F)

/-- STAGE_OPEN, STAGE_CLOSE and STAGE_ABORT make a slot-record write whenever they succeed (13 R422, 07 R220, R224). -/
def cmdStages (c : Nat) : Bool := c == 0x0301 || c == 0x0108 || c == 0x0109

/-- The durable effect of a command that took the device from one state to another, `ok` where it answers OK; that of FW_BEGIN, of FW_COMMIT, whichever way its transfer ends, and of TRANSFER_ABORT of a firmware image is the firmware slot's own record (13 R425, R432, R439, R440; log 38). -/
def effectOf (cmd : Nat) (ok : Bool) (s t : State) : Nat :=
  if cmdBlowsOtp cmd then (if t.otp = s.otp then 0 else 2)
  else if cmdWritesSettings cmd then (if t.store = s.store ∧ !(cmdStages cmd && ok) then 0 else 1)
  else if cmd = 0x010E ∨ cmd = 0x010D ∨ cmd = 0x0107 then bit (t.mil.fw0 != s.mil.fw0 || t.mil.fw1 != s.mil.fw1)
  else 0

/-- DETAIL of INTERRUPTED: how far the command had got when the restart came. For LC_TRANSITION, whose interruption the intent record governs, it is a free value once bits are blown (13 R432; log 38). -/
def State.gotTo (s : State) (r : Request) : Nat :=
  if r.cmd = 0x030E ∧ r.effect ≠ 0 then (Config.freeByte s.fresh).toNat else r.effect

/-- A port number of a body. -/
def portOf (n : Nat) : Option PortId := if h : n < 32 then some ⟨n, h⟩ else none

/-- A slot code of a body (13 R423). -/
def slotOf : Nat → Option SlotId
  | 0 => some .a | 1 => some .b | 2 => some .g | _ => none

/-- The settings item that a command writes first (13 R428 to R431, 06 R198, 07 R220, R224, R234, R239, 15 R494). -/
def State.spoilItem (s : State) (cmd : Nat) (body : List Byte) : State :=
  let port := fun (n : Nat) (f : PortStore → PortStore) => match portOf n with
    | some p => s.setPstore p (f (s.pstore p))
    | none => s
  match cmd with
  | 0x0202 => match slotOf (field body 1 1) with
    | some i => port (field body 0 1) fun x => x.setMap i (x.map i).spoil
    | none => s
  | 0x0301 | 0x0302 | 0x0108 | 0x0109 => match portOf (field body 0 1) with
    | some p => s.setPstore p ((s.pstore p).spoilSlot (s.standbySlot p))
    | none => s
  | 0x0303 => port (field body 10 1) fun x => { x with config := x.config.spoil }
  | 0x0304 => port (field body 0 1) fun x => { x with sluice := x.sluice.spoil }
  | 0x0305 => { s with store := { s.store with graph := s.store.graph.spoil } }
  | 0x0306 => { s with store := { s.store with device := s.store.device.spoil } }
  | 0x030A => { s with store := { s.store with tamper := s.store.tamper.spoil } }
  | _ => s

/-- A settings write has failed: the copy it was written to is not valid, unless VIO_HOME was out and nothing was written (13 R433, 16 R504, 17 R531). -/
def State.writeFailed (s : State) (cmd : Nat) (body : List Byte) : State :=
  (if s.gov.vioHome then s.spoilItem cmd body else s).event 942

/-- Run the executing request when it is this command: `f` gives the state it leaves and its answer; an answer of AUTH_FAIL, OTP_FAIL or SETTINGS_WRITE raises its event (16 R503). -/
def State.runCmd (s : State) (cmd : Nat) (f : State → MbxId → Request → State × Response) : State :=
  match s.executing with
  | some (m, r) =>
    if r.cmd = cmd then
      let t := f s m r
      let u := t.1.finishCmd m t.2 (effectOf cmd (t.2.status == stOk) s t.1)
      if t.2.status = stOtpFail then u.event 905
      else if t.2.status = stSettings then u.writeFailed cmd r.body
      else if t.2.status = stAuthFail then u.event 945
      else u
    else s
  | none => s

/-- The response of a completed command is delivered, or discarded under an older epoch (13 R407, R412). -/
def State.deliver (s : State) (m : MbxId) (f : EngFaults) : State :=
  let x := s.mbox m
  match s.mbx.order, x.accepted with
  | k :: rest, some r =>
    match r.result with
    | some a =>
      if k = m ∧ s.serves then
        let t := { s with mbx := { s.mbx with order := rest, spdm := s.mbx.spdm.map fun w : SpdmWait => { w with ahead := w.ahead - 1 } } }
        if r.epoch = s.fan.epoch then
          let bytes := r.rspBytes a s.now
          ((t.setMbox m { x with
              rsp := memWrites x.rsp 0 bytes, busy := false, ready := true, rspSeq := r.seq % 4096, rspEpoch := r.epoch
              accepted := none }).event (rspSource m)).acceptAll f
        else ((t.setMbox m { x with busy := false, accepted := none }).event 932).acceptAll f
      else s
    | none => s
  | _, _ => s

end Sys2Proof.Machine
end

