-- ==== Sys2Proof/Machine/Firmware.lean ====
section
/-! DEFINITION. The miller firmware image and the identity that the ROM derives (13 R438 to R441, 08 R257 to R265). -/

namespace Sys2Proof.Machine

open Sys2Proof

/-! ### Firmware images (13 R438) -/

/-- What a firmware image's header says, with its digest. -/
structure FwImage where
  major : Nat
  minor : Nat
  cmdSet : Nat
  settingsMax : Nat
  svn : Nat
  codeLen : Nat
  digest : D384
deriving DecidableEq, Repr

/-- An image whose header meets R438 and whose code is there. -/
def parseFw (bs : List Byte) : Option FwImage :=
  let n := field bs 0x0C 4
  if field bs 0 4 != 0x57464E59 || field bs 4 2 != 1 || !zeros bs 0x0A 2 || decide (n < 4) || decide (3932160 < n) || n % 4 != 0
      || decide (255 < field bs 0x10 8) || !zeros bs 0x18 232 || decide (bs.length < 256 + n) then none
  else
    some { major := field bs 6 1, minor := field bs 7 1, cmdSet := field bs 8 1, settingsMax := field bs 9 1,
           svn := field bs 0x10 8, codeLen := n, digest := Config.sha384 (bs.take (256 + n)) }

/-- BLOCK_LEN of the image's signature block. -/
def fwBlockLen (bs : List Byte) (x : FwImage) : Nat := field bs (256 + x.codeLen + 8) 4

/-- The signature block: exactly the two entries that R438 names. -/
def fwEntries (bs : List Byte) (x : FwImage) : Option (List SigEntry) :=
  let block := (bs.drop (256 + x.codeLen)).take (fwBlockLen bs x)
  match parseSigBlock 2 1 block with
  | some es =>
    if es.length == 2 && es.all fun e => (e.alg == 0x0001 && e.slot == 0) || (e.alg == 0x0010 && e.slot == 1) then some es else none
  | none => none

/-- Both entries verify under the key hashes fixed in the ROM (13 R438, R440). -/
def fwSigned (bs : List Byte) (x : FwImage) (engineUp : Bool) : Bool :=
  match fwEntries bs x with
  | some es => engineUp && es.all fun e =>
      e.known && e.keyHash == Config.opirahelKey e.slot && e.verifies (ascii "miller fw") (bs.take (256 + x.codeLen))
  | none => false

/-- The blocks of an image's SHA-384, whether the miller or the ROM takes it (13 R438, 04 R148; log 43). -/
def State.fwHash (s : State) (bs : List Byte) : State :=
  match parseFw bs with
  | some x => s.hashWork 3 .miller (hashBlocks (256 + x.codeLen))
  | none => s

/-- The firmware rollback floor (14 R443). -/
def Otp.fwFloorVal (o : Otp) : Nat := popcount o.fwFloor

/-- What the ROM makes of an image: BOOT_ERR code, the image when it may start, and whether it is UNSIGNED. The floor of R442 holds in every state, the signature in Production and Locked (08 R262, 12 SYS_BOOT, 13 R442). -/
def romCheck (strict : Bool) (floor : Nat) (engineUp : Bool) (bs : List Byte) : Nat × Option (FwImage × Bool) :=
  match parseFw bs with
  | none => (0x02, none)
  | some x =>
    let ok := fwSigned bs x engineUp
    if strict && !ok then (0x03, none)
    else if x.svn < floor then (0x04, none)
    else (0x00, some (x, !ok))

/-! ### Key derivation (08) -/

/-- KDF of SP 800-108r1 in counter mode with HMAC-SHA-384: `bits / 8` bytes. -/
def kdf (key : List Byte) (label : String) (ctx : List Byte) (bits : Nat) : List Byte :=
  let blocks := (List.range ((bits + 383) / 384)).map fun i =>
    digestBytes (Config.hmac384 key (beBytes 4 (i + 1) ++ ascii label ++ [0] ++ ctx ++ beBytes 4 bits))
  blocks.flatten.take (bits / 8)

/-- LC_CODE: 8 bytes, little-endian. -/
def Life.codeBytes (x : Life) : List Byte := leBytes 8 x.code.toNat

/-- CDI_0 (08 R258). -/
def State.cdi0 (s : State) : List Byte :=
  kdf (digestBytes s.otp.dus) "YN3240 CDI0" (s.life.codeBytes ++ digestBytes Config.romDigest) 384

/-- CDI_1 (08 R258). -/
def State.cdi1 (s : State) : List Byte :=
  kdf s.cdi0 "YN3240 CDI1" (digestBytes s.idn.fwDigest ++ leBytes 8 s.idn.fwSvn ++ leBytes 1 s.dbg.level) 384

/-- Private key of a 448-bit seed (08 R259). -/
def keyOf (seed : List Byte) : Nat := beNat seed % (curveOrder 2 - 1) + 1

/-- Public key of a private key. -/
def pubOf (d : Nat) : List Byte := Config.basePoint 2 d

/-- DeviceID public key. -/
def State.deviceId (s : State) : List Byte := pubOf (keyOf (kdf s.cdi0 "YN3240 DEVICEID" [] 448))

/-- FirmwareID public key. -/
def State.firmwareId (s : State) : List Byte := pubOf (keyOf (kdf s.cdi1 "YN3240 FIRMWAREID" [] 448))

/-- Alias private key. -/
def State.aliasKey (s : State) : Nat := keyOf (kdf s.cdi1 "YN3240 ALIAS" [] 448)

/-! ### Certificates (08 R260, R263 to R265) -/

/-- subjectPublicKey bit string of a key: 0x04 ‖ X ‖ Y (08 R263; log 91). -/
def keyBits (pub : List Byte) : List Byte := (4 : Byte) :: pub

/-- Subject key identifier: the first 20 bytes of SHA-384 over the subjectPublicKey (08 R263). -/
def skiOf (pub : List Byte) : List Byte := slice (digestBytes (Config.sha384 (keyBits pub))) 0 20

/-- Serial number of a certificate that the ROM signs: the same 20 bytes with bit 7 of the first cleared (08 R263). -/
def serialOf (pub : List Byte) : List Byte :=
  match skiOf pub with
  | b :: bs => (b &&& 0x7F) :: bs
  | [] => []

/-- An uppercase hex digit in ASCII. -/
def hexDigit (n : Nat) : Byte := BitVec.ofNat 8 (if n < 10 then 48 + n else 55 + n)

/-- The device serial in 16 uppercase hex digits (08 R263). -/
def State.serialHex (s : State) : List Byte := (List.range 16).map fun i => hexDigit (s.sys.serial.toNat / 16 ^ (15 - i) % 16)

/-- notAfter of every certificate (08 R263). -/
def notAfter : List Byte := ascii "99991231235959Z"

/-- A certificate signed with a private key: deterministic ECDSA over SHA-384 (08 R260). -/
def Cert.signed (c : Cert) (d : Nat) : Cert :=
  { c with sig := slice (Config.sign 2 (beBytes 48 d) [] (digestBytes (Config.sha384 (Config.certTbs c))) none) 0 96 }

/-- The stored certificates from the Opirahel root to the DeviceID certificate: presented in Production alone, and read from the home port (08 R265, 17 R531). -/
def State.storedChain (s : State) : List Byte := if s.life.state = .production ∧ s.gov.vioHome then (s.store.chain.read).getD [] else []

/-- notBefore of the DeviceID certificate (08 R263). -/
def State.deviceNotBefore (s : State) : List Byte :=
  if s.life.state = .production then Config.certNotBefore s.storedChain else Config.selfNotBefore

/-- DeviceID private key. -/
def State.deviceKey (s : State) : Nat := keyOf (kdf s.cdi0 "YN3240 DEVICEID" [] 448)

/-- The DeviceID certificate that the device signs itself; its AKI is its own SKI (08 R265; log 91). -/
def State.selfCert (s : State) : Cert :=
  Cert.signed
    { cn := ascii "YN3240 DeviceID", serialNumber := s.serialHex, issuer := ascii "YN3240 Self", serial := Config.selfSerial,
      notBefore := Config.selfNotBefore, notAfter, subject := s.deviceId, pathLen := some 2, usage := .keyCertSign, eku := none,
      ski := skiOf s.deviceId, aki := skiOf s.deviceId, tcb := none, sig := [] } s.deviceKey

/-- The certificate that the ROM builds of the DeviceID layer: outside Production, its own (08 R265). -/
def State.deviceCerts (s : State) : List Cert := if s.life.state = .production then [] else [s.selfCert]

/-- FirmwareID private key. -/
def State.firmwareKey (s : State) : Nat := keyOf (kdf s.cdi1 "YN3240 FIRMWAREID" [] 448)

/-- TcbInfo of the FirmwareID certificate (08 R263, R264). -/
def State.tcbInfo (s : State) : TcbInfo :=
  { vendor := ascii "Opirahel", model := ascii "YN3240", version := ascii "4.2", svn := s.idn.fwSvn, layer := 1, fwid := s.idn.fwDigest,
    notConfigured := false, notSecure := s.life.state != .production || s.idn.unsignedFw, recovery := false, debug := s.dbg.level != 0 }

/-- The FirmwareID certificate, signed by the DeviceID key (08 R260, R263). -/
def State.firmwareCert (s : State) : Cert :=
  Cert.signed
    { cn := ascii "YN3240 FirmwareID", serialNumber := s.serialHex, issuer := ascii "YN3240 DeviceID", serial := serialOf s.firmwareId,
      notBefore := s.deviceNotBefore, notAfter, subject := s.firmwareId, pathLen := some 1, usage := .keyCertSign, eku := none,
      ski := skiOf s.firmwareId, aki := skiOf s.deviceId, tcb := some s.tcbInfo, sig := [] } s.deviceKey

/-- The alias certificate, signed by the FirmwareID key (08 R260, R263). -/
def State.aliasCert (s : State) : Cert :=
  Cert.signed
    { cn := ascii "YN3240 Alias", serialNumber := s.serialHex, issuer := ascii "YN3240 FirmwareID", serial := serialOf (pubOf s.aliasKey),
      notBefore := s.deviceNotBefore, notAfter, subject := pubOf s.aliasKey, pathLen := none, usage := .digitalSignature,
      eku := some [1, 3, 6, 1, 4, 1, 412, 274, 3], ski := skiOf (pubOf s.aliasKey), aki := skiOf s.firmwareId, tcb := none, sig := [] }
    s.firmwareKey

/-- The ROM derives the identity: none in Locked and End of life (08 R279); nothing that it would have to sign or generate while the DRBG is failed (08 R283); no firmware or alias layer at debug level D2 (08 R261, 14 R464); no alias key after ZERO until the next device reset (08 R280; log 91). -/
def State.derive (s : State) : State :=
  if s.life.state = .locked ∨ s.life.state = .endOfLife ∨ s.drbg.failed then
    { s with idn := { s.idn with certs := [], aliasPub := none }, pke := { s.pke with sealedKey := none } }
  else if s.dbg.level = 2 then
    { s with idn := { s.idn with certs := s.deviceCerts, aliasPub := none }, pke := { s.pke with sealedKey := none } }
  else if s.idn.zeroed then
    { s with idn := { s.idn with certs := s.deviceCerts ++ [s.firmwareCert], aliasPub := none }, pke := { s.pke with sealedKey := none } }
  else
    { s with
      idn := { s.idn with certs := s.deviceCerts ++ [s.firmwareCert, s.aliasCert], aliasPub := some (pubOf s.aliasKey) }
      pke := { s.pke with sealedKey := some (s.aliasKey, pubOf s.aliasKey) } }

end Sys2Proof.Machine
end

