-- ==== Sys2Proof/Machine/Measure.lean ====
section
/-! DEFINITION. The codes that several structures report, and the measurement blocks (04 R116, 08 R276 to R279). -/

namespace Sys2Proof.Machine

open Sys2Proof

/-- Port state code (04 R116). -/
def portCode : PortState → Nat
  | .disabled => 0 | .waiting => 1 | .arming => 2 | .measuring => 3 | .measured => 4 | .service => 5 | .contained => 6
  | .recovering => 7 | .substitute => 8 | .failed => 9 | .isolated => 10

/-- LC_STATE code (08 R276, 14 R445). -/
def lcCode : LcState → Nat
  | .blank => 0 | .test => 1 | .production => 2 | .endOfLife => 3 | .locked => 0xF

/-- Stored map digest of a slot, zero when it holds none (08 R276). -/
def State.mapDigest (s : State) (p : PortId) (i : SlotId) : D384 :=
  if (s.slot p i).state = .empty ∨ (s.slot p i).state = .absent then 0
  else match s.slotMap p i with | some m => m.digest | none => 0

/-- A release record as its 16 bytes (06 R197). -/
def RelRec.toBytes (r : RelRec) : List Byte :=
  leBytes 4 r.pred.toNat ++ leBytes 4 r.hrdy.toNat ++ leBytes 4 r.skip.toNat ++ leBytes 2 r.settleMs ++ leBytes 1 r.brakeMinMs
    ++ leBytes 1 r.tmo10ms

/-- The port's stored release record; the one R198 gives when no graph is stored. -/
def State.relRecord (s : State) (p : PortId) : List Byte :=
  match s.store.graph.read with
  | some g => slice g (16 + 16 * p.val) 16
  | none => ({} : RelRec).toBytes

/-- The stored port configuration, converted to FORMAT 0x0002 (13 R436). -/
def State.cfgBytes (s : State) (p : PortId) : List Byte := ((s.pstore p).config.read.bind convertCfg).getD []

/-- POLICY of a port; an item that is not stored gives no bytes (05 R164, 08 R276; DESIGN CHOICE log 104). -/
def State.policyDigest (s : State) (p : PortId) : D384 :=
  let c := s.cfgBytes p
  Config.sha384 (((s.pstore p).sluice.read).getD [] ++ (if c.isEmpty then [] else slice c 0x20 8) ++ s.relRecord p ++ c)

/-- Block 16 + p (08 R276). -/
def State.portBlock (s : State) (p : PortId) : List Byte :=
  let x := s.port p
  let act := match s.activeSlot p with | some i => if x.state = .disabled then 0xFF else slotCode i | none => 0xFF
  let src := match x.source with | .slot _ => 0 | .golden => 1 | .adapter => 2
  let served := match x.map with | some m => m.digest | none => 0
  leBytes 1 p.val ++ leBytes 1 (portCode x.state) ++ leBytes 1 act ++ leBytes 1 src
    ++ [SlotId.a, .b, .g].flatMap (fun i => leBytes 1 (slotStateCode (s.slot p i).state))
    ++ [SlotId.a, .b, .g].flatMap (fun i => leBytes 1 (s.slot p i).flags)
    ++ leBytes 2 (match x.map with | some m => m.secVersion | none => 0)
    ++ leBytes 1 (match x.map with | some m => m.domain | none => 0) ++ List.replicate 3 0
    ++ digestBytes served ++ digestBytes (s.mapDigest p (s.standbySlot p)) ++ digestBytes (s.mapDigest p .g)
    ++ digestBytes (s.policyDigest p)

/-- SEAL_ID (08 R276). -/
def State.sealId (s : State) : List Byte :=
  match s.aonb.sealKey with
  | some k => kdf (digestBytes k) "YN3240 SEALID" [] 64
  | none => List.replicate 8 0

/-- Block 4 (08 R276, R279, R280). -/
def State.deviceBlock (s : State) : List Byte :=
  let none_ := s.life.state == .locked || s.life.state == .endOfLife
  let flags := bit s.idn.unsignedFw + 2 * bit s.drbg.failed + 4 * bit s.pke.sealedKey.isNone + 8 * bit (s.life.state == .endOfLife)
  s.life.codeBytes ++ leBytes 1 (lcCode s.life.state) ++ leBytes 1 s.dbg.level ++ leBytes 1 flags
    ++ leBytes 1 (if none_ then 0 else s.aonb.sealState) ++ (if none_ then List.replicate 8 0 else s.sealId)
    ++ leBytes 1 0xB0 ++ leBytes 1 4 ++ leBytes 1 2 ++ leBytes 1 4 ++ List.replicate 8 0

/-- Block 5 as the configuration loads it; a graph that is not stored, or cannot be read, gives no bytes (08 R276, R278, 17 R531; DESIGN CHOICE log 104). -/
def State.configDigest (s : State) (reserve scrubMs : Nat) : D384 :=
  Config.sha384 ((if s.gov.vioHome then (s.store.graph.read).getD [] else []) ++ leBytes 2 reserve ++ leBytes 4 scrubMs)

/-- A measurement block in the DMTF format: index, value type with bit 7 for a raw value, value. -/
def dmtfBlock (index type : Nat) (raw : Bool) (v : List Byte) : List Byte :=
  leBytes 1 index ++ leBytes 1 1 ++ leBytes 2 (v.length + 3) ++ leBytes 1 (type + 128 * bit raw) ++ leBytes 2 v.length ++ v

/-- A measurement block by its index; none for an index not in the table (08 R276). -/
def State.measurement (s : State) (index : Nat) : Option (List Byte) :=
  match index with
  | 1 => some (dmtfBlock 1 0 false (digestBytes Config.romDigest))
  | 2 => some (dmtfBlock 2 1 false (digestBytes s.idn.fwDigest))
  | 3 => some (dmtfBlock 3 7 true (leBytes 8 s.idn.fwSvn))
  | 4 => some (dmtfBlock 4 2 true s.deviceBlock)
  | 5 => some (dmtfBlock 5 3 false (digestBytes s.idn.cfgDigest))
  | n => if h : 16 ≤ n ∧ n < 48 then some (dmtfBlock n 3 true (s.portBlock ⟨n - 16, by omega⟩)) else none

/-- The indices that the device reports: block 4 alone in Locked and End of life (08 R276, R279). -/
def State.measIndices (s : State) : List Nat :=
  if s.life.state = .locked ∨ s.life.state = .endOfLife then [4]
  else [1, 2, 3, 4, 5] ++ (List.range 32).map (16 + ·)

end Sys2Proof.Machine
end

