-- ==== Sys2Proof/Machine/LinkOps.lean ====
section
/-! DEFINITION. Operations of the Ecorn link's hop layer: the frame's bytes and checks, the pools and their credits, the replay buffer, and the requests that wait at a port (11 R346 to R368). -/

namespace Sys2Proof.Machine

open Sys2Proof

/-! ### Frame bytes (11 R346 to R348) -/

/-- One bit of the CRC-16 of polynomial 0x1021. -/
def crc16Step (c : BitVec 16) (b : Bool) : BitVec 16 :=
  if xor c.msb b then (c <<< 1) ^^^ 0x1021#16 else c <<< 1

/-- Bits of a byte, most significant first. -/
def bitsMsb (b : Byte) : List Bool := (List.range 8).map fun i => b.getLsbD (7 - i)

/-- HCRC of the header's first 14 bytes (11 R348). -/
def crc16 (bs : List Byte) : BitVec 16 := (bs.flatMap bitsMsb).foldl crc16Step 0xFFFF#16

/-- One bit of the reflected CRC-32 of IEEE 802.3. -/
def crc32Step (c : BitVec 32) (b : Bool) : BitVec 32 :=
  if xor (c.getLsbD 0) b then (c >>> 1) ^^^ 0xEDB88320#32 else c >>> 1

/-- The CRC-32 of IEEE 802.3 (11 R348). -/
def crc32 (bs : List Byte) : BitVec 32 :=
  ~~~((bs.flatMap fun b => (List.range 8).map fun i => b.getLsbD i).foldl crc32Step (BitVec.allOnes 32))

/-- The fields of a frame's bytes (11 R347). -/
def frameOf (bs : List Byte) : Frame :=
  let w0 := field bs 0 4
  let w1 := field bs 4 4
  { type := w0 / 2 ^ 28, dest := w0 / 2 ^ 24 % 16, src := w0 / 2 ^ 20 % 16, vc := w0.testBit 19, bcast := w0.testBit 18,
    epoch := w1 / 2 ^ 28, tag := w1 / 2 ^ 18 % 1024, status := w1 / 256 % 256, argA := field bs 8 4, argB := field bs 12 2,
    payload := slice bs 16 (w0 % 4096) }

/-- The header's first 14 bytes of a frame (11 R347). -/
def Frame.head (f : Frame) : List Byte :=
  leBytes 4 (f.type * 2 ^ 28 + f.dest * 2 ^ 24 + f.src * 2 ^ 20 + bit f.vc * 2 ^ 19 + bit f.bcast * 2 ^ 18 + f.payload.length)
    ++ leBytes 4 (f.epoch * 2 ^ 28 + f.tag * 2 ^ 18 + f.status * 256) ++ leBytes 4 f.argA ++ leBytes 2 f.argB

/-- A frame's bytes: header with HCRC, payload, CRC or the inverse of it where the frame is stomped, and the padding (11 R346 to R348). -/
def Frame.toBytes (f : Frame) (stomped : Bool) : List Byte :=
  let body := f.head ++ leBytes 2 (crc16 f.head).toNat ++ f.payload
  let c := if stomped then ~~~(crc32 body) else crc32 body
  body ++ leBytes 4 c.toNat ++ List.replicate (f.padded - (body.length + 4)) 0

/-! ### Blocks (11 R336 to R339) -/

/-- A frame's blocks: START with its HSEQ, then its bytes, eight to a data block (11 R339, R346). -/
def frameBlocks (hseq : Nat) (f : Frame) (stomped : Bool) : List LinkBlock :=
  let bs := f.toBytes stomped
  .control 0x55 (BitVec.ofNat 56 (hseq * 2 ^ 44)) :: (List.range (f.padded / 8)).map fun i => .data ((bs.drop (8 * i)).take 8)

/-- An ACK block (11 R339). -/
def ackBlock (aseq : Nat) (nak : Bool) : LinkBlock :=
  .control 0x66 (BitVec.ofNat 56 (aseq * 2 ^ 44 + bit nak * 2 ^ 43))

/-- A CREDIT block: G of VC0 TERM, VC0 FWD, VC1 TERM, VC1 FWD (11 R339). -/
def creditBlock (g : Vector (BitVec 8) 4) : LinkBlock :=
  .control 0x78 (BitVec.ofNat 56 (g[0].toNat * 2 ^ 48 + g[1].toNat * 2 ^ 40 + g[2].toNat * 2 ^ 32 + g[3].toNat * 2 ^ 24))

/-- The lanes of a mask, in ascending number. -/
def lanesOf (m : BitVec 4) : List Nat := (List.range 4).filter m.getLsbD

/-- The lane of block k of a stream: the (k mod width)-th in-service lane (11 R337). -/
def laneAt (inService : BitVec 4) (k : Nat) : Nat := (lanesOf inService).getD (k % (lanesOf inService).length) 0

/-- Index of the next block that is not IDLE: the IDLE blocks sent before it are a free number (11 R337; log 11). -/
def LinkPort.nextIndex (x : LinkPort) (l : LinkId) : Nat := x.stream + Config.idleBlocks (l == .lb) x.stream

/-- Consecutive blocks striped over a port's in-service lanes, the first of them block k of the stream (11 R337). -/
def striped (inService : BitVec 4) (k : Nat) (bs : List LinkBlock) : List (Nat × LinkBlock) :=
  (List.range bs.length).zip bs |>.map fun e => (laneAt inService (k + e.1), e.2)

/-- A port sends consecutive blocks of its stream (11 R337). -/
def State.sendBlocks (s : State) (l : LinkId) (bs : List LinkBlock) : State :=
  let x := s.lport l
  (s.setLport l { x with stream := x.nextIndex l + bs.length }).emit (.link l (striped x.inService (x.nextIndex l) bs))

/-- A port sends frames of its replay buffer again, in order (11 R344, R358). -/
def State.resendAll (s : State) (l : LinkId) (rs : List Replay) : State :=
  rs.foldl (fun t r => t.sendBlocks l (frameBlocks r.hseq r.frame r.stomped)) s

/-- SKIP on every in-service lane (11 R338, R339). -/
def skipOut (l : LinkId) (inService : BitVec 4) : Out := .lanes l ((lanesOf inService).map fun n => (n, .control 0x2D 0))

/-- ALIGN on every in-service lane: its number and the mask (11 R338, R339). -/
def alignOut (l : LinkId) (inService : BitVec 4) : Out :=
  .lanes l ((lanesOf inService).map fun n => (n, .control 0x4B (BitVec.ofNat 56 (n * 2 ^ 54 + inService.toNat * 2 ^ 50))))

/-- TRAIN of a step on the lanes it goes out on: TSTATE, ROLE device, the usable lanes and a coefficient request, which only EQUALIZE uses and which is a free value in every step (11 R339, R340; log 11). -/
def trainOut (l : LinkId) (step : Nat) (usable : BitVec 4) : Out :=
  .lanes l ((lanesOf usable).map fun n =>
    (n, .control 0x99 (BitVec.ofNat 56 (step * 2 ^ 52 + 1 * 2 ^ 50 + usable.toNat * 2 ^ 46 + (Config.coefficient step n).toNat * 2 ^ 38))))

/-- The steps that an attempt comes through: DETECT alone without signal energy, to EQUALIZE where no lane trains, else to CONFIG (11 R340). -/
def trainSteps (energy anyLane : Bool) : List Nat := if !energy then [1] else if !anyLane then [1, 2, 3] else [1, 2, 3, 4, 5]

/-- The TRAIN blocks of an attempt: up to EQUALIZE the lanes that are not retired are tried, after it those that trained are usable. One block stands for those that a step repeats (11 R339, R340; log 11). -/
def State.trainBlocks (s : State) (l : LinkId) (tried usable : BitVec 4) (energy : Bool) : State :=
  (trainSteps energy (usable != 0)).foldl (fun t k => t.emit (trainOut l k (if k ≤ 3 then tried else usable))) s

/-- LEN of a frame's bytes. -/
def frameLen (bs : List Byte) : Nat := field bs 0 4 % 4096

/-- HCRC passes. -/
def hcrcOk (bs : List Byte) : Bool := decide (20 ≤ bs.length) && field bs 14 2 == (crc16 (bs.take 14)).toNat

/-- The frame CRC that the bytes carry. -/
def frameCrc (bs : List Byte) : BitVec 32 := BitVec.ofNat 32 (field bs (16 + frameLen bs) 4)

/-- The frame CRC passes. -/
def crcOk (bs : List Byte) : Bool := frameCrc bs == crc32 (bs.take (16 + frameLen bs))

/-- The frame is stomped: its CRC is the inverse of the right one. -/
def crcStomped (bs : List Byte) : Bool := frameCrc bs == ~~~(crc32 (bs.take (16 + frameLen bs)))

/-- VC that a frame type travels on (11 R350); none for a type not in the table. -/
def typeVc : Nat → Option Bool
  | 5 => some true
  | 1 | 2 | 3 | 4 | 6 | 7 | 8 | 9 => some false
  | _ => none

/-- A frame type, and kind where it is FANTAIL, is a response, which carries a STATUS (11 R347, R350, R375). -/
def Frame.isResponse (f : Frame) : Bool := f.type == 2 || f.type == 4 || (f.type == 9 && f.argB % 16 == 5)

/-- Reserved bits, LEN, VC, BCAST and STATUS meet R347 and R349. -/
def formatOk (bs : List Byte) : Bool :=
  let f := frameOf bs
  let w0 := field bs 0 4
  let w1 := field bs 4 4
  let n := frameLen bs
  (w0 / 4096 % 64 == 0) && (w1 / 2 ^ 16 % 4 == 0) && (w1 % 256 == 0) && n % 4 == 0 && typeVc f.type == some f.vc
    && (!f.bcast || (f.type == 8 && f.argB % 16 == 3)) && (f.status == 0 || f.isResponse)
    && decide (n ≤ if f.vc then 2048 else 256) && decide (bs.length = (16 + n + 4 + 7) / 8 * 8)
    && zeros bs (16 + n + 4) (bs.length - (16 + n + 4))

/-! ### Pools and credits (11 R360 to R362) -/

/-- Size of a pool in credits: VC0 TERM, VC0 FWD, VC1 TERM, VC1 FWD. -/
def poolSize (i : Fin 4) : Nat := if i.val < 2 then 32 else 128

/-- The pool of a frame. -/
def poolOf (vc fwd : Bool) : Fin 4 :=
  match vc, fwd with
  | false, false => 0 | false, true => 1 | true, false => 2 | true, true => 3

/-- Credits come free (11 R361, R362). -/
def LinkPort.free (x : LinkPort) (i : Fin 4) (k : Nat) : LinkPort :=
  { x with g := x.g.set i (x.g[i] + BitVec.ofNat 8 k), creditDue := true }

/-- The peer charged these credits for a frame; none when it had not that many (11 R361, R362). -/
def LinkPort.charge (x : LinkPort) (i : Fin 4) (k : Nat) : Option LinkPort :=
  if k ≤ (x.g[i] - x.used[i]).toNat then some { x with used := x.used.set i (x.used[i] + BitVec.ofNat 8 k) } else none

/-- The transmitter may start a frame of this cost (11 R361). -/
def LinkPort.hasCredit (x : LinkPort) (i : Fin 4) (k : Nat) : Bool := decide (k ≤ (x.glast[i] - x.c[i]).toNat)

/-- Requests that R368 compares: register accesses and election requests. -/
def Frame.isRequest (f : Frame) : Bool := f.type == 1 || f.type == 3 || f.type == 9

/-- What identifies a request (11 R368). -/
def Frame.ident (f : Frame) : Nat × Nat × Nat := (f.src, f.tag, f.epoch)

/-- The transaction layer takes the oldest frame of the VC0 TERM pool when it meets a predicate: its credits come free (11 R354, R360). -/
def LinkPort.take0 (x : LinkPort) (ok : Frame → Bool) : Option (Frame × LinkPort) :=
  match x.term0 with
  | f :: rest =>
    if ok f then
      some (f, ({ x with term0 := rest, serving := if f.isRequest then x.serving.erase f.ident else x.serving }).free 0 f.cost)
    else none
  | [] => none

/-- The transaction layer takes the oldest frame of the VC1 TERM pool. -/
def LinkPort.take1 (x : LinkPort) : Option (Frame × LinkPort) :=
  match x.term1 with
  | f :: rest => some (f, ({ x with term1 := rest }).free 2 f.cost)
  | [] => none

/-- Take a frame of a type, and of a kind where it is a FANTAIL or ENUM frame, while the transaction layer has power (17 R514, R528). -/
def State.takeFrame (s : State) (l : LinkId) (type : Nat) (kind : Option Nat) : Option (Frame × State) :=
  if s.dark then none
  else
    ((s.lport l).take0 fun f => f.type == type && (match kind with | some k => f.argB % 16 == k | none => true)).map fun (f, x) =>
      (f, s.setLport l x)

/-! ### Events and retraining (11 R343, R344) -/

/-- A link event by its offset (16 R503, 640 + 8k). -/
def State.linkEvent (s : State) (l : LinkId) (off : Nat) : State :=
  s.event (640 + (match l with | .la => 0 | .lb => 8) + off)

/-- A port retrains: its buffers and credit counters are kept (11 R343, R344). -/
def State.retrain (s : State) (l : LinkId) : State :=
  if (s.lport l).tstate = 6 then
    (s.modLport l fun x =>
      LinkPort.count { x with tstate := 1, nakSent := false, replay := x.replay.map fun r : Replay => { r with sends := 0 } } 0).linkEvent l 4
  else s

/-! ### Neighbours (11 R360) -/

/-- Node that a port faces: 0 the head adapter, 15 the tail adapter, 16 when it is not known. The ninth device has no node and faces node 8 on LA. -/
def State.peerNode (s : State) (l : LinkId) : Nat :=
  let n := s.sys.node
  if n = 0 then (if s.sys.ninth ∧ l = .la ∧ (s.lport l).peerRole = 1 then 8 else 16)
  else
    match l, (s.lport l).peerRole with
    | _, 0 => 16
    | .la, 1 => n - 1
    | .la, _ => 0
    | .lb, 1 => n + 1
    | .lb, _ => 15

/-- A frame is charged to a TERM pool of the neighbour: an ENUM frame, one for the neighbour itself, and anything an adapter takes (11 R360). -/
def State.chargesTerm (s : State) (l : LinkId) (f : Frame) : Bool :=
  f.type == 8 || (s.lport l).peerRole == 2 || f.dest == s.peerNode l

/-- Bytes of the replay buffer in use (11 R356). -/
def LinkPort.held (x : LinkPort) : Nat := (x.replay.map fun r => r.frame.padded).sum

end Sys2Proof.Machine
end

