-- ==== Sys2Proof/Machine/TamperCfg.lean ====
section
/-! DEFINITION. The monitors' table and the tamper configuration record (15 R473, R494, R495). -/

namespace Sys2Proof.Machine

open Sys2Proof

/-- The monitors that R473 lists. -/
def monListed (m : Nat) : Bool :=
  decide (m ≤ 7) || decide (16 ≤ m ∧ m ≤ 26) || decide (32 ≤ m ∧ m ≤ 48)

/-- Default actions (15 R473): [0] LOG, [1] ALERT, [2] CONTAIN, [3] ZERO, [4] HALT, [5] RESET. -/
def monDefault (m : Nat) : Actions :=
  if m ≤ 7 then 0b001011#6
  else if m ∈ [16, 18] then 0b100001#6
  else if m = 17 then 0b000111#6
  else if m ∈ [19, 21, 22, 24, 26, 42, 45] then 0b000011#6
  else if m = 20 then 0b001111#6
  else if m = 23 then 0b010111#6
  else if m = 25 ∨ (32 ≤ m ∧ m ≤ 41) then 0b000111#6
  else if m ∈ [43, 44] then 0b000001#6
  else if m = 46 then 0b100011#6
  else if m = 47 then 0b101011#6
  else if m = 48 then 0b101001#6
  else 0#6

/-- Floor actions (15 R473). -/
def monFloor (m : Nat) : Actions :=
  if m ∈ [16, 18, 46] then 0b100001#6
  else if m = 20 then 0b001001#6
  else if m = 23 ∨ (32 ≤ m ∧ m ≤ 41) then 0b000101#6
  else if m ∈ [47, 48] then 0b101001#6
  else if monListed m then 0b000001#6
  else 0#6

/-- Ports of a group as a mask. -/
def groupMask (g : Nat) : BitVec 32 := BitVec.ofNat 32 (15 * 2 ^ (4 * g))

/-- Ports that CONTAIN reaches by default (15 R473). -/
def monMask (m : Nat) : BitVec 32 :=
  if 32 ≤ m ∧ m ≤ 39 then groupMask (m - 32) else BitVec.allOnes 32

/-- Actions and port mask of a monitor in force (15 R473, R494). -/
def Monitors.acts (x : Monitors) (m : Nat) : Actions × BitVec 32 :=
  match x.actions with
  | some es => es.getD m (0#6, 0#32)
  | none => (monDefault m, monMask m)

/-- MODE of a pin (15 R474, R494). -/
def pinMode (b : Byte) : Nat := b.toNat % 4

/-- FILTER of a pin, 1 to 16 (15 R474, R494). -/
def pinFilter (b : Byte) : Nat := b.toNat / 16 + 1

/-- A pin's fuse is blown (15 R496). -/
def State.pinDisabled (s : State) (i : Fin 8) : Bool := s.otp.fuses.getLsbD i.val

/-- The partner of a pin in a pair. -/
def pinMate (i : Fin 8) : Fin 8 := if i.val % 2 = 0 then i + 1 else i - 1

/-- A pair is in effect: both pins PAIR and neither fuse-disabled (15 R475). -/
def State.pairOn (s : State) (i : Fin 8) : Bool :=
  pinMode s.mon.pins[i] == 3 && pinMode s.mon.pins[pinMate i] == 3 && !s.pinDisabled i && !s.pinDisabled (pinMate i)

/-- A signed 16-bit field. -/
def field16 (bs : List Byte) (off : Nat) : Int := (BitVec.ofNat 16 (field bs off 2)).toInt

/-- Actions and mask of entry m. -/
def tamperEntry (bs : List Byte) (m : Nat) : Actions × BitVec 32 :=
  (BitVec.ofNat 6 (field bs (0x18 + 8 * m) 1), BitVec.ofNat 32 (field bs (0x18 + 8 * m + 4) 4))

/-- Every field meets R494. -/
def tamperFieldsOk (bs : List Byte) : Bool :=
  bs.length == 536 && field bs 0 4 == 0x43544E59 && field bs 4 2 == 1 && zeros bs 6 2 && zeros bs 0x14 4
    && ((List.range 8).all fun i => byteAt bs (8 + i) &&& 0x0C#8 == 0)
    && decide (-70 ≤ field16 bs 0x10 ∧ field16 bs 0x10 ≤ -40) && decide (110 ≤ field16 bs 0x12 ∧ field16 bs 0x12 ≤ 140)
    && (List.range 64).all fun m => decide (field bs (0x18 + 8 * m) 1 < 64) && zeros bs (0x19 + 8 * m) 3

/-- The record is not one that R495 answers with CONFIG. -/
def tamperCfgOk (bs : List Byte) : Bool :=
  tamperFieldsOk bs
    && ((List.range 4).all fun k => (pinMode (byteAt bs (8 + 2 * k)) == 3) == (pinMode (byteAt bs (9 + 2 * k)) == 3))
    && (List.range 64).all fun m =>
      let e := tamperEntry bs m
      (monListed m || zeros bs (0x18 + 8 * m) 8) && (!e.1.getLsbD 2 || e.2 != 0)
        && (!decide (32 ≤ m ∧ m ≤ 39) || e.2 == groupMask (m - 32))

/-- Every entry holds its floor actions (15 R495). -/
def tamperFloorsOk (bs : List Byte) : Bool :=
  (List.range 64).all fun m => monFloor m &&& ~~~(tamperEntry bs m).1 == 0

/-- The pins' modes and filters change: one whose MODE changes counts its samples anew, and no condition is present on it yet (15 R474, R475). -/
def Monitors.repin (x : Monitors) (pins : Vector Byte 8) : Monitors :=
  let same := fun i : Fin 8 => pinMode pins[i] == pinMode x.pins[i]
  let gone := (List.finRange 8).foldl (fun (m : BitVec 64) i => if same i then m else m ||| BitVec.ofNat 64 (2 ^ i.val)) 0
  { x with pins, runs := Vector.ofFn fun i : Fin 8 => if same i then x.runs[i] else 0, present := x.present &&& ~~~gone }

/-- Put a record in force (15 R494). -/
def Monitors.load (x : Monitors) (bs : List Byte) : Monitors :=
  { x.repin (Vector.ofFn fun i : Fin 8 => byteAt bs (8 + i.val)) with
    tlow := field16 bs 0x10 * 8, thigh := field16 bs 0x12 * 8
    actions := some ((List.range 64).map (tamperEntry bs)) }

/-- With no valid stored record the defaults apply, every pin OFF (15 R494). -/
def Monitors.defaults (x : Monitors) : Monitors :=
  { x.repin (Vector.replicate 8 0) with tlow := -480, thigh := 1080, actions := none }

/-- What the AONB retains of the pins is lost with its power: modes, thresholds, latched alarms and runs of samples (12 R403, 15 R493). -/
def Monitors.unpowered (x : Monitors) : Monitors := { x.defaults with pinAlarm := 0, runs := Vector.replicate 8 0 }

/-! ### The combiner (15 R481, R482, R485, R489, 14 R470) -/

/-- DATA of a monitor's record (16 R506). -/
def monData (m cls : Nat) (act : Actions) (mask : BitVec 32) (temp : Option (BitVec 12)) : List Byte :=
  leBytes 1 m ++ leBytes 1 cls ++ leBytes 1 act.toNat ++ ([0] : List Byte) ++ leBytes 4 mask.toNat
    ++ leBytes 2 (match temp with | some t => (t.signExtend 16).toNat | none => 0)

/-- Actions of a monitor in the present life-cycle state: LOG and ALERT alone in End of life (14 R470). -/
def State.actsOf (s : State) (m : Nat) : Actions :=
  let a := (s.mon.acts m).1
  if s.life.state = .endOfLife then a &&& 0b000011#6 else a

/-- The class of a monitor's alarm. -/
def State.classOf (s : State) (m : Nat) : Nat := monClass m (if h : m < 8 then s.pairOn ⟨m, h⟩ else false)

/-- CONTAIN of one alarm on the ports of its mask (15 R481, R482, 04 R144). -/
def State.containMask (s : State) (m : Nat) (mask : BitVec 32) : State :=
  allPorts.foldl (fun (t : State) p => if mask.getLsbD p.val then t.alarmContain p m else t) s

/-- HALT: the miller is stopped (15 R481). -/
def State.haltMiller (s : State) : State :=
  { s with
    mil := { s.mil with halted := true }
    sys := { s.sys with stage := if s.sys.stage = .endOfLife then .endOfLife else .stopped } }

/-- The temperature that a record of monitor 24 or 25 carries: the lowest or the highest reading (16 R506). -/
def State.alarmTemp (s : State) (m : Nat) : Option (BitVec 12) :=
  let ts := s.mon.temps.toList
  if m = 24 then some (ts.foldl (fun a t => if t.toInt < a.toInt then t else a) (ts.headD 0))
  else if m = 25 then some (ts.foldl (fun a t => if a.toInt < t.toInt then t else a) (ts.headD 0))
  else none

/-- LOG and ALERT of one alarm (15 R481, R485, 16 R506). -/
def State.logAlarm (s : State) (m : Nat) (act : Actions) (mask : BitVec 32) : State :=
  s.raiseOne { src := 800 + m, data := monData m (s.classOf m) act mask (s.alarmTemp m), act }

/-- One increment of a class, at the first alarm with ZERO since the last reset (15 R489). -/
def State.countClass (s : State) (c : Fin 8) : State :=
  if s.mon.counted.getLsbD c.val then s
  else
    let t := s.addEvidence c
    { t with mon := { t.mon with counted := t.mon.counted ||| BitVec.ofNat 8 (2 ^ c.val) } }

/-- Monitors in ascending number. -/
def sortMon (ms : List (Nat × BitVec 32)) : List (Nat × BitVec 32) :=
  ((List.range 64).map fun n => ms.filter fun e => e.1 == n).flatten

/-- Steps 1 and 2: ZERO, then CONTAIN and HALT (15 R485). -/
def State.alarmFirst (s : State) (ds : List (Nat × BitVec 32)) (u : Actions) : State :=
  let a := if u.getLsbD 3 then s.actZero else s
  let b := ds.foldl (fun (t : State) e => if (t.actsOf e.1).getLsbD 2 then t.containMask e.1 e.2 else t) a
  if u.getLsbD 4 then b.haltMiller else b

/-- The union of the actions of the alarms detected together (15 R485). -/
def State.unionActs (s : State) (ds : List (Nat × BitVec 32)) : Actions := ds.foldl (fun a e => a ||| s.actsOf e.1) 0

/-- The union of the masks of those whose actions hold CONTAIN (15 R485, R506 of 16). -/
def State.unionMask (s : State) (ds : List (Nat × BitVec 32)) : BitVec 32 :=
  ds.foldl (fun a e => if (s.actsOf e.1).getLsbD 2 then a ||| e.2 else a) 0

/-- Step 3: the union's LOG and ALERT of every event in ascending ID, LOG_WFAULT of a record lost among them last, and the evidence increments (15 R485, R489, 16 R498). -/
def State.alarmLogs (s : State) (ds : List (Nat × BitVec 32)) (u : Actions) (mask : BitVec 32) : State :=
  let a := (ds.foldl (fun (t : State) e => t.logAlarm e.1 (t.actsOf e.1 ||| (u &&& 0b000011#6)) mask) s).lossEvent s
  (List.finRange 8).foldl (fun (t : State) c =>
    if ds.any fun e => (t.actsOf e.1).getLsbD 3 && t.classOf e.1 == c.val then t.countClass c else t) a

/-- Alarms that were detected and not yet combined act before a device reset: their actions, records and increments, and the retraining of a link port, which the reset keeps; it ends what the other inherent responses would do (06 R207, 15 R473, R485, R486). -/
def State.settleAlarms (s : State) : State :=
  let ds := sortMon s.mon.detected
  if s.mon.detected.isEmpty || s.aonb.backup then s
  else
    let u := s.unionActs ds
    let mask := s.unionMask ds
    let a := (({ s with mon := { s.mon with detected := [] } }).alarmFirst ds u).alarmLogs ds u mask
    let b := if ds.any fun e => e.1 == 43 then a.retrain .la else a
    let t := if ds.any fun e => e.1 == 44 then b.retrain .lb else b
    { t with mon := { t.mon with resetDue := t.mon.resetDue || u.getLsbD 5 } }

end Sys2Proof.Machine
end

