-- ==== Sys2Proof/Machine/Resets.lean ====
section
/-! DEFINITION. The reset kinds, the ROM's start-up, miller restarts and the miller's start (06 R206 to R212, R560, 08 R257 to R284, 13 R432 to R441, 14 R444 to R455, 15 R492, R493). -/

namespace Sys2Proof.Machine

open Sys2Proof

/-! ### The life cycle (14 R445, R446) -/

/-- Codeword of a state; Locked has none. -/
def codeword : LcState → BitVec 64
  | .blank => 0
  | .test => 0x00000000A5A55A5A#64
  | .production => 0x3CC3C33CA5A55A5A#64
  | .endOfLife => BitVec.allOnes 64
  | .locked => 0

/-- The bit-by-bit vote of the three copies (14 R446). -/
def Otp.vote (o : Otp) : BitVec 64 := (o.copy1 &&& o.copy2) ||| (o.copy1 &&& o.copy3) ||| (o.copy2 &&& o.copy3)

/-- The state that a voted word decodes as (14 R446). -/
def decodeLc (w : BitVec 64) : LcState :=
  if w = codeword .blank then .blank
  else if w = codeword .test then .test
  else if w = codeword .production then .production
  else if w = codeword .endOfLife then .endOfLife
  else .locked

/-- The ROM senses the copies and decodes the state (14 R444, R446, R449, R472). -/
def State.decodeLife (s : State) : State :=
  let w := s.otp.vote
  let split := !(s.otp.copy1 == s.otp.copy2 && s.otp.copy2 == s.otp.copy3)
  let t := { s with life := { state := decodeLc w, code := w, split, written := none } }
  let u := if decodeLc w = .locked then t.event 898 else t
  if split then u.event 899 else u

/-- Locked or End of life: every port is ISOLATED, its tailrace tri-stated, so nothing more goes out on it (04 R116, R117, 14 R453, R470). -/
def State.isolate (s : State) : State :=
  if s.life.state = .locked ∨ s.life.state = .endOfLife then
    s.mapPorts fun _ x =>
      { x.assertBrake s.now with state := .isolated, held := none, held2 := none, suspendDue := none, resumeDue := none, devOp := none,
                                 partResetDue := false, vdResetDue := false }
  else s

/-! ### The ROM's steps (06 R560, 08, 15) -/

/-- The DRBG is instantiated, or has failed before the miller starts (08 R281, R282). -/
def State.seedDrbg (s : State) (ok : Bool) : State :=
  if ok then { s with drbg := { failed := false, seeded := true, requests := 0, failedTests := 0 } }
  else ({ s with drbg := { failed := true, seeded := false, requests := 0, failedTests := 2 } }).event 943

/-- One log record for each entry of the evidence record, a lost one raising LOG_WFAULT, and one increment for each latched class (15 R492, 16 R511). -/
def State.replayEvidence (s : State) : State :=
  if s.aonb.processed then s
  else
    let t := s.aonb.evidence.foldl (fun (u : State) e =>
      let sev := (monSeverity e.monitor).getD 0
      let act := (u.mon.acts e.monitor).1
      let r : Record :=
        { subtick := 0, tick := e.tick, source := 800 + e.monitor, severity := sev, flags := recordFlags 0#6 false true u,
          seq := some u.log.seq, data := data16 (monData e.monitor e.cls act 0 none) }
      let v := { u with log := u.log.push r }
      if v.log.wfault && !u.log.wfault then v.raiseOne { src := 992, act := fixedActions 992 } else v) s
    let u := (List.finRange 8).foldl (fun (v : State) c => if v.aonb.latched.getLsbD c.val then v.addEvidence c else v) t
    { u with aonb := { u.aonb with processed := true } }

/-- The AONB lost power altogether: monitor 26 and class 7 (15 R493, 16 R505). -/
def State.aonbLost (s : State) : State :=
  if s.aonb.lostPower then
    let a := (s.mon.acts 26).1
    let t := s.raise { src := 826, act := a, data := monData 26 7 a 0 none }
    let u := t.addEvidence 7
    { u with
      mon := u.mon.unpowered
      aonb := { u.aonb with lostPower := false } }
  else s

/-- The seal key: zeroed in Locked, generated when none is held (08 R283, R284, 14 R453). -/
def State.bootSeal (s : State) : State :=
  if s.life.state = .locked ∨ s.life.state = .endOfLife then { s with aonb := { s.aonb with sealKey := none, sealState := 0 } }
  else if s.aonb.sealKey.isSome then { s with aonb := { s.aonb with sealState := 1 } }
  else if s.drbg.failed then { s with aonb := { s.aonb with sealState := 0 } }
  else
    let k : BitVec 256 := s.draw 256
    let t := s.drawn
    ({ t with aonb := { t.aonb with sealKey := some k, sealState := 2 } }).event 944

/-- A granule of the HELD reserve (07 R245). -/
def reserveGranule : Granule :=
  { state := .held, hold := some .reserve, owner := none, region := 0, va := 0, data := [], digest := none,
    fromReserve := false }

/-- SUBST_RESERVE granules are marked HELD, the highest-numbered (07 R245, 13 R431). -/
def State.holdReserve (s : State) : State :=
  let n := s.devCfg.reserve
  { s with
    pond := { s.pond with granules := (List.range n).map fun i => (12288 - n + i, reserveGranule) }
    mil := { s.mil with reserve := n } }

/-- The transfer counter is loaded from the DRBG (13 R424). -/
def State.loadCounter (s : State) : State :=
  let v : BitVec 16 := s.draw 16
  let t := s.drawn
  { t with hop := { t.hop with counter := v.toNat } }

/-- The wipe of End of life (14 R454). -/
def State.wipe (s : State) : State :=
  let o := s.otp
  ({ s with
    otp := { o with dus := BitVec.allOnes _, trims := BitVec.allOnes _, keys := Vector.replicate 10 (BitVec.allOnes 384),
                    floors := Vector.replicate 16 (BitVec.allOnes 128), fwFloor := BitVec.allOnes _ }
    aonb := { s.aonb with sealKey := none, sealState := 0 }
    mil := { s.mil with ram := [], fw0 := {}, fw1 := {} }
    pond := {}, hop := {}, store := {} }).event 909

/-! ### Firmware at a start (08 R262, 13 R441) -/

/-- A firmware slot's record. -/
def Miller.fw (m : Miller) (one : Bool) : FwSlot := if one then m.fw1 else m.fw0

/-- Replace a firmware slot's record. -/
def Miller.setFw (m : Miller) (one : Bool) (x : FwSlot) : Miller := if one then { m with fw1 := x } else { m with fw0 := x }

/-- Only signed firmware starts (08 R262, 14 R453). -/
def State.strictFw (s : State) : Bool := s.life.state == .production || s.life.state == .locked

/-- What the ROM finds in a firmware slot. -/
def State.tryFw (s : State) (env : RomEnv) (one : Bool) : Nat × Option (FwImage × Bool) :=
  if !env.readable || !s.gov.vioHome then (0x01, none)
  else romCheck s.strictFw s.otp.fwFloorVal s.engineUp (if one then env.img1 else env.img0)

/-- The blocks that the ROM's try of a firmware slot brings (04 R148; log 43). -/
def State.romHash (s : State) (env : RomEnv) (one : Bool) : State :=
  if !env.readable || !s.gov.vioHome then s else s.fwHash (if one then env.img1 else env.img0)

/-- The record of a slot that started. -/
def FwSlot.started (_ : FwSlot) (x : FwImage) : FwSlot :=
  { state := 4, major := x.major, minor := x.minor, cmdSet := x.cmdSet, svn := x.svn, settingsMax := x.settingsMax, lastBoot := 1,
    digest := x.digest }

/-- The record of a slot that failed; one whose flash could not be read keeps its record. -/
def FwSlot.failedBoot (f : FwSlot) (code : Nat) : FwSlot :=
  if code = 0x01 then f else { f with state := if f.state = 0 then 0 else 3, lastBoot := 2 }

/-- The record of a slot that was not tried. -/
def FwSlot.untried (f : FwSlot) : FwSlot := { f with state := if f.state = 4 then 2 else f.state, lastBoot := 0 }

/-- The miller starts on a slot: the identity layers are derived first, and block 5 is of the configuration stored then (08 R257, R258, R278, 13 R409). -/
def State.startMiller (s : State) (one : Bool) (x : FwImage) (unsigned : Bool) : State :=
  let t := ({ s with idn := { s.idn with
      fwDigest := x.digest, fwSvn := x.svn, unsignedFw := unsigned
      cfgDigest := s.configDigest s.mil.reserve s.devCfg.scrubMs } }).derive.wakeUp
  { t with
    mil := { t.mil with running := some one, loaded := false, dbgHalt := false }
    sys := { t.sys with stage := if t.life.state = .locked then .locked else .running, bootErr := if t.drbg.failed then 0x06 else 0x00 } }

/-- The miller stays stopped (06 R211, R212). -/
def State.millerStops (s : State) (cause code : Nat) : State :=
  let t := s.event 933 (leBytes 1 cause ++ leBytes 1 code)
  { t with
    mil := { t.mil with running := none, loaded := false }
    sys := { t.sys with stage := .stopped, bootErr := code } }

/-- The ROM tries the preferred slot, then the other (13 R441); under a HALT that came before it the miller stays stopped (15 R481). When both fail for different reasons, which of the two BOOT_ERR reports is a free value (log 5). -/
def State.bootFirmware (s : State) (env : RomEnv) (restart : Bool) : State :=
  let a := s.mil.preferFw1
  if s.mil.halted then { s with mil := { s.mil with running := none }, sys := { s.sys with stage := .stopped } }
  else
  match s.tryFw env a with
  | (_, some (x, u)) =>
    let r := s.romHash env a
    let t := { r with mil := (s.mil.setFw a ((s.mil.fw a).started x)).setFw (!a) (s.mil.fw (!a)).untried }
    let v := t.startMiller a x u
    if restart then v.event 938 else v
  | (ca, none) =>
    let r := (s.romHash env a).romHash env (!a)
    let t := { r with mil := s.mil.setFw a ((s.mil.fw a).failedBoot ca) }
    match t.tryFw env (!a) with
    | (_, some (x, u)) =>
      let v := { t with mil := t.mil.setFw (!a) ((t.mil.fw (!a)).started x) }
      (v.startMiller (!a) x u).event 939
    | (cb, none) =>
      let v := { t with mil := t.mil.setFw (!a) ((t.mil.fw (!a)).failedBoot cb) }
      (v.skipFree 1).millerStops 0 (if ca = cb ∨ (Config.freeByte v.fresh).getLsbD 0 then ca else cb)

/-- The ROM's start-up after a power-on or device reset (01 power-on, 06 R208, R560, 14 R446, R454, R455). -/
def State.romBoot (s : State) (env : RomEnv) : State :=
  let a := (s.decodeLife.isolate).seedDrbg env.entropyOk
  let b := (a.replayEvidence.aonbLost).bootSeal
  if b.life.state = .endOfLife then
    let c := b.wipe.derive
    { c with sys := { c.sys with stage := .endOfLife }, mil := { c.mil with running := none } }
  else (b.holdReserve.loadCounter).bootFirmware env false

/-! ### Power-on reset (06 R206, R207, R529) -/

/-- The AONB loses power altogether; `backup` then stands for the loss of main power alone, and the crystal has stopped (15 R493, 16 R505, 17 R525). -/
def Aonb.unpowered (_ : Aonb) (now : Nat) : Aonb :=
  { ({} : Aonb) with
    lostPower := true, backup := true, approx := true, tick0 := (2 ^ 48 - now * 32768 / 1000000000 % 2 ^ 48) % 2 ^ 48 }

/-- Main power goes: the AONB runs on from VBAT, or loses power altogether. An evidence record that the ROM has processed is emptied, and one that it has not is kept (17 R516, R529, R531, 15 R492, R493; log 102). -/
def Aonb.mainLost (x : Aonb) (vbat : Bool) (now : Nat) : Aonb :=
  if !vbat then x.unpowered now
  else if x.processed then { x with backup := true, evidence := [], latched := 0 }
  else { x with backup := true }

/-- A firmware slot whose transfer ended is invalid (13 R425, 07 R232). -/
def FwSlot.cut (f : FwSlot) : FwSlot := { f with state := if f.state = 1 then 3 else if f.state = 4 then 2 else f.state }

/-- The miller's part of a power-on or device reset: its slots in flash stay (06 R207, R212). -/
def Miller.cleared (m : Miller) : Miller :=
  { fw0 := m.fw0.cut, fw1 := m.fw1.cut, preferFw1 := m.preferFw1 }

/-- The domains that are powered when the ROM starts (12 GOV; log 8); DGB has no demand left, and the others are as they are (17 R514). -/
def Gov.romDomains (g : Gov) : Gov :=
  { g with dom := Vector.ofFn fun d : Fin 24 => if d.val ≤ 4 ∨ d.val = 21 ∨ d.val = 23 then .on else if d.val = 5 then .off else g.dom[d] }

/-- The fabric after a device reset: of the stones of DGA, which the ROM powers, those are to be tested whose domain comes out of Off, or whose test was due (04 R152, 17 R513). -/
def State.freshFabric (s : State) : Fabric :=
  { ({} : Fabric) with stones := Vector.ofFn fun n : Fin 32 =>
      { ({} : Stone) with katDue := decide (n.val < 16) && (s.fab.stones[n].katDue || !s.stoneOn n) } }

/-- VAUX is lost: BACKUP where VBAT is present, and every domain but AONB Off; without VBAT the AONB too, and the crystal stops (17 R516, R525, R529, R531). -/
def Gov.fallen (g : Gov) : Gov :=
  { g with
    vaux := false, state := if g.vbat then .backup else .active, crystal := g.crystal && g.vbat
    dom := (Vector.replicate 24 DomState.off).set 0 (if g.vbat then .on else .off) }

/-- VAUX is back above its threshold, which ends BACKUP; VDD, VDDM and REFCLK follow it (17 R519, R529, power-up; log 32). -/
def Gov.risen (g : Gov) : Gov :=
  { g with vaux := true, vdd := true, vddm := true, refclk := true, state := .active, dom := ({} : Gov).dom }

/-- A power-on reset now is VAUX's, not PORST#'s: PORST# is high, or its own reset has been made, or it fell longer than 10 µs ago and that reset did not come, so it rose before (06 R206; log 15). -/
def Gov.vauxLost (g : Gov) (now : Nat) : Bool := !g.porstLow || g.porstDone || decide (g.porstAt + 10000 < now)

/-- A program or erase of the device's own that the part still executes when its transfer is gone: its WIP is polled as a Held command's is (05 R182, 06 R213). -/
def ownOp (cs : Bool) : Held := { cls := 2, op := 0x02, cs, addr := none, staged := none, data := [], size := 0, phase := .executing }

/-- What a power-on or device reset leaves of a port: its brake asserted, with poison until Pn_HCS# rises where a transaction was open; what the real parts still execute; HRDY's level; and the alarms whose CONTAIN stays in force (02 R81, R82, 05 R182, 06 R188, R207, 15 R483). -/
def Port.cleared (x : Port) (now : Nat) (alarms : List Nat) : Port :=
  let y := x.assertBrake now
  { ({} : Port) with
    brakeAt := now, hrdyLevel := x.hrdyLevel, hcsLow := y.hcsLow, poison := y.poison, hdqs := y.hdqs, containBy := alarms
    remap := if x.hcsLow then x.remap else (false, 0)
    held := y.held.orElse fun _ => y.devOp.map ownOp, held2 := y.held2, suspendDue := y.suspendDue, resumeDue := y.resumeDue
    partResetDue := y.partResetDue || y.partBusy }

/-- What a power-on reset leaves: an open debug session ended, everything of R207 cleared, every brake asserted; the life-cycle registers report the state sensed last until the ROM senses it anew (14 R465, 06 R188, R207, R399 of 12, 13 R424, 15 R493, 16 R500). `lost`: VAUX fell below its threshold. -/
def State.powerOn (s0 : State) (lost : Bool) : State :=
  let s := s0.endDebug
  let g := s.gov.relock (s.mon.present.getLsbD 23)
  let z := State.reset
  let m := { s.mon with env := 0, actions := none, detected := [], counted := 0, resetDue := false, present := if lost then 0 else s.mon.present }
  { z with
    pending := s.pending, now := s.now, fresh := s.fresh, out := s.out, otp := s.otp, store := s.store, life := s.life
    mil := s.mil.cleared
    dbg := { z.dbg with trstHigh := s.dbg.trstHigh }
    sys := { z.sys with serial := s.sys.serial }
    gov := { (if lost then g.fallen else { g with state := .active, dom := z.gov.dom }) with
      romPending := true, porstDone := true, coldStart := true, wokenAt := none }
    aonb := if lost then s.aonb.mainLost s.gov.vbat s.now else s.aonb
    mon := if lost && !s.gov.vbat then m.unpowered else m
    log := { s.log with wfault := false, hwlost := false, base := 0, advance := false }
    ports := s.ports.map fun x => x.cleared s.now [] }

/-- POWER_ON_RESET: PORST# was low for 10 µs, or, with PORST# high or its own reset made, VAUX fell below its threshold (log 15); or, with VAUX lost before, VAUX rises, and the AONB runs from it again (06 R206, R207, 12 R399, R403, 17 R519, R529, R531). -/
def execPowerOnReset (s : State) : Result :=
  if s.gov.vaux then .next (s.powerOn (s.gov.vauxLost s.now))
  else
    let t := s.powerOn false
    .next { t with gov := t.gov.risen, aonb := { t.aonb with backup := false } }

/-- PORST_FALLS: PORST# falls, so it had risen, and every release latch is cleared (06 R188). A port whose latch was set keeps its state, since no reset has been made yet (DESIGN CHOICE log 102). -/
def execPorstFalls (s : State) : Result :=
  let t := s.mapPorts fun _ x => x.assertBrake s.now
  .next { t with gov := { t.gov with porstLow := true, porstAt := s.now, porstDone := false } }

/-- After a power-on reset every supply but VBAT has come into range, and with VDDLH the REFCLK that its receiver had lost, and after a loss of VAUX VDD, VDDM and REFCLK too (17, power-up; log 32). `absent`: the monitor finds no REFCLK. -/
def Gov.supplied (g : Gov) (absent : Bool) : Gov :=
  let h := if g.vaux then g else g.risen
  { h with porstDone := false, refclk := h.refclk || (!h.vddlh && !absent), vddl := true, vddlh := true, vioHome := true }

/-- PORST# rises: BRAKE_MIN is measured from here (06 R191). -/
def Port.brakeFrom (x : Port) (now : Nat) : Port := { x with brakeAt := now, brakeMinDone := false }

/-- ROM_START: the ROM runs after a power-on or device reset, with PORST# high; not before REFCLK has been present. `env` says how long PORST# had been high by then, from where BRAKE_MIN is measured. The PKE domain powers up with it after a power-on reset, and after a loss of VDD, which feeds it (17 R528, R531) (06 R191, R560, 09 R296, 16 R504, 17 R523, R524). A RING that waited for the miller is accepted once it runs (13 R406, R409). -/
def execRomStart (env : RomEnv) (s : State) : Result :=
  let first := s.gov.coldStart || !s.gov.vaux
  let g := if first then s.gov.supplied (s.mon.present.getLsbD 22) else s.gov
  if !s.gov.romPending || !g.refclk || !g.vdd || !g.vddm then .next s
  else
    let lost := s.mon.present.getLsbD 23
    let t := { s with
      gov := { g with
        romPending := false, coldStart := false, vddLost := false, porstLow := false
        corePll := !lost, pkePll := !lost, millerPll := !lost }
      aonb := { s.aonb with backup := false }
      sys := { s.sys with stage := .rom }
      ports := if first then s.ports.map (Port.brakeFrom · (s.now - env.sinceRise)) else s.ports
      pke := if first || s.gov.vddLost then s.pke.powerUp else s.pke }
    .next (((if first && !g.vbat then t.event 867 else t).romBoot env).acceptAll)

/-! ### Device reset (06 R207, 11 R364, 12 R399, R403) -/

/-- The TERM pools are emptied and their credits returned; tags and requests go (11 R364, 06 R207). -/
def LinkPort.devReset (x : LinkPort) : LinkPort :=
  let back := fun fs : List Frame => BitVec.ofNat 8 ((fs.map Frame.cost).sum)
  { x with
    g := (x.g.set 0 (x.g[0] + back x.term0)).set 2 (x.g[2] + back x.term1)
    creditDue := x.creditDue || !x.term0.isEmpty || !x.term1.isEmpty
    term0 := [], term1 := [], txq := [], serving := [] }

/-- Cause bit of a device reset (12 SYS_RESET_CAUSE). -/
def devCauseBit : DevCause → BitVec 7
  | .alarm => 2 | .command => 4 | .supply => 8

/-- What a device reset leaves of a port: the CONTAIN of R463 ends with it, those of alarms stay (14 R463, R470, 15 R483). -/
def Port.deviceReset (x : Port) (now : Nat) : Port := x.cleared now (x.containBy.filter (· < 64))

/-- The governor at a device reset: ACTIVE, and what the ROM needs is powered; a low VDD has taken the power of the PKE cores (09 R296, 12 GOV, 17 R523, R528). -/
def Gov.deviceReset (g : Gov) (cause : DevCause) (lost : Bool) : Gov :=
  { (g.relock lost).romDomains with
    state := .active, romPending := true, wokenAt := none
    vddLost := g.vddLost || (cause == .supply && (!g.vdd || g.vddm)) }

/-- A device reset (06 R207, 14 R459, R465). What the TAP drives and its instruction go to their reset values (DESIGN CHOICE log 104). -/
def State.deviceReset (s : State) (cause : DevCause) : State :=
  let a : State := { s with link := { s.link with
      la := s.link.la.devReset
      lb := s.link.lb.devReset
      cntEvtDrop := s.link.cntEvtDrop + BitVec.ofNat 32 s.evtWaiting } }
  let d := (a.evtDropped s.evtWaiting).endDebug
  { d with
    sys := { ({} : Sys) with serial := d.sys.serial, node := d.sys.node, ninth := d.sys.ninth, cause := devCauseBit cause }
    gov := (d.settle groupDomains).gov.deviceReset cause (d.mon.present.getLsbD 23)
    dbg := { d.dbg with level := 0, nonce := none, drive := 0, ir := 0x02 }
    mon := { d.mon with counted := 0, resetDue := false }
    evt := { ({} : Events) with epoch := (d.evt.epoch + 1) % 16, trace := d.evt.trace }
    log := { d.log with wfault := false, hwlost := false, base := 0, advance := false }
    rel := {}, pond := {}, fab := d.freshFabric, hop := {}, idn := {}, drbg := {}, pke := {}, dge := {}, mbx := {}
    fan := { ({} : Fan) with due := true }
    mil := d.mil.cleared
    spdm := d.resetAllTr.spdm
    ports := d.ports.map (Port.deviceReset · d.now) }

/-- A device reset begins: alarms detected by then are logged and counted first, and a RESET of the combiner waits for every record to be committed (15 R485, R486). -/
def State.resetDevice (s : State) (cause : DevCause) : State :=
  let t := s.settleAlarms
  (if t.mon.resetDue then t.commitAll else t).deviceReset cause

/-- DEVICE_RESET_BEGIN: an alarm, a command or a VDD or VDDM drop resets the device; the ROM's start follows as ROM_START (06 R188, R206, R207, 15 R485, R486, 17 R531). -/
def execDeviceResetBegin (cause : DevCause) (s : State) : Result :=
  if s.aonb.backup then .next s else .next (s.resetDevice cause)

/-! ### Miller restart (04 R118, 06 R209 to R212, 07 R256, 08 R261, R266, 09 R307, 10 R319, 11 R381, 13 R417, R432) -/

/-- What a miller restart does to a port. -/
def Port.millerRestart (x : Port) : Port :=
  if x.state = .arming ∨ x.state = .measuring then
    { x with state := .waiting, begun := false, armMap := none, armPending := false, option := none, engineWait := false, halfRate := false,
             captures := [], filled := 0, loaded := 0, badRegion := none, substDue := none, substReq := none }
  else x

/-- A port in RECOVERING goes back to the start of the option in progress (07 R256). -/
def State.resumeOption (s : State) (p : PortId) : State :=
  let x := s.port p
  match x.option with
  | none => s.nextOption p 0
  | some k =>
    let t := { s with pond := s.pond.freePort p }
    match x.source with
    | .adapter =>
      match t.recoveryCfg p, t.slotMap p (t.lostSlot p) with
      | some c, some m =>
        t.requestSubst p k c m
      | _, _ => t.nextOption p k
    | src => t.beginOption p k src (match src with | .slot _ => true | _ => false)

/-- The ports at a miller restart. -/
def State.restartPorts (s : State) : State :=
  allPorts.foldl (fun (t : State) p =>
    match (t.port p).state with
    | .arming | .measuring => { (t.modPort p Port.millerRestart) with pond := t.pond.freePort p }
    | .recovering => t.resumeOption p
    | _ => t) s

/-- Cause bit of a miller restart, in SYS_RESET_CAUSE and the event's data (12 SYS_RESET_CAUSE, 16 R506). -/
def restartBit : RestartCause → BitVec 7
  | .command => 0x10 | .watchdog => 0x20 | .alarm => 0x40

/-- A command whose answer brings a device reset: DEVICE_RESET and LC_REPAIR (13 R427, 14 R452). -/
def cmdResets (c : Nat) : Bool := c == 0x010B || c == 0x030F

/-- The request that is executing, up to its response, is not resumed: it is answered INTERRUPTED, with how far it had got, and a device reset that its own answer would have brought is not made; MILLER_RESTART and FW_ACTIVATE keep the answer of R427. R432 does not say whether its exception holds for one of these two that waits when a restart of another cause comes before it has run: it is then answered INTERRUPTED like any other command (13 R427, R432, 14 R452; log 38; DESIGN CHOICE log 118). -/
def State.interruptHead (s : State) : State :=
  match s.mbx.order with
  | [] => s
  | m :: _ =>
    let x := s.mbox m
    match x.accepted with
    | some r =>
      if r.result.isSome && (r.cmd == 0x010C || r.cmd == 0x0308) then s
      else
        let t := (s.setMbox m { x with accepted := some { r with result := some { status := 0x20, detail := s.gotTo r, body := [] } } }).skipFree 1
        { t with mbx := { t.mbx with resetDue := t.mbx.resetDue && !cmdResets r.cmd } }
    | none => s

/-- The parts of the control half that a restart clears. -/
def State.restartClear (s : State) (cause : RestartCause) : State :=
  let a := (s.freeAllContexts).resetAllTr
  let k := a.pke.abortAll a.now
  { a with
    mil := { a.mil with running := none, ram := [], dbgHalt := false, loaded := false, asleep := false, restarts := a.now :: recent a.now sixtySeconds a.mil.restarts }
    pke := { k with sealedKey := none, core0 := { k.core0 with mem := [], work := [] }, core1 := { k.core1 with mem := [], work := [] } }
    mbx := { a.mbx with nonce := none }
    dbg := { a.dbg with nonce := none }
    idn := { a.idn with certs := [], aliasPub := none }
    fan := { a.fan with window := false, cands := [], offered := a.fan.offered && !a.fan.window, due := a.fan.due || a.fan.window,
                        leasePaused := if a.fan.owner.isSome then some (a.fan.leaseEnd - a.now) else none }
    sys := { a.sys with cause := a.sys.cause ||| restartBit cause, stage := .rom } }

/-- The lease goes on with the time it had left once the miller runs (06 R210). -/
def State.resumeLease (s : State) : State :=
  match s.fan.leasePaused with
  | some left => if s.serves then { s with fan := { s.fan with leaseEnd := s.now + left, leasePaused := none } } else s
  | none => s

/-- A miller restart; `own` for the command that asked for it, which is not interrupted. None takes place while the miller is stopped or halted (06 R211, 15 R481). -/
def State.millerRestart (s : State) (cause : RestartCause) (env : RomEnv) (own : Bool) (expired : Bool := false) : State :=
  if !s.millerUp then s
  else
    let e := (if own then s else s.interruptHead).event 934 (leBytes 1 (restartBit cause).toNat)
    let a := if expired then e.event 935 else e
    let b := (a.restartClear cause).restartPorts
    let c := if b.drbg.failed then b else
      if env.entropyOk then { b with drbg := { b.drbg with requests := 0 } }
      else ({ b with drbg := { b.drbg with failed := true } }).event 943
    ((c.bootFirmware env true).resumeLease).acceptAll

/-- A watchdog expiry or an invalid-state alarm: the fifth restart within 60 s holds the miller stopped (06 R212). The one that is not made still ends what the miller was doing: the request it executes, its lease timer and its part of the control half (DESIGN CHOICE log 107). `expired`: the watchdog's event follows the restart's own. -/
def State.limitedRestart (s : State) (cause : RestartCause) (env : RomEnv) (expired : Bool := false) : State :=
  if !s.millerUp then s
  else if 4 ≤ (recent s.now sixtySeconds s.mil.restarts).length then
    let t := (s.interruptHead).restartClear cause
    let u := (({ t with sys := { t.sys with cause := s.sys.cause } }).restartPorts).millerStops 1 0x05
    if expired then u.event 935 else u
  else s.millerRestart cause env false expired

/-- MILLER_RESTART_BEGIN: a restart for a cause of R206 (04 R118, 06 R206, R207, R209 to R212). -/
def execMillerRestartBegin (cause : RestartCause) (env : RomEnv) (s : State) : Result :=
  match cause with
  | .command => .next (s.millerRestart .command env false)
  | c => .next (s.limitedRestart c env)

/-- MILLER_WATCHDOG_EXPIRY: firmware has not refreshed the watchdog for 500 ms (06 R206, R212, 16 R498). -/
def execMillerWatchdogExpiry (env : RomEnv) (s : State) : Result := .next (s.limitedRestart .watchdog env true)

/-! ### The miller's start (01 R21, 04 R117, 06 R199, 13 R431 to R436, 15 R494) -/

/-- A read of a settings item from the home port, which fails while VIO_HOME is out (13 R433, 17 R531). -/
def State.homeRead (s : State) (i : Item) : Option (List Byte) := if s.gov.vioHome then i.read else none

/-- Raise SETTINGS_UNREADABLE for an item with no valid copy, or whose valid copy has a higher FORMAT or breaks its own layout (13 R433, R435). -/
def State.checkItem (s : State) (i : Item) (ok : List Byte → Bool) : State :=
  if !i.stored || ((s.homeRead i).map ok).getD false then s else s.event 941

/-- The header of a stored map is that of FORMAT 0x0001 (03 R86, 13 R435). -/
def mapHeaderOk (m : List Byte) : Bool := field m 0 4 == 0x4D4D4E59 && field m 4 2 == 1 && field m 6 2 == 0x80

/-- A slot record keeps the layout of R220. -/
def slotBytesOk (bs : List Byte) : Bool :=
  bs.length == 16 && decide (field bs 0 1 ≤ 2 ∧ field bs 1 1 ≤ 1 ∧ field bs 3 1 < 16 ∧ field bs 8 1 ≤ 3) && zeros bs 11 5

/-- Every unreadable item is reported (13 R433, R435). -/
def State.checkStore (s : State) : State :=
  let a := ((s.checkItem s.store.device fun bs => (readDev bs).isSome).checkItem s.store.tamper fun bs => tamperCfgOk bs && tamperFloorsOk bs).checkItem
    s.store.graph graphFieldsOk
  allPorts.foldl (fun (t : State) p =>
    let x := s.pstore p
    let v := [x.recA, x.recB, x.recG].foldl (fun u i => u.checkItem i slotBytesOk) t
    [x.mapA, x.mapB, x.mapG].foldl (fun u i => u.checkItem i mapHeaderOk)
      ((v.checkItem x.config fun bs => (readCfg bs p).isSome).checkItem x.sluice slHeaderOk)) a

/-- The stored graph goes into the sequencer; one that is unreadable withholds every port, as one with a field fault does (06 R198, R199, 13 R433; log 65). -/
def State.loadGraph (s : State) : State :=
  if !s.store.graph.stored then { s with rel := {} }
  else
    let bs := (s.homeRead s.store.graph).getD []
    if !graphFieldsOk bs then
      ({ s with rel := { records := Vector.replicate 32 {}, withheld := BitVec.allOnes 32 } }).event 940
        ([1, 0, 0, 0] ++ leBytes 4 0xFFFFFFFF)
    else
      let bad := cyclePorts (relRecs bs)
      let t := { s with rel := { records := relRecs bs, withheld := bad } }
      if bad = 0 then t else t.event 940 ([0, 0, 0, 0] ++ leBytes 4 bad.toNat)

/-- Two records name the same edges (06 R197). -/
def RelRec.sameEdges (a b : RelRec) : Bool := a.pred == b.pred && a.hrdy == b.hrdy && a.skip == b.skip

/-- BRAKE_MIN and SETTLE are judged by the records just loaded: a time that the new record has not seen elapse runs on; where the record names other edges than the old one did, SETTLE counts anew, from the sequencer's next evaluation (06 R191, R199, R201; log 100). -/
def State.recheckTimers (s : State) (old : Release) : State :=
  s.mapPorts fun p x =>
    let r := s.rel.records[p]
    let same := r.sameEdges old.records[p]
    { x with
      brakeMinDone := x.brakeMinDone && decide (x.brakeAt + r.brakeMinMs * ms ≤ s.now)
      edgesAt := if same then x.edgesAt else none
      settleDone := same && x.settleDone && (match x.edgesAt with | some t => decide (t + r.settleMs * ms ≤ s.now) | none => false) }

/-- The stored tamper configuration goes into the monitors (15 R493, R494). -/
def State.loadTamper (s : State) : State :=
  match s.homeRead s.store.tamper with
  | some bs => { s with mon := if tamperCfgOk bs && tamperFloorsOk bs then s.mon.load bs else s.mon.defaults }
  | none => { s with mon := s.mon.defaults }

/-- MILLER_START_ARMING: the settings store and the graph are loaded, ports not enabled are DISABLED, and a window that waited opens; PORT_ARM_BEGIN follows for each port. While VIO_HOME is out no item can be read, and each port goes to FAILED as it arms (17 R531) (01 R21, 04 R117, 06 R199, 11 R377, R381, 13 R431, R433 to R436, 15 R494). -/
def execMillerStartArming (s : State) : Result :=
  if !s.serves || s.mil.loaded then .next s
  else
    let a := (((s.stir).checkStore.loadGraph).recheckTimers s.rel).loadTamper
    let c := ((a.homeRead a.store.device).bind readDev).getD devDefault
    let b := { a with
      mil := { a.mil with loaded := true, authHybrid := c.authHybrid }
      pond := { a.pond with scrubMs := c.scrubMs }
      idn := { a.idn with cfgDigest := a.configDigest a.mil.reserve c.scrubMs } }
    let d := b.mapPorts fun p x =>
      match b.storedCfg p with
      | some (some y) => if x.state = .waiting ∧ !y.enable then { x with state := .disabled } else x
      | some none => x
      | none => if x.state = .waiting then { x with state := .disabled } else x
    .next (if d.fan.due then d.openWindow else d)

end Sys2Proof.Machine
end

