-- ==== Sys2Proof/Machine/Slots.lean ====
section
/-! DEFINITION. Slots between armings: the hopper's writes, standby measurement, substitution and repair (07 R227 to R238, R246 to R256). -/

namespace Sys2Proof.Machine

open Sys2Proof

/-! ### Where image bytes go, and what is erased first (07 R228, R229) -/

/-- Parts of the image in order: offset in the image, length, virtual address (07 R227, R228). -/
def layoutFrom : Nat → List (Nat × Nat) → List (Nat × Nat × Nat)
  | _, [] => []
  | o, (va, n) :: rest => (o, n, va) :: layoutFrom (o + n) rest

/-- The image layout of a map. -/
def MillMap.layout (m : MillMap) : List (Nat × Nat × Nat) :=
  layoutFrom 0 ((m.verified.map fun (_, r) => (r.start, r.len)) ++ m.streams.map fun (_, r) => (r.ltOffset, r.tableLen))

/-- Destination ranges of image bytes [off, off + n): virtual address, length and image offset. -/
def MillMap.dest (m : MillMap) (off n : Nat) : List (Nat × Nat × Nat) :=
  m.layout.filterMap fun (o, k, va) =>
    let lo := max o off
    let hi := min (o + k) (off + n)
    if lo < hi then some (va + (lo - o), hi - lo, lo) else none

/-- Two ranges meet. -/
def meets (a n b k : Nat) : Bool := !apart a n b k

/-- The largest erase type whose block holds an address and lies in verified or uncovered addresses (07 R229). -/
def eraseFor (part : Sfdp) (m : MillMap) (va : Nat) : Option EraseType :=
  (part.erases.filter fun t =>
    let sz := 2 ^ t.log2
    m.regions.all fun r => r.verified || apart (va / sz * sz) sz r.start r.len).foldl
      (fun acc t => match acc with | some u => if u.log2 < t.log2 then some t else some u | none => some t) none

/-- 4 KiB pages a range touches. -/
def pagesOf (va n : Nat) : List Nat :=
  (List.range ((va + n + 4095) / 4096 - va / 4096)).map fun j => (va / 4096 + j) * 4096

/-- Every byte to be written has an erase type (07 R229). -/
def eraseOk (part : Sfdp) (m : MillMap) : Bool :=
  m.layout.all fun (_, n, va) => (pagesOf va n).all fun a => (eraseFor part m a).isSome

/-- Erase blocks that a range of slot addresses needs, each with its opcode: those that hold bytes to be written (07 R229). Where no erase type fits, which IMAGE_BEGIN refuses and 07 R254 does not speak of, none (log 86). -/
def eraseBlocks (part : Sfdp) (m : MillMap) (va n : Nat) : List (Nat × Nat × Byte) :=
  ((pagesOf va n).flatMap fun a =>
    match eraseFor part m a with
    | some e =>
      let sz := 2 ^ e.log2
      (List.range ((4096 + sz - 1) / sz)).map fun j => (a / sz * sz + sz * j, sz, e.opcode)
    | none => []).eraseDups.filter fun (e, sz, _) => meets e sz va n

/-- Bytes cut where the part's pages end. -/
def pageCuts (page : Nat) : Nat → Nat → List Byte → List (Nat × List Byte)
  | 0, _, _ => []
  | fuel + 1, va, bs =>
    if bs.isEmpty then []
    else
      let n := page - va % page
      (va, bs.take n) :: pageCuts page fuel (va + n) (bs.drop n)

/-- A program or erase of the device's own touches blocks of the standby slot: their intake digests go (07 R225). -/
def State.touchIntake (s : State) (p : PortId) (i : SlotId) (va n : Nat) : State :=
  if i = s.standbySlot p then
    s.modPort p fun x => { x with intake := x.intake.filter fun b => !meets (4096 * b.block) 4096 va n }
  else s

/-- Erase the blocks of a slot that a range needs and that are not erased yet, and say which are erased now (07 R229, 02 R41, R556). -/
def State.eraseRange (p : PortId) (i : SlotId) (c : PortCfg) (part : Sfdp) (m : MillMap)
    (x : State × List (Nat × Nat)) (r : Nat × Nat) : State × List (Nat × Nat) :=
  (eraseBlocks part m r.1 r.2).foldl (fun (s, done) (e, sz, op) =>
    if done.contains (e, sz) then (s, done)
    else ((s.touchIntake p i e sz).devWrite p (c.cs i) op (c.base i + e) [], (e, sz) :: done)) x

/-- Program bytes into a slot, page by page (07 R228, 02 R41, R556). -/
def State.programRange (p : PortId) (i : SlotId) (c : PortCfg) (part : Sfdp) (s : State) (va : Nat) (bs : List Byte) : State :=
  (pageCuts part.page (bs.length + 1) va bs).foldl (fun s (a, d) =>
    (s.touchIntake p i a d.length).devWrite p (c.cs i) 0x02 (c.base i + a) d) s

/-! ### Hopper transfers (07 R227 to R232) -/

/-- Blocks of an image (07 R228). -/
def Transfer.blocks (t : Transfer) : Nat := (t.len + 4095) / 4096

/-- Length of block b. -/
def Transfer.blockLen (t : Transfer) (b : Nat) : Nat := min 4096 (t.len - 4096 * b)

/-- All bytes of block b have arrived. -/
def Transfer.arrived (t : Transfer) (b : Nat) : Bool :=
  decide (b < t.blocks) && (List.range (t.blockLen b)).all fun j => t.got.contains (4096 * b + j)

/-- The bitmap is complete. -/
def Transfer.whole (t : Transfer) : Bool := (List.range t.blocks).all t.complete.contains

/-- Image offsets of the missing blocks (07 R234). -/
def Transfer.missing (t : Transfer) : List Nat :=
  ((List.range t.blocks).filter fun b => !t.complete.contains b).map (4096 * ·)

/-- The image as received. -/
def Transfer.image (t : Transfer) : List Byte := memReads t.data 0 t.len

/-- Bytes in the hopper: received and not yet written (07 R231). -/
def Transfer.held (t : Transfer) : Nat := (t.got.filter fun o => !t.written.contains o).length

/-- Offsets of block b that were received and are not yet written, ascending. -/
def Transfer.unwritten (t : Transfer) (b : Nat) : List Nat :=
  ((List.range (t.blockLen b)).map (4096 * b + ·)).filter fun o => t.got.contains o && !t.written.contains o

/-- A block has arrived and its bit is not set. -/
def Transfer.awaits (t : Transfer) (b : Nat) : Bool := t.arrived b && !t.complete.contains b

/-- Runs of ascending offsets: start and length. -/
def runsOf : List Nat → List (Nat × Nat)
  | [] => []
  | o :: os =>
    match runsOf os with
    | (a, n) :: rest => if a = o + 1 then (o, n + 1) :: rest else (o, 1) :: (a, n) :: rest
    | [] => [(o, 1)]

/-- Take bulk bytes: refused beyond L, discarded where already received; how many were so counted (07 R228). -/
def Transfer.take (t : Transfer) : Nat → List Byte → Transfer × Nat
  | _, [] => (t, 0)
  | o, b :: bs =>
    if t.len ≤ o ∨ o ∈ t.got then
      let (u, n) := Transfer.take t (o + 1) bs
      (u, n + 1)
    else Transfer.take { t with data := memWrite t.data o b, got := o :: t.got } (o + 1) bs

/-- Bytes that a transfer holds, where there is one. -/
def heldBy (t : Option Transfer) : Nat := match t with | some t => t.held | none => 0

/-- The 2 MiB hopper has room: a suspended transfer holds none of it (07 R231). -/
def Hopper.room (h : Hopper) (n : Nat) : Bool := h.current.isNone || decide (heldBy h.current + n ≤ 2097152)

/-- The bulk counter (12 LNK_CNT_BULK_DROP). -/
def State.countBulk (s : State) (n : Nat) : State :=
  { s with link := { s.link with cntBulkDrop := s.link.cntBulkDrop + BitVec.ofNat 32 n } }

/-- R233 forbids the device's own writes to a slot now. -/
def State.writesForbidden (s : State) (p : PortId) (c : PortCfg) (i : SlotId) : Bool :=
  let x := s.port p
  match x.map with
  | some m => x.state == .service && !c.sharedWrite && c.cs i == x.activeCs && m.regions.any fun r => r.policy == 2 || r.policy == 4
  | none => false

/-- The device's programs and erases of a range of slot addresses reach it now, or wait for the brake (02 R556). -/
def State.writeReaches (s : State) (p : PortId) (c : PortCfg) (i : SlotId) (part : Sfdp) (m : MillMap) (va n : Nat) : Bool :=
  let at_ := fun op a => s.devReaches p (c.cs i) op (c.base i + a)
  at_ 0x02 va && at_ 0x02 (va + (n - 1)) && (eraseBlocks part m va n).all fun (e, sz, op) => at_ op e && at_ op (e + (sz - 1))

/-- Image ranges of block b not written yet. -/
def Transfer.runs (t : Transfer) (m : MillMap) (b : Nat) : List (Nat × Nat × Nat) :=
  (runsOf (t.unwritten b)).flatMap fun (o, n) => m.dest o n

/-- A block's writes wait: R233 holds them back, they lie where R556 lets none go before the brake asserts, or no configuration or part is there to write by; a firmware image's wait for VIO_HOME (02 R556, 07 R228, R233, 17 R531). -/
def State.blockHeld (s : State) (t : Transfer) (b : Nat) : Bool :=
  match t.kind with
  | .slot p i =>
    match t.map, s.cfgInForce p, (s.port p).partOn (s.slot p i).cs with
    | some m, some c, some part => s.writesForbidden p c i || !(t.runs m b).all fun (va, n, _) => s.writeReaches p c i part m va n
    | _, _, _ => true
  | .firmware => !s.gov.vioHome
  | .substitute _ => false

/-- Some byte that the transfer holds cannot be written now (07 R231, R233). -/
def State.writesHeld (s : State) (t : Transfer) : Bool :=
  (List.range t.blocks).any fun b => !(t.unwritten b).isEmpty && s.blockHeld t b

/-- The device's program or erase that a port's chip select is executing: one stands from the arrival of an image block of the open transfer until the part has reported it complete, unless it waits; the deadline timers of that chip select follow (02 R42, 04 R137, 07 R228, R233). -/
def State.syncDev (s : State) : State :=
  let op : Option (PortId × Bool) := match s.hop.current with
    | some t =>
      match t.kind with
      | .slot p i =>
        match s.cfgInForce p with
        | some c => if (List.range t.blocks).any fun b => t.awaits b && !s.blockHeld t b then some (p, c.cs i) else none
        | none => none
      | _ => none
    | none => none
  s.mapPorts fun p x =>
    let d := match op with | some (q, cs) => if q = p then some cs else none | none => none
    if x.devOp = d then x else { x with devOp := d }.retime s.now

/-- Bytes of a transfer arrive (07 R228, 11 R355): none when no transfer has that ID. -/
def State.bulkIn (s : State) (id off : Nat) (bs : List Byte) : Option State :=
  match s.hop.current with
  | some t =>
    if t.id = id then
      let (u, n) := t.take off bs
      some ((({ s with hop := { s.hop with current := some u } }).countBulk n).syncDev)
    else none
  | none => none

/-- End the open transfer; a suspended one goes on (07 R230). -/
def State.endTransfer (s : State) : State :=
  ({ s with hop := { s.hop with current := s.hop.suspended, suspended := none } }).syncDev

/-- Write the received and unwritten bytes of image blocks to their slot: erases first, then programs (07 R228, R229, R231). -/
def State.writeBlocks (s : State) (p : PortId) (i : SlotId) (t : Transfer) (bs : List Nat) : State × Transfer :=
  match t.map, s.cfgInForce p, (s.port p).partOn (s.slot p i).cs with
  | some m, some c, some part =>
    let runs := bs.flatMap (t.runs m)
    let (u, erased) := (runs.map fun (va, n, _) => (va, n)).foldl (State.eraseRange p i c part m) (s, t.erased)
    (runs.foldl (fun u (va, n, o) => u.programRange p i c part va (memReads t.data o n)) u,
     { t with erased, written := t.written ++ bs.flatMap t.unwritten })
  | _, _, _ => (s, t)

/-- Erase on the home port the blocks of a firmware slot that a range needs and that are not erased yet, with the part's largest erase type (13 R439). -/
def State.homeErase (one : Bool) (x : State × List (Nat × Nat)) (r : Nat × Nat) : State × List (Nat × Nat) :=
  let e := max 1 Config.homeErase
  (List.range ((r.1 % e + r.2 + e - 1) / e)).foldl (fun (s, done) i =>
    let o := (r.1 / e + i) * e
    if done.contains (o, e) then (s, done) else (s.emit (.homeErase one o), (o, e) :: done)) x

/-- Write the received and unwritten bytes of firmware image blocks to the slot that is not running, from offset 0: erases first, then programs (13 R439). -/
def State.writeHome (s : State) (t : Transfer) (bs : List Nat) : State × Transfer :=
  let one := !(s.mil.running.getD false)
  let runs := bs.flatMap fun b => runsOf (t.unwritten b)
  let (u, erased) := runs.foldl (State.homeErase one) (s, t.erased)
  (runs.foldl (fun u (o, n) => u.emit (.homeProgram one o (memReads t.data o n))) u,
   { t with erased, written := t.written ++ bs.flatMap t.unwritten })

/-- Image blocks reach their destination: a slot, the home port for a firmware image, or for a substitute the block's own memory (07 R231, R251, 13 R439). -/
def State.writeOut (s : State) (t : Transfer) (bs : List Nat) : State × Transfer :=
  match t.kind with
  | .slot p i => s.writeBlocks p i t bs
  | .firmware => s.writeHome t bs
  | .substitute _ => (s, { t with written := t.written ++ bs.flatMap t.unwritten })

/-- Suspend the open transfer: every byte it holds is written first, and the blocks that were whole have their bits set (07 R230, R231). -/
def State.suspendTransfer (s : State) : State :=
  match s.hop.current with
  | some t =>
    let (u, v) := s.writeOut t (List.range t.blocks)
    ({ u with hop := { u.hop with
        suspended := some { v with complete := v.complete ++ (List.range t.blocks).filter t.awaits }
        current := none } }).syncDev
  | none => { s with hop := { s.hop with suspended := none, current := none } }

/-- HOPPER_PROGRAM_COMPLETE: an image block is programmed and confirmed, and its bitmap bit is set (07 R228, R229, R231, R233, 13 R439). A block whose writes wait has no bit set. -/
def execHopperProgramComplete (b : Nat) (s : State) : Result := s.powered <|
  match s.hop.current with
  | none => .next s
  | some t =>
    if t.awaits b && !s.blockHeld t b then
      let (u, v) := s.writeOut t [b]
      .next ({ u with hop := { u.hop with current := some { v with complete := v.complete ++ [b] } } }).syncDev
    else .next s

/-! ### Standby measurement and preload (07 R235 to R238) -/

/-- Intake digest recorded for the block at a slot offset (07 R225). -/
def Port.intakeDigest (x : Port) (va : Nat) : Option D256 :=
  (x.intake.find? fun b => b.block == va / 4096).bind (·.digest)

/-- Content of a slot at a virtual address of a verified region. -/
def contentAt (m : MillMap) (img : SlotImage) (va : Nat) : List Byte :=
  match (m.verified.zip img.regions).find? fun ((_, r), _) => r.holds va with
  | some ((_, r), c) => slice c (va - r.start) 4096
  | none => List.replicate 4096 0

/-- Preload a slot's resident granules into HELD granules; none when too few are FREE (07 R237). -/
def Pond.preload (p : PortId) (i : SlotId) (m : MillMap) (img : SlotImage) : Pond → Nat → List (Nat × Nat) → Option Pond
  | q, _, [] => some q
  | q, k, (r, va) :: rest =>
    match q.takeFree p k with
    | none => none
    | some n =>
      let data := contentAt m img va
      Pond.preload p i m img (q.put n
        { state := .held, hold := some (.preload p i), owner := none, region := r, va, data,
          digest := some (leafDigest data), fromReserve := false }) (k + 1) rest

/-- The standby measurement ends: intake extents return (07 R226). -/
def State.endMeasurement (s : State) (p : PortId) (i : SlotId) : State :=
  if i = s.standbySlot p then
    let t := s.modPort p fun x => { x with intake := [], intakeOff := false }
    { t with pond := t.pond.freeIntake p }
  else s

/-- A slot becomes READY, standby or golden, with its preload when PRELOAD is set and the granules suffice (07 R235, R237, 16 R503, R506). -/
def State.slotReady (s : State) (p : PortId) (i : SlotId) (c : PortCfg) (m : MillMap) (img : SlotImage) : State :=
  let t := s.modSlot p i fun r => { r with state := .ready, failCode := 0, failRegion := 0xFF }
  let u :=
    if c.preload && i != .g then
      match Pond.preload p i m img t.pond 0 m.granules with
      | some q => { ((t.settle storeDomains).modSlot p i fun r => { r with preloaded := true }) with pond := q }
      | none => t
    else t
  u.slotEvent p 14 (bit (i == .g)) i

/-- The intake digests that stand for a slot (07 R225, R226). -/
def State.intakeFor (s : State) (p : PortId) (i : SlotId) : Nat → Option D256 :=
  if i = s.standbySlot p && !(s.port p).intakeOff then (s.port p).intakeDigest else fun _ => none

/-- The outcome of R235's steps for a slot's content. -/
def State.measureSlot (s : State) (p : PortId) (i : SlotId) (m : MillMap) (img : SlotImage) : Option (Nat × Nat) :=
  match checkContent m img (s.intakeFor p i) with
  | some f => some f
  | none =>
    if (s.slot p i).hopperImage && Config.sha384 (imageOf img) != m.imageDigest then some (0x11, 0xFF) else none

/-- Array reads of the device's own over ranges of a slot; none where they wait for the brake (02 R556). -/
def State.slotReads (s : State) (p : PortId) (c : PortCfg) (i : SlotId) (ranges : List (Nat × Nat)) : Option State :=
  ranges.foldlM (fun s (va, n) => s.devRead p (c.cs i) (c.base i + va) n false) s

/-- What a measurement reads of a slot: each stream region's table and content, and the resident granules without an intake digest; the image once more where HOPPER_IMAGE is set (07 R235). -/
def measuredRanges (m : MillMap) (known : Nat → Option D256) (image : Bool) : List (Nat × Nat) :=
  (m.streams.flatMap fun (_, r) => [(r.ltOffset, r.tableLen), (r.start, r.len)])
    ++ ((m.granules.map (·.2)).filter fun va => (known va).isNone).map (·, 4096)
    ++ (if image then m.layout.map fun (_, n, va) => (va, n) else [])

/-- Hash blocks of such a measurement (04 R148): leaves and granules, the nodes of the roots, and the image. -/
def measuredBlocks (m : MillMap) (known : Nat → Option D256) (image : Bool) : Nat :=
  (m.streams.map fun (_, r) => r.leafCount * hashBlocks 65537 + rootBlocks r.leafCount).sum
    + ((m.granules.map (·.2)).filter fun va => (known va).isNone).length * hashBlocks 4097
    + (m.regions.map fun r => if r.resident then rootBlocks r.leafCount else 0).sum
    + (if image then hashBlocks m.imageLen else 0)

/-- STANDBY_MEASUREMENT: a COMMITTED slot is measured to its end; the change waits for the write of its record, and the miller wakes for it (03 R99, 07 R220, R221, R226, R235 to R237). `img` is what the slot holds, with the engine's outcome for its map. -/
def execStandbyMeasurement (p : PortId) (i : SlotId) (img : SlotProbe) (s0 : State) : Result :=
  let s := s0.stir
  let st := (s.port p).state
  if (s.slot p i).state != .committed || !s.millerRuns || !(st == .service || st == .substitute || st == .recovering) then .next s0
  else
    let ends := fun (t : State) => Host.Outcome.next (if s.stores img.settingsOk then t else s0.slotWriteFails p i img.settingsOk)
    match s.cfgInForce p with
    | none => .next s0
    | some c =>
      let v := s.verifySlotMap p i c (s.engines img.engineFault)
      let h := s.storedHash p i v.1
      match v with
      | (8, _) => .next s0
      | (0, some m) =>
        match h.slotReads p c i (measuredRanges m (s.intakeFor p i) (s.slot p i).hopperImage) with
        | none => .next s0
        | some r =>
          let s1 := r.hashWork 2 (.port p) (measuredBlocks m (s.intakeFor p i) (s.slot p i).hopperImage)
          match s.measureSlot p i m img.image with
          | none => ends ((s1.endMeasurement p i).slotReady p i c m img.image)
          | some (code, region) => ends (((s1.endMeasurement p i).failSlot p i code region).slotEvent p 16 0 i)
      | (code, _) => ends (((h.endMeasurement p i).failSlot p i code 0xFF).slotEvent p 16 0 i)

/-! ### Substitution (07 R246 to R253) -/

/-- A substitute's granules take their content and become VALID together (07 R249). -/
def Pond.fillSubst (q : Pond) (p : PortId) (m : MillMap) (img : SlotImage) : Pond :=
  q.modGranules fun g => if g.ownedBy p then g.fill (contentAt m img g.va) .valid else g

/-- The substitute is measured: the port enters MEASURED (04 R117, 06 R203). -/
def State.substMeasured (s : State) (p : PortId) (m : MillMap) (img : SlotImage) : State :=
  ({ s with pond := s.pond.fillSubst p m img }).modPort p fun x =>
    { x.enterMeasured with map := some m, armMap := none, armPending := false, begun := false }

/-- An adapter's substitute as the hopper received it, when every block has arrived (07 R251). -/
def State.adapterImage (s : State) (p : PortId) (m : MillMap) : Option (Bool × SlotImage) :=
  match s.hop.current with
  | some t =>
    if t.kind = .substitute p && t.whole then
      some (decide (Config.sha384 t.image = m.imageDigest), splitImage m t.image)
    else none
  | none => none

/-- SUBSTITUTE_FILL_DONE: every region of a substitute is checked, once the port's captures are made and while no alarm's CONTAIN holds it (05 R167, 15 R482, 03 R96, R99, 04 R117, 07 R249, R251). `img` is what the golden slot holds. An adapter's substitute whose root or leaf mismatches is reported by ARM_FAIL with its region, since no slot event is its own (DESIGN CHOICE log 88). A match takes the port to MEASURED in hardware; what fails is the miller's to act on, which wakes for it (04 R117, 17 R519). -/
def execSubstituteFillDone (p : PortId) (img : SlotImage) (s : State) : Result := s.powered <|
  let x := s.port p
  match x.state, x.source, x.armMap with
  | .measuring, .golden, some m =>
    if !(s.armFree p && x.captured && s.stores true) then .next s
    else
      let s1 := match x.cfg with
        | some c => ((s.slotReads p c .g (measuredRanges m (fun _ => none) false)).getD s).hashWork 2 (.port p) (measuredBlocks m (fun _ => none) false)
        | none => s
      match checkContent m img fun _ => none with
      | none => .next (s1.substMeasured p m img)
      | some (code, region) => .next (if s1.stir.millerRuns then s1.stir.armingFails p code region else s)
  | .measuring, .adapter, some m =>
    match (if s.armFree p && x.captured then s.adapterImage p m else none) with
    | none => .next s
    | some (false, _) => .next (if s.stir.millerRuns then s.stir.endTransfer.armingFails p 0x11 0xFF else s)
    | some (true, data) =>
      let u := s.endTransfer.hashWork 2 (.port p) (measuredBlocks m (fun _ => none) true)
      match checkContent m data fun _ => none with
      | none => .next (u.substMeasured p m data)
      | some (code, region) => .next (if s.stir.millerRuns then (u.stir.armFail p 8 0 region).armingFails p code region else s)
  | _, _, _ => .next s

/-- The open transfer is a substitute of this port. -/
def State.substTransfer (s : State) (p : PortId) : Bool :=
  match s.hop.current with | some t => t.kind == .substitute p | none => false

/-- SUBST_TMO_EXPIRY: an adapter substitution took too long, and the miller, which its timer wakes, tries the next option (04 R117, 07 R246, R251, 17 R519). -/
def execSubstTmoExpiry (p : PortId) (s0 : State) : Result := s0.powered <|
  let s := s0.stir
  let x := s.port p
  match (if s.millerRuns then x.substDue else none) with
  | none => .next s0
  | some due =>
    let t := s.upTo due
    let u := if t.substTransfer p then t.endTransfer else t
    .next ((u.slotEvent p 16 2 (u.lostSlot p)).nextOption p (x.option.getD 3))

/-! ### Repair (07 R254 to R256) -/

/-- A repair attempt fails; the third raises repair-failed (07 R220, R255). -/
def State.repairFails (s : State) (p : PortId) (i : SlotId) (code region : Nat) : State :=
  let n := (s.slot p i).tries + 1
  let t := s.modSlot p i fun r =>
    { r with state := .retired, tries := n, failCode := code, failRegion := region, repairPending := r.repairPending && decide (n < 3) }
  if 3 ≤ n then t.slotEvent p 16 3 i else t

/-- A repair attempt passes (07 R221, R255). Its measurement makes no preload, though R237 has a measurement make one where PRELOAD is set: R255 names what a repair does, and a preload is not in it (DESIGN CHOICE log 121). -/
def State.repairPasses (s : State) (p : PortId) (i : SlotId) (c : PortCfg) : State :=
  let back := (s.port p).state == .substitute && c.autoReturn
  (s.modSlot p i fun r =>
    { r with state := .ready, repairPending := false, failCode := 0, failRegion := 0xFF
             switchPending := r.switchPending || back, switchSetAt := if back then s.switchOrder p else r.switchSetAt }).slotEvent p 15 1 i

/-- The port serves the region from the millpond: every verified region of a substitute, the resident ones of a slot (07 R249, R252, 02 R42). -/
def Port.fromPond (x : Port) (r : Region) : Bool := r.resident || (match x.source with | .slot _ => false | _ => true)

/-- Content that a repair copies, region by region: from the millpond, else from the active slot (07 R254). -/
def State.repairContent (s : State) (p : PortId) (m : MillMap) (source : SlotImage) : List (Nat × Region × List Byte) :=
  m.verified.map fun (k, r) =>
    (k, r, if (s.port p).fromPond r then s.pond.content p r else slice (regionContent source m k) 0 r.len)

/-- The first leaf read from the active slot that differs from its tree-store entry (07 R254). -/
def State.repairBadLeaf (s : State) (p : PortId) (content : List (Nat × Region × List Byte)) : Option (Nat × Nat) :=
  content.findSome? fun (k, r, c) =>
    if (s.port p).fromPond r then none
    else ((leavesOf r c).zipIdx.find? fun (d, l) => s.pond.leafEntry p k l != some d).map fun (_, l) => (k, l)

/-- The reads of the active slot's stream leaves; none where they wait for the brake (07 R254, 02 R556). -/
def State.repairReads (s : State) (p : PortId) (m : MillMap) : Option State :=
  let x := s.port p
  (m.streams.filter fun (_, r) => !x.fromPond r).foldlM (fun s (_, r) =>
    (s.devRead p x.activeCs (x.activeBase + r.start) r.len false).map fun t =>
      t.hashWork 2 (.port p) (r.leafCount * hashBlocks 65537)) s

/-- Steps 1 and 2 of a repair: the slot is erased as R229 sets out, then its content and its leaf tables are programmed (07 R255). -/
def State.rewriteSlot (s : State) (p : PortId) (i : SlotId) (c : PortCfg) (m : MillMap) (content : List (Nat × Region × List Byte)) : State :=
  match (s.port p).partOn (c.cs i) with
  | some part =>
    let tables := content.filterMap fun (_, r, d) => if r.stream then some (r.ltOffset, (leavesOf r d).flatMap digestBytes) else none
    let writes := (content.map fun (_, r, d) => (r.start, d)) ++ tables
    let (u, _) := (writes.map fun (va, d) => (va, d.length)).foldl (State.eraseRange p i c part m) (s, [])
    writes.foldl (fun u (va, d) => u.programRange p i c part va d) u
  | none => s

/-- Step 3 of a repair: the slot is measured as R235 sets out, from what it holds now (07 R255). -/
def State.repairMeasure (s0 : State) (p : PortId) (i : SlotId) (c : PortCfg) (img : SlotImage) (fault : Bool) : State :=
  let v := s0.verifySlotMap p i c (s0.engines fault)
  let s := s0.storedHash p i v.1
  match v with
  | (8, _) => s
  | (0, some m) =>
    let r := s.slot p i
    let t := ((s.slotReads p c i (measuredRanges m (s.intakeFor p i) r.hopperImage)).getD s).hashWork 2 (.port p)
      (measuredBlocks m (s.intakeFor p i) r.hopperImage)
    match s.measureSlot p i m img with
    | none => t.repairPasses p i c
    | some (code, region) => t.repairFails p i code region
  | (code, _) => s.repairFails p i code 0xFF

/-- The port holds the content that a repair copies: it serves it, or is braked with it (07 R254, R256; log 87). -/
def Port.holdsContent (x : Port) (waiting : Bool) : Bool :=
  x.serving || (waiting && (x.state == .contained || x.state == .measured))

/-- A repair attempt of a slot may run: AUTO_REPAIR, a RETIRED slot with attempts left, the port in SERVICE or SUBSTITUTE, or braked where the repair was waiting (07 R254 to R256). -/
def State.repairDue (s : State) (p : PortId) (i : SlotId) (c : PortCfg) : Bool :=
  let x := s.port p
  let r := s.slot p i
  c.autoRepair && i != .g && (r.state == .retired || r.state == .repairing) && decide (r.tries < 3) && s.millerRuns
    && x.holdsContent r.repairPending

/-- Every program, erase and read of a repair reaches the slot now (02 R556). -/
def State.repairReaches (s : State) (p : PortId) (c : PortCfg) (i : SlotId) (m : MillMap) : Bool :=
  match (s.port p).partOn (c.cs i) with
  | some part => m.layout.all fun (_, n, va) => s.writeReaches p c i part m va n && s.readReaches p (c.cs i) (c.base i + va) n
  | none => true

/-- REPAIR_ATTEMPT: one attempt to rewrite a retired slot from what the port serves (07 R220, R229, R233, R235, R254 to R256). `source` is what the active slot's flash returns, `readback` what the slot holds after it was programmed. The attempt is one command (95), so no transaction of the host falls between its erases and programs, and it begins once all that it reads and writes is reached (02 R556); a leaf of the active slot that ends it counts as a failed attempt and leaves the slot's own FAIL_CODE (log 87). REPAIR_PENDING stays set while the port is braked, so that a failure starts the next attempt there. Each change waits for the write of the slot's record. -/
def execRepairAttempt (p : PortId) (i : SlotId) (source : SlotImage) (readback : SlotProbe) (stone : Fin 32) (s0 : State) : Result := s0.powered <|
  let s := s0.stir
  let x := s.port p
  match s.cfgInForce p, x.map with
  | some c, some m =>
    if !s.repairDue p i c || !s.repairReaches p c i m then .next s0
    else if !s.stores readback.settingsOk then .next (s0.slotWriteFails p i readback.settingsOk)
    else if s.writesForbidden p c i then .next (s.modSlot p i fun r => { r with repairPending := true })
    else
      match s.repairReads p m with
      | none => .next s0
      | some s1 =>
        let t := s1.modSlot p i fun r => { r with state := .repairing, repairPending := r.repairPending && x.brake }
        let u := t.setPstore p ((t.pstore p).setMap i (((t.pstore p).map i).write m.bytes))
        let content := u.repairContent p m source
        match u.repairBadLeaf p content with
        | some (k, l) =>
          let r := s.slot p i
          .next ((u.repairFails p i r.failCode r.failRegion).verdictFails p (.epoch k l) x.activeCs stone)
        | none => .next ((u.rewriteSlot p i c m content).repairMeasure p i c readback.image readback.engineFault)
  | _, _ => .next s0

end Sys2Proof.Machine
end

