-- ==== Sys2Proof/Machine/Pke.lean ====
section
/-! DEFINITION. The public-key engine: what an operation computes, its fault checks, its queue and the owner's window (09 R287 to R312). -/

namespace Sys2Proof.Machine

open Sys2Proof

/-! ### Fields of PKE_CMD (09 R311) -/

/-- OP. -/
def cmdOp (w : Word) : Nat := (w.extractLsb' 0 8).toNat
/-- ALG. -/
def cmdAlg (w : Word) : Nat := (w.extractLsb' 8 4).toNat
/-- KEY_SEL. -/
def cmdSealed (w : Word) : Bool := w.getLsbD 12
/-- NONCE. -/
def cmdNonce (w : Word) : Nat := (w.extractLsb' 16 2).toNat
/-- PAD. -/
def cmdPad (w : Word) : Nat := (w.extractLsb' 18 2).toNat
/-- HASH. -/
def cmdHash (w : Word) : Nat := (w.extractLsb' 20 2).toNat

/-- An OP and ALG pair of R287. -/
def pairOk (op alg : Nat) : Bool :=
  let curve := decide (1 ≤ alg ∧ alg ≤ 3)
  match op with
  | 1 => curve || alg == 6
  | 2 => curve || alg == 4 || alg == 5 || alg == 6
  | 3 | 4 | 5 => curve
  | _ => false

/-- Length of an RSA value (09 R310). -/
def rsaSize (alg : Nat) : Nat := if alg = 4 then 384 else 512

/-- Seed length: bitlen(n) + 64 bits in whole bytes (09 R288). -/
def seedSize (alg : Nat) : Nat := if alg = 1 then 40 else if alg = 2 then 56 else 74

/-- Operands of a request in the engine. -/
structure PkeArgs where
  cmd : Word
  len0 : Nat
  len1 : Nat
  arg : Nat
  mem : Memory

/-- Lengths, codes, modulus and exponent are ones R287 to R290 and R303 permit. -/
def PkeArgs.paramsOk (a : PkeArgs) : Bool :=
  let op := cmdOp a.cmd
  let alg := cmdAlg a.cmd
  pairOk op alg
    && (if decide (alg ≤ 3) then
          (op != 1 && op != 2) || ((a.len0 == 32 || a.len0 == 48 || a.len0 == 64) && (op != 1 || decide (cmdNonce a.cmd ≤ 1)))
        else if decide (alg ≤ 5) then
          let n := memReads a.mem 0 (rsaSize alg)
          (a.len0 == 32 || a.len0 == 48 || a.len0 == 64) && decide (cmdPad a.cmd ≤ 1) && decide (cmdHash a.cmd ≤ 2)
            && (beNat n) % 2 == 1 && (byteAt n 0).getLsbD 7 && a.arg % 2 == 1 && decide (3 ≤ a.arg)
        else decide (a.len0 ≤ 4096) && decide (a.len1 ≤ 255) && (op != 1 || decide (cmdNonce a.cmd ≤ 1)))

/-- An operation that needs randomness (09 R300). -/
def needsDrbg (op : Nat) : Bool := op == 1 || op == 3 || op == 4 || op == 5

/-- What ends an operation at once (09 R300 to R303, R312): none when it runs. -/
def State.pkeRefuse (s : State) (a : PkeArgs) (owner : Bool) : Option Nat :=
  let sealSign := cmdSealed a.cmd && cmdOp a.cmd == 1
  if owner && cmdSealed a.cmd then some 0x24
  else if !a.paramsOk then some 0x23
  else if sealSign && (s.pke.sealedKey.isNone || cmdAlg a.cmd != 2) then some 0x24
  else if s.drbg.failed && needsDrbg (cmdOp a.cmd) then some 0x26
  else none

/-- Status and outputs of a SIGN on a curve: the scalar, the digest and the drawn nonce (09 R288, R303, R310). -/
def ecSign (a : PkeArgs) (d : Nat) (nonce : Option (BitVec 512)) : Nat × List (Nat × List Byte) :=
  let alg := cmdAlg a.cmd
  let e := elemSize alg
  if d = 0 ∨ curveOrder alg ≤ d then (0x21, [])
  else
    let sig := Config.sign alg (beBytes e d) [] (memReads a.mem 0x300 a.len0) nonce
    (0x10, [(0x400, slice sig 0 e), (0x500, slice sig e e)])

/-- A point of the operand memory. -/
def PkeArgs.point (a : PkeArgs) : List Byte :=
  let e := elemSize (cmdAlg a.cmd)
  memReads a.mem 0x100 e ++ memReads a.mem 0x200 e

/-- Status of a VERIFY on a curve (09 R288, R303). -/
def ecVerify (a : PkeArgs) : Nat :=
  let alg := cmdAlg a.cmd
  let e := elemSize alg
  let r := memReads a.mem 0x400 e
  let t := memReads a.mem 0x500 e
  let n := curveOrder alg
  if !pointOk alg a.point then 0x22
  else if beNat r = 0 ∨ n ≤ beNat r ∨ beNat t = 0 ∨ n ≤ beNat t then 0x20
  else if Config.ecdsaValid alg a.point (memReads a.mem 0x300 a.len0) r t then 0x11 else 0x20

/-- Status and output of an ECDH (09 R288, R303). -/
def ecDh (a : PkeArgs) : Nat × List (Nat × List Byte) :=
  let alg := cmdAlg a.cmd
  let e := elemSize alg
  let d := beNat (memReads a.mem 0 e)
  if d = 0 ∨ curveOrder alg ≤ d then (0x21, [])
  else if !pointOk alg a.point then (0x22, [])
  else (0x10, [(0x600, slice (Config.ecdh alg d a.point) 0 e)])

/-- Outputs of a KEYGEN from the seed value c (09 R288). -/
def ecKeygen (alg c : Nat) : Nat × List (Nat × List Byte) :=
  let e := elemSize alg
  let d := c % (curveOrder alg - 1) + 1
  let q := Config.basePoint alg d
  (0x10, [(0, beBytes e d), (0x100, slice q 0 e), (0x200, slice q e e)])

/-- Status of an RSA VERIFY (09 R289, R303). -/
def rsaVerify (a : PkeArgs) : Nat :=
  let k := rsaSize (cmdAlg a.cmd)
  let n := memReads a.mem 0 k
  let sig := memReads a.mem 0x600 k
  if beNat sig = 0 ∨ beNat n ≤ beNat sig then 0x20
  else if Config.rsaValid (cmdPad a.cmd) (cmdHash a.cmd) n a.arg (memReads a.mem 0x800 a.len0) sig then 0x11 else 0x20

/-- Status and output of an ML-DSA-87 operation (09 R290, R303). -/
def mlDsa (a : PkeArgs) (nonce : Option (BitVec 512)) : Nat × List (Nat × List Byte) :=
  let ctx := memReads a.mem 0x2800 a.len1
  let msg := memReads a.mem 0x2900 a.len0
  if cmdOp a.cmd = 2 then
    (if Config.sigValid 0x10 (memReads a.mem 0 2592) ctx msg (memReads a.mem 0x1400 4627) then 0x11 else 0x20, [])
  else
    let key := memReads a.mem 0 4896
    if Config.signLimit key ctx msg nonce then (0x25, [])
    else (0x10, [(0x1400, slice (Config.sign 6 key ctx msg nonce) 0 4627)])

/-- Status and outputs of an operation that was not refused. `sealed` is the alias key where KEY_SEL is set; the nonce and the KEYGEN seed are the DRBG's. -/
def pkeCompute (a : PkeArgs) (aliasD : Option Nat) (nonce : BitVec 512) (seed : BitVec 592) : Nat × List (Nat × List Byte) :=
  let alg := cmdAlg a.cmd
  let k := if cmdNonce a.cmd = 0 then some nonce else none
  if alg = 6 then mlDsa a k
  else if alg = 4 ∨ alg = 5 then (rsaVerify a, [])
  else
    match cmdOp a.cmd with
    | 1 => ecSign a (aliasD.getD (beNat (memReads a.mem 0 (elemSize alg)))) k
    | 2 => (ecVerify a, [])
    | 3 => ecDh a
    | 4 => ecKeygen alg (seed.toNat % 2 ^ (if alg = 1 then 320 else if alg = 2 then 448 else 585))
    | _ => ecKeygen alg (beNat (memReads a.mem 0x800 (seedSize alg)))

/-- The operation of a request, with the DRBG's next draws: status and outputs. -/
def State.pkeRun (s : State) (a : PkeArgs) (owner : Bool) : PkeOut :=
  match s.pkeRefuse a owner with
  | some c => (c, [])
  | none =>
    let aliasD := if cmdSealed a.cmd && cmdOp a.cmd == 1 then s.pke.sealedKey.map (·.1) else none
    pkeCompute a aliasD (s.draw 512) (s.draw 592)

/-- The operand memory after an operation: its outputs alone (09 R310, R312). -/
def outMem (outs : List (Nat × List Byte)) : Memory := outs.foldl (fun m o => memWrites m o.1 o.2) []

/-! ### Service modes (09 R291) -/

/-- Service mode in force on a core. -/
def State.pkeMode (s : State) (c : Fin 2) : Nat :=
  if s.sys.stage = .rom then 1
  else if s.life.state = .blank ∨ s.life.state = .test then 2
  else if (s.pke.core c).recovery then 3 else 0

/-- How a core checks an operation for faults before its result is released (09, service modes). -/
inductive FaultCheck where
  | repeatAndCompare | verifyBeforeRelease
deriving DecidableEq, Repr

/-- The check of an operation in a service mode (09 R292). -/
def faultCheck (mode op : Nat) : FaultCheck := if op = 1 ∧ mode ≠ 0 then .verifyBeforeRelease else .repeatAndCompare

/-- Arguments of a request. -/
def PkeReq.args (r : PkeReq) : PkeArgs := { cmd := r.cmd, len0 := r.len0, len1 := r.len1, arg := r.arg, mem := r.input }

/-- Public key that a signature is verified against before its release: the one held with the sealed key, or the one computed from d (09 R292). -/
def State.checkKey (s : State) (a : PkeArgs) : List Byte :=
  let alg := cmdAlg a.cmd
  if cmdSealed a.cmd then (match s.pke.sealedKey with | some (_, q) => q | none => [])
  else if alg = 6 then Config.mlDsaPublic (memReads a.mem 0 4896)
  else Config.basePoint alg (beNat (memReads a.mem 0 (elemSize alg)))

/-- A signature as a core made it verifies against that key (09 R292). -/
def State.signatureGood (s : State) (a : PkeArgs) (r : PkeOut) : Bool :=
  let m := r.2.foldl (fun m o => memWrites m o.1 o.2) ([] : Memory)
  let alg := cmdAlg a.cmd
  r.1 == 0x10 &&
    (if alg = 6 then Config.sigValid 0x10 (s.checkKey a) (memReads a.mem 0x2800 a.len1) (memReads a.mem 0x2900 a.len0) (memReads m 0x1400 4627)
     else Config.ecdsaValid alg (s.checkKey a) (memReads a.mem 0x300 a.len0) (memReads m 0x400 (elemSize alg)) (memReads m 0x500 (elemSize alg)))

/-- The check finds a fault. `first` and `second` are what a disturbed core computes in the first run and in the repetition or the verification, none where it computes what it should; a right signature verifies (09 R292, R295; log 94). -/
def State.faultFound (s : State) (a : PkeArgs) (mode : Nat) (good : PkeOut) (first second : Option PkeOut) : Bool :=
  match faultCheck mode (cmdOp a.cmd) with
  | .repeatAndCompare => first.getD good != second.getD good
  | .verifyBeforeRelease => second.isSome || (match first with | some w => !s.signatureGood a w | none => false)

/-- What ends a request in the engine at once, wherever it stands: an owner's one only once it runs (09 R300 to R303). -/
def State.endsNow (s : State) (r : PkeReq) : Option Nat :=
  if r.user = .owner ∧ !r.second then none else s.pkeRefuse r.args (r.user == .owner)

/-- A running operation that R300 to R302 end at once leaves its core (09 R300, R305). -/
def State.endRunning (s : State) (c : Fin 2) : State :=
  let x := s.pke.core c
  match x.state, x.req with
  | .millerOp, some r =>
    match s.pkeRefuse r.args false with
    | some code => { s with pke := { s.pke.setCore c x.clear with millerDone := code :: s.pke.millerDone } }
    | none => s
  | .ownerOp, some r =>
    match s.pkeRefuse r.args true with
    | some code =>
      { s with pke := { s.pke.setCore c { x with state := .ownerDone, req := none, mem := [], work := [], limit := s.now + grantNs } with
          status := code, cntDone := s.pke.cntDone + 1 } }
    | none => s
  | _, _ => s

/-- Requests that R300 to R303 end at once leave the engine: a miller request as it is placed, and any that the DRBG's failure meets (09 R300, R302, R303; log 95). -/
def State.endRefused (s : State) : State :=
  let t := (s.endRunning 0).endRunning 1
  let k := t.pke
  let codes := (k.queue ++ k.waiting).filterMap fun r => if r.user = .miller then t.endsNow r else none
  let mine := (k.queue.filter fun r => r.user == .owner).filterMap t.endsNow
  { t with pke := { k with
      queue := k.queue.filter fun r => (t.endsNow r).isNone
      waiting := k.waiting.filter fun r => (t.endsNow r).isNone
      millerDone := codes ++ k.millerDone
      status := mine.head?.getD k.status } }

/-- What cannot run ends, free cores serve the queue, and a response left without its signature is answered; every request ends at once while both cores are retired (08 R275, 09 R297, R300, R304). A re-run of the owner's operation reports its own core's mode (09 R311). -/
def State.pkeServe (s : State) : State :=
  let t := s.endRefused
  let k := t.pke.serve t.now
  State.spdmSweep
    { t with pke := if k.status = 3 ∧ t.pke.status ≠ 3 then { k with mode := t.pkeMode (if k.coreNo = 1 then 1 else 0) } else k }

/-! ### The owner's window (09 R304 to R308) -/

/-- REQUEST: ignored unless STATUS is IDLE or a final code; a core still held is given up, since the owner holds one (09 R304, R305). -/
def State.pkeRequest (s : State) : State :=
  let k := s.pke
  if k.status != 0 && decide (k.status < 0x10) then s
  else
    let k1 := match k.ownerCore with | some c => k.setCore c (k.core c).clear | none => k
    let r : PkeReq := { user := .owner, cmd := k.cmd, len0 := k.len0.toNat, len1 := k.len1.toNat, arg := k.arg.toNat, input := [], second := false }
    State.pkeServe { s.settle [3] with pke := { k1 with status := 0x01, queue := k1.queue ++ [r] } }.wakeUp

/-- GO: starts the granted operation, or ends it at once (09 R300 to R303, R305). -/
def State.pkeGo (s : State) : State :=
  match s.pke.ownerCore with
  | none => s
  | some c =>
    let k := s.pke
    let x := k.core c
    if x.state != .ownerGrant then s
    else
      let a : PkeArgs := { cmd := k.cmd, len0 := k.len0.toNat, len1 := k.len1.toNat, arg := k.arg.toNat, mem := x.mem }
      let r : PkeReq := { user := .owner, cmd := a.cmd, len0 := a.len0, len1 := a.len1, arg := a.arg, input := x.mem, second := false }
      let k1 := { k with mode := s.pkeMode c, coreNo := c.val }
      match s.pkeRefuse a true with
      | some code =>
        { s with pke := { k1.setCore c { x with state := .ownerDone, req := none, mem := [], limit := s.now + grantNs } with status := code } }
      | none => { s with pke := { k1.setCore c { x with state := .ownerOp, req := some r } with status := 0x03 } }

/-- ABORT (09 R306 to R308). -/
def State.pkeAbort (s : State) : State := { s with pke := s.pke.abortOwner s.now }

/-- RELEASE (09 R305). -/
def State.pkeRelease (s : State) : State :=
  match s.pke.ownerCore with
  | some c =>
    if (s.pke.core c).state = .ownerOp then s
    else State.pkeServe { s with pke := { s.pke.setCore c (s.pke.core c).clear with status := 0x00 } }
  | none => s

/-- PKE_REQUEST: the owner's write of PKE_CTRL.REQUEST (09 R304, R311, 12 R389, R403). -/
def execPkeRequest (s : State) : Result := if !s.ownerWrites then .next s else .next s.pkeRequest

/-- PKE_GO: the owner's write of PKE_CTRL.GO (09 R300 to R303, R305, 12 R389, R403). -/
def execPkeGo (s : State) : Result := if !s.ownerWrites then .next s else .next s.pkeGo

/-- PKE_ABORT: the owner's write of PKE_CTRL.ABORT (09 R306 to R308, 12 R389, R403). -/
def execPkeAbort (s : State) : Result := if !s.ownerWrites then .next s else .next s.pkeAbort

/-- PKE_RELEASE: the owner's write of PKE_CTRL.RELEASE (09 R305, 12 R389, R403). -/
def execPkeRelease (s : State) : Result := if !s.ownerWrites then .next s else .next s.pkeRelease

/-! ### The miller's requests, completion and faults (09 R295 to R297, R304) -/

/-- PKE_MILLER_REQUEST: the miller's request enters the queue, or waits in the miller until an entry frees; it wakes the device (09 R304, 17 R519). -/
def execPkeMillerRequest (cmd len0 len1 arg : Word) (inputs : List Byte) (s : State) : Result :=
  let r : PkeReq :=
    { user := .miller, cmd, len0 := len0.toNat, len1 := len1.toNat, arg := arg.toNat, input := memWrites [] 0 inputs, second := false }
  let t := (s.settle [3]).stir
  if s.dark then .next s else .next (State.pkeServe { t with pke := { t.pke with waiting := t.pke.waiting ++ [r] } })

/-- An operation ends with a status and outputs (09 R304, R305, R312). -/
def State.pkeEnds (s : State) (c : Fin 2) (r : PkeReq) (status : Nat) (outs : List (Nat × List Byte)) : State :=
  let k := s.pke
  match r.user with
  | .miller =>
    let t := { s with pke := { k.setCore c (k.core c).clear with millerDone := status :: k.millerDone } }
    let m := outMem outs
    let u := match allTransports.find? fun x => r.job.isSome && ((t.tr x).signing.map (·.id)) == r.job with
      | some x => if status = 0x10 then t.spdmSigned x (some (memReads m 0x400 48 ++ memReads m 0x500 48)) else t
      | none => t
    u.pkeServe
  | .owner =>
    { s with pke := { k.setCore c { k.core c with state := .ownerDone, req := none, mem := outMem outs, work := [], limit := s.now + grantNs } with
        status, cntDone := k.cntDone + 1 } }

/-- The core goes to its known-answer test at the time of the fault, its outputs zeroed (09 R295). -/
def Pke.toKat (k : Pke) (c : Fin 2) (now : Nat) : Pke :=
  { k.setCore c { k.core c with state := .kat, req := none, mem := [], work := [], faultAt := now } with cntFault := k.cntFault + 1 }

/-- A fault: the operation runs again from the head of the queue, or ends as FAULT after its second run (09 R295). -/
def State.pkeFaults (s : State) (c : Fin 2) (r : PkeReq) : State :=
  let k := s.pke.toKat c s.now
  if r.second then
    let k1 := match r.user with
      | .miller => { k with millerDone := 0x31 :: k.millerDone }
      | .owner => { k with status := 0x31 }
    (State.pkeServe { s with pke := k1 }).event 773
  else
    let k1 := { k with queue := { r with second := true } :: k.queue, status := if r.user = .owner then 0x01 else k.status }
    State.pkeServe { s with pke := k1 }

/-- A core finishes its operation and its fault check in the mode in force (09 R288 to R295, R303, R304; log 94). -/
def State.pkeFinish (s : State) (c : Fin 2) (first second : Option PkeOut) : State :=
  match (s.pke.core c).state, (s.pke.core c).req with
  | .millerOp, some r | .ownerOp, some r =>
    let good := s.pkeRun r.args (r.user == .owner)
    if s.faultFound r.args (s.pkeMode c) good first second then s.pkeFaults c r
    else
      let res := first.getD good
      s.drawn.pkeEnds c r res.1 res.2
  | _, _ => s

/-- The miller aborts its own request of a number, wherever it stands (09 R306 to R308). -/
def State.pkeAbortOwn (s : State) (n : Nat) : State := State.pkeServe { s with pke := s.pke.abortMiller n }

/-- The PKE domain is On; in Retain it has no clock (17 R513, R514). -/
def State.pkeOn (s : State) : Bool := s.domain 3 == .on

/-- PKE_OPERATION_COMPLETE: an operation ends. It runs to its end on core `c`, whose domain is On, or the miller aborts its own request, whichever core holds it or none (09 R288 to R295, R303, R304, R307, 17 R513; log 94, 95). -/
def execPkeOperationComplete (c : Fin 2) (e : PkeEnd) (s : State) : Result := s.powered <|
  match e with
  | .runs first second => .next (if s.pkeOn then s.pkeFinish c first second else s)
  | .abort own => .next (s.pkeAbortOwn own)

/-- A core is retired until the next device reset (09 R295 to R297). -/
def State.pkeRetire (s : State) (c : Fin 2) : State :=
  let t := ({ s with pke := s.pke.setCore c { (s.pke.core c).clear with state := .retired, recovery := false } }).event (770 + c.val)
  (if t.pke.none2 then t.event 772 else t).pkeServe

/-- PKE_KAT_COMPLETE: the known-answer test of a faulting core, whose domain is On, ends (09 R295, 17 R513). -/
def execPkeKatComplete (c : Fin 2) (pass : Bool) (s : State) : Result :=
  let x := s.pke.core c
  if x.state != .kat || !s.pkeOn then .next s
  else
    let past := recent x.faultAt sixtySeconds x.transients
    if pass && !decide (4 < past.length) then
      let y := { x with state := .idle, transients := x.faultAt :: past, recovery := true }
      .next (({ s with pke := s.pke.setCore c y }).event (768 + c.val)).pkeServe
    else .next (s.pkeRetire c)

/-- PKE_GRANT_TIMEOUT: the owner missed its 10 ms to GO or RELEASE (09 R305). -/
def execPkeGrantTimeout (c : Fin 2) (s : State) : Result := s.powered <|
  let x := s.pke.core c
  if x.state != .ownerGrant && x.state != .ownerDone then .next s
  else
    let t := s.upTo x.limit
    .next (({ t with pke := { t.pke.setCore c x.clear with status := 0x33 } }).event 774).pkeServe

/-- PKE_RECOVERY_END: 60 s without another fault on the core, whose known-answer test is not running (09 R291, R295). -/
def execPkeRecoveryEnd (c : Fin 2) (s : State) : Result := s.powered <|
  let x := s.pke.core c
  if !x.recovery || x.state == .kat then .next s
  else
    let t := s.upTo (x.faultAt + sixtySeconds)
    .next { t with pke := t.pke.setCore c { x with recovery := false } }

/-- PKE_POWER_UP_KAT: the known-answer tests of a core at the PKE domain's power-up, once it is On, end (09 R296, 17 R513). -/
def execPkePowerUpKat (c : Fin 2) (pass : Bool) (s : State) : Result :=
  let x := s.pke.core c
  if x.state != .powerKat || !s.pkeOn then .next s
  else if pass then .next ({ s with pke := s.pke.setCore c { x with state := .idle } }).pkeServe
  else .next (s.pkeRetire c)

end Sys2Proof.Machine
end

