-- ==== Sys2Proof/Machine/Spdm.lean ====
section
/-! DEFINITION. The DRBG's events, and SPDM on the five transports (08 R266 to R283). -/

namespace Sys2Proof.Machine

open Sys2Proof

/-! ### The DRBG (08 R281, R282) -/

/-- DRBG_RESEED: the reseed once 65,536 generate requests have been made (08 R281). -/
def execDrbgReseed (s : State) : Result := s.powered <|
  .next (if s.drbg.failed || !s.drbg.seeded || decide (s.drbg.requests < 65536) then s else { s with drbg := { s.drbg with requests := 0 } })

/-- ENTROPY_HEALTH_FAIL: two consecutive health tests fail, and the DRBG is failed until the next device reset; engine operations that need it end at once (08 R282, 09 R300). -/
def execEntropyHealthFail (s : State) : Result :=
  if s.drbg.failed || s.dark then .next s
  else .next (({ s with drbg := { s.drbg with failed := true, failedTests := 2 } }).event 943).pkeServe

/-! ### SPDM messages (08 R268 to R276), codes of DSP0274 -/

/-- What answers a request: a response code and its fields, or an ERROR code. -/
inductive SpdmRsp where
  | ok (code : Nat) (fields : List Byte)
  | err (code : Nat)

/-- InvalidRequest, an ERROR code of DSP0274 (log 92). -/
def errInvalid : Nat := 0x01
/-- UnexpectedRequest. -/
def errUnexpected : Nat := 0x04
/-- UnsupportedRequest. -/
def errUnsupported : Nat := 0x07
/-- SessionLimitExceeded. -/
def errSessions : Nat := 0x0A
/-- VersionMismatch. -/
def errVersion : Nat := 0x41

/-- The offer holds every item of the table: DMTF, Format 1, P-384, SHA-384, secp384r1, AES-256-GCM, the SPDM key schedule (08 R268, R269; bit numbers of DSP0274, log 92). -/
def AlgOffer_all (o : AlgOffer) : Bool :=
  o.measSpec.getLsbD 0 && o.otherParams.getLsbD 1 && o.asym.getLsbD 7 && o.hash.getLsbD 1 && o.dhe.getLsbD 4 && o.aead.getLsbD 1
    && o.keySchedule.getLsbD 0

/-- The selection of ALGORITHMS: MeasurementSpecification, OtherParams, MeasurementHashAlgo, BaseAsymAlgo, BaseHashAlgo, DHE, AEAD, no requester algorithm, KeySchedule (08 R268; log 92). -/
def algSelection : List Byte :=
  leBytes 1 0x01 ++ leBytes 1 0x02 ++ leBytes 4 0x04 ++ leBytes 4 0x80 ++ leBytes 4 0x02 ++ leBytes 2 0x10 ++ leBytes 2 0x02 ++ leBytes 2 0
    ++ leBytes 2 0x01

/-- Locked or End of life: no identity (08 R279). -/
def State.noIdentity (s : State) : Bool := s.life.state == .locked || s.life.state == .endOfLife

/-- Capability flags (08 R268, R279). -/
def State.capFlags (s : State) : Nat := if s.noIdentity then 0x8 else 0x602F6

/-- DataTransferSize of a transport (08 R266). -/
def transferSize : Transport → Nat
  | .owner => 4032
  | .obs0 | .obs1 | .obs2 => 992
  | .i3c => 1024

/-- The slot 0 chain: in Production from the Opirahel root and the device CA (08 R265, R270). -/
def State.chain (s : State) : List Byte := Config.spdmChain (s.storedChain ++ s.idn.certs.flatMap Config.certDer)

/-- The chain can be read: in Production the stored part of it lies on the home port (08 R265, 17 R531). -/
def State.chainOk (s : State) : Bool := s.life.state != .production || s.gov.vioHome

/-- SPDM is answered: by the firmware, or over I3C by the ROM in End of life; over I3C only at a dynamic address (08 R267, R279, 14 R455). -/
def State.spdmUp (s : State) (t : Transport) : Bool := (s.serves || (s.sys.stage == .endOfLife && t == .i3c)) && (t != .i3c || s.i3cPrivate)

/-- The engine request that signs the SHA-384 of a message with the alias key and a nonce of the DRBG: SIGN, P-384, KEY_SEL 1, NONCE 0 (08 R275, 09 R301). -/
def signRequest (id : Nat) (msg : List Byte) : PkeReq :=
  { user := .miller, cmd := 0x1201, len0 := 48, len1 := 0, arg := 0, input := memWrites [] 0x300 (digestBytes (Config.sha384 msg)),
    second := false, job := some id }

/-- The device can sign: an alias key, the DRBG and a core (08 R275, R283, 09 R297). -/
def State.canSign (s : State) : Bool := s.pke.sealedKey.isSome && !s.drbg.failed && s.engineUp

/-- The context that hashes a connection's transcript has FAULT, and produces no digest of it (10 R321). -/
def State.undigested (s : State) (x : Spdm) : Bool := match x.ctx with | some n => s.dge.ctx[n].fault | none => false

/-- The device can sign a connection's transcript (08 R275, 10 R321). -/
def State.signsFor (s : State) (x : Spdm) : Bool := s.canSign && !s.undigested x

/-- A connection's answer to a request that carries its own state change. -/
structure SpdmAns where
  conn : Spdm
  rsp : SpdmRsp
  /-- DRBG draws made. -/
  draws : Nat := 0
  /-- the response waits for the alias key's signature (08 R275). -/
  signs : Bool := false
  /-- the session that the signed response opens (08 R272). -/
  session : Option Nat := none

/-- Answer without a change. -/
def Spdm.same (x : Spdm) (r : SpdmRsp) : SpdmAns := { conn := x, rsp := r }

/-- Requests answered while the device has no identity (08 R279). -/
def SpdmReq_basic : SpdmReq → Bool
  | .version | .capabilities _ _ | .algorithms _ | .measurements _ _ _ => true
  | _ => false

/-- The measurement record of an operation; none for an index not in the table (08 R276, R279). -/
def State.measRecord (s : State) (index : Nat) : Option (Nat × List Byte) :=
  let all := s.measIndices
  if index = 0 then some (all.length, [])
  else if index = 0xFF then some (all.length, all.flatMap fun i => (s.measurement i).getD [])
  else if all.contains index then some (1, (s.measurement index).getD []) else none

/-- GET_MEASUREMENTS (08 R275, R276, R279): the record, then a nonce and a signature where one is asked. -/
def State.spdmMeasure (s : State) (x : Spdm) (index : Nat) (sign : Bool) : SpdmAns :=
  match s.measRecord index with
  | none => x.same (.err errInvalid)
  | some (n, rec) =>
    let body := leBytes 1 n ++ leBytes 3 rec.length ++ rec ++ digestBytes (s.draw 256)
    if !sign then { conn := x, rsp := .ok 0x60 body, draws := 1 }
    else if !s.signsFor x then x.same (.err errUnspecified)
    else { conn := x, rsp := .ok 0x60 body, draws := 1, signs := true }

/-- CHALLENGE (08 R270, R275). -/
def State.spdmChallenge (s : State) (x : Spdm) (slot : Nat) : SpdmAns :=
  if slot != 0 then x.same (.err errInvalid)
  else if !s.signsFor x || !s.chainOk then x.same (.err errUnspecified)
  else
    let body := digestBytes (Config.sha384 s.chain) ++ digestBytes (s.draw 256)
    { conn := x, rsp := .ok 0x03 body, draws := 1, signs := true }

/-- KEY_EXCHANGE: the session ID, no mutual authentication and no requester slot, then the random data and the device's share (08 R272, R275). The session ID is a free value (log 5). -/
def State.spdmKeyExchange (s : State) (x : Spdm) (slot : Nat) : SpdmAns :=
  if x.session.isSome then x.same (.err errSessions)
  else if slot != 0 then x.same (.err errInvalid)
  else if !s.signsFor x then x.same (.err errUnspecified)
  else
    let id := leNat (s.freeBytes 4)
    let point := slice (Config.basePoint 2 (s.draw 384).toNat) 0 96
    let body := leBytes 4 id ++ ([0, 0] : List Byte) ++ digestBytes (s.draw 256) ++ point
    { conn := x, rsp := .ok 0x64 body, draws := 2, signs := true, session := some id }

/-- GET_CERTIFICATE of slot 0 (08 R270). -/
def State.spdmCert (s : State) (x : Spdm) (slot off len : Nat) : SpdmAns :=
  let c := s.chain
  if slot != 0 then x.same (.err errInvalid)
  else if !s.chainOk then x.same (.err errUnspecified)
  else if decide (c.length ≤ off) then x.same (.err errInvalid)
  else
    let part := (c.drop off).take len
    x.same (.ok 0x02 (leBytes 2 part.length ++ leBytes 2 (c.length - off - part.length) ++ part))

/-- A request other than a chunk, on a connection; `raw` is its bytes (08 R268 to R276, R279). A version that the device did not return is answered with VersionMismatch (log 92). -/
def State.spdmCore (s : State) (t : Transport) (x : Spdm) (r : SpdmReq) (raw : List Byte) : SpdmAns :=
  match r with
  | .version =>
    { conn := { ({} : Spdm) with errors := x.errors, phase := .version, ctx := x.ctx }, rsp := .ok 0x04 [0x12, 0x13] }
  | .other _ => x.same (.err errUnsupported)
  | .capabilities v n =>
    if x.phase != .version then x.same (.err errUnexpected)
    else if v != 0x12 && v != 0x13 then x.same (.err errVersion)
    else
      { conn := { x with phase := .capabilities, version := v, dataSize := n }
        rsp := .ok 0x61 ([16] ++ leBytes 4 s.capFlags ++ leBytes 4 (transferSize t) ++ leBytes 4 12288) }
  | .algorithms offer =>
    if x.phase != .capabilities then x.same (.err errUnexpected)
    else if !AlgOffer_all offer then x.same (.err errInvalid)
    else { conn := { x with phase := .negotiated }, rsp := .ok 0x63 algSelection }
  | r =>
    if s.noIdentity && !SpdmReq_basic r then x.same (.err errUnsupported)
    else if x.phase != .negotiated then x.same (.err errUnexpected)
    else
      match r with
      | .digests => x.same (if s.chainOk then .ok 0x01 (digestBytes (Config.sha384 s.chain)) else .err errUnspecified)
      | .certificate slot off len => s.spdmCert x slot off len
      | .challenge slot _ => s.spdmChallenge x slot
      | .measurements i sign _ => s.spdmMeasure x i sign
      | .keyExchange slot _ => s.spdmKeyExchange x slot
      | .finish v =>
        if x.session.isNone || x.established then x.same (.err errUnexpected)
        else if s.undigested x then x.same (.err errUnspecified)
        else if Config.finishOk x.transcript v then
          { conn := { x with established := true, keys := x.transcript ++ raw, seqIn := 0, seqOut := 0 }, rsp := .ok 0x65 [] }
        else x.same (.err errInvalid)
      | .endSession =>
        if x.session.isSome && x.established then
          { conn := { x with session := none, established := false, keyed := false, keys := [], seqIn := 0, seqOut := 0 }, rsp := .ok 0x6C [] }
        else x.same (.err errUnexpected)
      | _ => x.same (.err errUnexpected)

/-- The message of an answer. -/
def SpdmRsp.bytes (x : Spdm) : SpdmRsp → List Byte
  | .ok c f => Config.spdmBytes x.header c f
  | .err c => x.error c

/-- Answer one request other than a chunk: the connection's state, the transcript and the draws are updated, and a held large response goes; none where the response waits for its signature, whose request queues at the engine (08 R271, R275). -/
def State.spdmOne (s : State) (t : Transport) (route : SpdmRoute) (chunk : Option Nat) (r : SpdmReq) (raw : List Byte) :
    State × Option (List Byte) :=
  let x := { s.tr t with large := none }
  let a := s.spdmCore t x r raw
  let u := { s with fresh := s.fresh + (if a.draws = 0 then 0 else a.draws + 4), drbg := Drbg.generates a.draws s.drbg }
  match a.signs, a.rsp with
  | true, .ok code body =>
    let job : SpdmJob := { id := u.fresh, route, chunk, code, body, raw, session := a.session }
    let v := ((u.settle [3]).skipFree 1).setTr t { a.conn with signing := some job }
    (({ v with pke := { v.pke with waiting := v.pke.waiting ++ [signRequest job.id (a.conn.transcript ++ raw ++ body)] } }).pkeServe, none)
  | _, _ =>
    let msg := a.rsp.bytes (match r with | .version => {} | _ => a.conn)
    let c := { a.conn with transcript := (match r with | .version => [] | _ => a.conn.transcript) ++ raw ++ msg }
    let out := c.fit chunk msg
    (u.transcribe t out.1, some out.2)

/-- CHUNK_GET: the next part of the held large response; the first also carries its length (08 R271). -/
def Spdm.chunk (x : Spdm) (seq : Nat) : Spdm × List Byte :=
  match x.large with
  | none => (x, x.error errUnexpected)
  | some (k, n, bs) =>
    if seq != k then (x, x.error errInvalid)
    else
      let size := x.dataSize - (if k = 0 then 16 else 12)
      let part := bs.take size
      let rest := bs.drop size
      ({ x with large := if rest.isEmpty then none else some (k + 1, n, rest) },
       Config.spdmBytes x.header 0x06 (leBytes 1 (bit rest.isEmpty) ++ leBytes 2 k ++ leBytes 4 part.length
         ++ (if k = 0 then leBytes 4 n else []) ++ part))

/-- CHUNK_SEND: the next part of a large request; the last is answered with the response to the whole, and FINISH and END_SESSION are out of order in the clear here too (08 R266, R270, R272). -/
def State.spdmChunkSend (s : State) (t : Transport) (route : SpdmRoute) (seq : Nat) (last : Bool) (data : List Byte) :
    State × Option (List Byte) :=
  let x := { s.tr t with large := none }
  if x.phase = .start ∨ x.phase = .version then (s.setTr t x, some (x.error errUnexpected))
  else if s.noIdentity then (s.setTr t x, some (x.error errUnsupported))
  else
    let parts := if seq = 0 then [data] else x.chunks ++ [data]
    let whole := parts.flatten
    if (seq != 0 && seq != x.chunks.length) || decide (12288 < whole.length) then
      (s.setTr t { x with chunks := [] }, some (x.error errInvalid))
    else if !last then (s.setTr t { x with chunks := parts }, some (Config.spdmBytes x.header 0x05 (leBytes 2 seq)))
    else
      let u := s.setTr t { x with chunks := [] }
      match Config.spdmParse whole with
      | some (.chunkSend _ _ _) | some (.chunkGet _) | none => (u, some (x.inChunk (some seq) (x.error errInvalid)))
      | some (.finish _) | some .endSession => (u, some (x.inChunk (some seq) (x.error errUnexpected)))
      | some r => u.spdmOne t route (some seq) r whole

/-- Busy, an ERROR code of DSP0274 (log 92). -/
def errBusy : Nat := 0x03

/-- A GET_VERSION finds no FREE miller context for the transcript of the connection that it opens (10 R317, R318, R322). -/
def State.spdmFull (s : State) (t : Transport) (r : Option SpdmReq) : Bool := r == some .version && (s.resetTr t).millerFrees.isEmpty

/-- GET_VERSION resets the connection and opens it anew, on the lowest-numbered FREE context of the miller; with none FREE it is answered Busy (08 R268, 10 R318, R322; log 90). -/
def State.spdmConnect (s : State) (t : Transport) (route : SpdmRoute) (raw : List Byte) : State × Option (List Byte) :=
  let f := s.resetTr t
  match f.millerFrees with
  | [] => (f, some ((f.tr t).error errBusy))
  | n :: _ =>
    (((f.settle digestDomains).modCtx n fun c => { c with state := .opened, alg := 1 }).setTr t { f.tr t with ctx := some n }).spdmOne t route none .version raw

/-- Answer one SPDM request on a transport (08 R266 to R279). While a response waits for its signature, every request but GET_VERSION is out of SPDM's order (08 R270; log 93). -/
def State.spdmAnswer (s : State) (t : Transport) (route : SpdmRoute) (r : SpdmReq) (raw : List Byte) : State × Option (List Byte) :=
  let x := s.tr t
  if x.signing.isSome && r != .version then (s, some (x.error errUnexpected))
  else
    match r with
    | .chunkGet seq =>
      if x.phase = .start ∨ x.phase = .version then (s, some (x.error errUnexpected))
      else if s.noIdentity then (s, some (x.error errUnsupported))
      else ((s.setTr t (x.chunk seq).1), some (x.chunk seq).2)
    | .chunkSend seq last data => s.spdmChunkSend t route seq last data
    | .version => s.spdmConnect t route raw
    | r => s.spdmOne t route none r raw

/-- An SPDM message in the clear as the device answers it. A malformed one is an InvalidRequest, and leaves a held large response, since it is no request (DESIGN CHOICE log 103). FINISH and END_SESSION belong to a session's secured messages, since HANDSHAKE_IN_THE_CLEAR is not negotiated: in the clear they are out of order, and as any new request they discard a held large response (08 R268, R270 to R272). -/
def State.spdmBytesAnswer (s : State) (t : Transport) (route : SpdmRoute) (raw : List Byte) : State × Option (List Byte) :=
  match Config.spdmParse raw with
  | some r =>
    match r with
    | .finish _ | .endSession => (s.setTr t { s.tr t with large := none }, some ((s.tr t).error errUnexpected))
    | r => s.spdmAnswer t route r raw
  | none => (s, some ((s.tr t).error errInvalid))

/-- A request in the clear is answered on its transport, unless it waits for a signature; nobody answers while no firmware runs. -/
def State.spdmOn (s : State) (t : Transport) (r : SpdmReq) (raw : List Byte) : State :=
  if s.spdmUp t then
    match s.spdmAnswer t .wire r raw with
    | (u, some msg) => u.spdmOut t false msg
    | (u, none) => u
  else s

/-- A request of the handshake's end or the session's, from its secured message, and its answer leaves in one; where the transport has no session it is answered as in the clear (08 R270, R272, DSP0277). -/
def State.spdmInSession (s : State) (t : Transport) (r : SpdmReq) (raw : List Byte) : State :=
  let x := s.tr t
  if x.session.isNone then s.spdmOn t r raw
  else if s.spdmUp t then
    match (s.setTr t { x with seqIn := x.seqIn + 1 }).spdmAnswer t .wire r raw with
    | (u, some msg) => u.spdmSealed t x.keys x.seqOut msg
    | (u, none) => u
  else s

/-- An SPDM message arrives: it wakes a sleeping miller, but in DEEP the I3C target NACKs it and wakes; it takes its turn behind the mailbox requests accepted before it (13 R408, 17 R519, R521). `run` is its turn. -/
def State.arrive (s : State) (t : Transport) (a : SpdmArrival) (run : State → State) : State :=
  if s.gov.state = .deep then (if t = .i3c then s.i3cMatch else s)
  else
    let u := s.stir
    if !u.spdmUp t then s
    else if u.mbx.order.isEmpty then run u
    else { u with mbx := { u.mbx with spdm := u.mbx.spdm ++ [{ ahead := u.mbx.order.length, transport := t, arrival := a }] } }

/-- A request in the clear arrives. -/
def State.spdmClear (s : State) (t : Transport) (r : SpdmReq) (raw : List Byte) : State := s.arrive t (.clear r raw) fun u => u.spdmOn t r raw

/-- A request of the handshake's end or the session's arrives. -/
def State.spdmOwn (s : State) (t : Transport) (r : SpdmReq) (raw : List Byte) : State :=
  s.arrive t (.inSession r raw) fun u => u.spdmInSession t r raw

/-- A request's bytes, under the version of its transport. -/
def State.spdmRaw (s : State) (t : Transport) (code : Nat) (fields : List Byte) : List Byte := Config.spdmBytes (s.tr t).header code fields

/-! ### The rows -/

/-- GET_VERSION (08 R268): the connection is reset, and both versions are returned. -/
def execGetVersion (t : Transport) (s : State) : Result := .next (s.spdmClear t .version (Config.spdmBytes 0x10 0x84 []))

/-- GET_CAPABILITIES (08 R268, R279). -/
def execGetCapabilities (t : Transport) (c : SpdmCaps) (s : State) : Result :=
  .next (s.spdmClear t (.capabilities c.version c.dataTransferSize) (Config.spdmBytes c.version 0xE1 (leBytes 4 c.dataTransferSize)))

/-- NEGOTIATE_ALGORITHMS (08 R268, R269). -/
def execNegotiateAlgorithms (t : Transport) (offer : AlgOffer) (s : State) : Result :=
  .next (s.spdmClear t (.algorithms offer) (s.spdmRaw t 0xE3
    (leBytes 1 offer.measSpec.toNat ++ leBytes 1 offer.otherParams.toNat ++ leBytes 4 offer.asym.toNat ++ leBytes 4 offer.hash.toNat
      ++ leBytes 2 offer.dhe.toNat ++ leBytes 2 offer.aead.toNat ++ leBytes 2 offer.keySchedule.toNat)))

/-- GET_DIGESTS (08 R270). -/
def execGetDigests (t : Transport) (s : State) : Result := .next (s.spdmClear t .digests (s.spdmRaw t 0x81 []))

/-- GET_CERTIFICATE (08 R270). -/
def execGetCertificate (t : Transport) (slot offset length : Nat) (s : State) : Result :=
  .next (s.spdmClear t (.certificate slot offset length) (s.spdmRaw t 0x82 (leBytes 1 slot ++ leBytes 2 offset ++ leBytes 2 length)))

/-- CHALLENGE (08 R270, R275). -/
def execChallenge (t : Transport) (slot : Nat) (nonce : List Byte) (s : State) : Result :=
  .next (s.spdmClear t (.challenge slot nonce) (s.spdmRaw t 0x83 (leBytes 1 slot ++ nonce)))

/-- GET_MEASUREMENTS (08 R275 to R279). -/
def execGetMeasurements (t : Transport) (index : Nat) (sign : Bool) (nonce : List Byte) (s : State) : Result :=
  .next (s.spdmClear t (.measurements index sign nonce) (s.spdmRaw t 0xE0 (leBytes 1 (bit sign) ++ leBytes 1 index ++ nonce)))

/-- KEY_EXCHANGE (08 R272, R275). -/
def execKeyExchange (t : Transport) (slot : Nat) (exchange : List Byte) (s : State) : Result :=
  .next (s.spdmClear t (.keyExchange slot exchange) (s.spdmRaw t 0xE4 (leBytes 1 slot ++ exchange)))

/-- FINISH, in the session that KEY_EXCHANGE opened (08 R270, R272). -/
def execFinish (t : Transport) (verifyData : List Byte) (s : State) : Result :=
  .next (s.spdmOwn t (.finish verifyData) (s.spdmRaw t 0xE5 verifyData))

/-- END_SESSION, in its session (08 R272, R274). -/
def execEndSession (t : Transport) (s : State) : Result := .next (s.spdmOwn t .endSession (s.spdmRaw t 0xEC []))

/-- CHUNK_SEND (08 R266, R270). -/
def execChunkSend (t : Transport) (seq : Nat) (last : Bool) (data : List Byte) (s : State) : Result :=
  .next (s.spdmClear t (.chunkSend seq last data) data)

/-- CHUNK_GET (08 R271). -/
def execChunkGet (t : Transport) (seq : Nat) (s : State) : Result := .next (s.spdmClear t (.chunkGet seq) [])

/-- Any other SPDM request code (08 R270). -/
def execSpdmUnsupportedRequest (t : Transport) (code : Byte) (s : State) : Result :=
  .next (s.spdmClear t (.other code) (s.spdmRaw t code.toNat []))

end Sys2Proof.Machine
end

