-- ==== Sys2Proof/Machine/Queries.lean ====
section
/-! DEFINITION. The query-class commands, and the same commands in SPDM secured sessions (13 R413, R423, 08 R273, R274). -/

namespace Sys2Proof.Machine

open Sys2Proof

/-- Body capacity of a mailbox's response buffer (13 R405). -/
def bodyCap (m : MbxId) : Nat := mbxSize m - 16

/-! ### The six queries (13 R423) -/

/-- The running firmware slot's record. -/
def Miller.current (m : Miller) : Option FwSlot := m.running.map m.fw

/-- GET_INFO. -/
def State.qInfo (s : State) (body : List Byte) : Response :=
  if !body.isEmpty then answer stBadLen
  else
    let f := s.mil.current.getD {}
    answer stOk 0 (leBytes 1 0xB0 ++ leBytes 1 f.major ++ leBytes 1 f.minor ++ leBytes 1 f.cmdSet ++ leBytes 8 s.idn.fwSvn
      ++ leBytes 1 s.otp.fwFloorVal ++ leBytes 1 (bit (s.mil.running.getD false)) ++ leBytes 1 2 ++ leBytes 1 (lcCode s.life.state)
      ++ leBytes 8 s.sys.serial.toNat ++ digestBytes s.idn.fwDigest)

/-- A hopper transfer targets a port, open or suspended. -/
def Transfer.targets (t : Transfer) (p : PortId) : Bool :=
  match t.kind with
  | .slot q _ | .substitute q => q == p
  | .firmware => false

/-- Some transfer targets a port. -/
def Hopper.targets (h : Hopper) (p : PortId) : Bool :=
  (match h.current with | some t => t.targets p | none => false) || (match h.suspended with | some t => t.targets p | none => false)

/-- Some transfer writes to a slot (07 R223). -/
def Hopper.onSlot (h : Hopper) (p : PortId) (i : SlotId) : Bool :=
  [h.current, h.suspended].any fun t => match t with | some t => t.kind == .slot p i | none => false

/-- Stored map digest of a slot, zero when none is stored. -/
def State.storedDigest (s : State) (p : PortId) (i : SlotId) : List Byte :=
  digestBytes (match s.slotMap p i with | some m => m.digest | none => (0 : D384))

/-- SLOT_STATUS. -/
def State.qSlots (s : State) (body : List Byte) : Response :=
  if body.length != 4 then answer stBadLen
  else
    match portOf (field body 0 1), zeros body 1 3 with
    | some p, true =>
      let x := s.port p
      let all := [SlotId.a, .b, .g]
      answer stOk 0 (all.flatMap (fun i => (s.slot p i).toBytes i) ++ all.flatMap (s.storedDigest p)
        ++ leBytes 1 (recent s.now sixtySeconds x.transients).length
        ++ leBytes 1 (bit x.staging.isSome + 2 * bit (s.hop.targets p)) ++ leBytes 2 0 ++ leBytes 4 (x.staging.getD 0))
    | _, _ => answer stBadField

/-- A stored item of CONFIG_READ; without VIO_HOME the home port reads none (17 R531). -/
def State.configItem (s : State) (item : Nat) (p : PortId) : Option (List Byte) :=
  if !s.gov.vioHome then none else
  match item with
  | 0 => s.store.device.read
  | 1 => (s.pstore p).config.read
  | 2 => (s.pstore p).sluice.read
  | _ => s.store.graph.read

/-- CONFIG_READ; an item that is not stored reads FORMAT 0 and TOTAL 0. -/
def State.qConfig (s : State) (cap : Nat) (body : List Byte) : Response :=
  if body.length != 4 then answer stBadLen
  else
    match portOf (field body 1 1), decide (field body 0 1 ≤ 3) with
    | some p, true =>
      let bs := (s.configItem (field body 0 1) p).getD []
      answer stOk 0 (leBytes 2 (if bs.isEmpty then 0 else itemFormat bs) ++ leBytes 2 bs.length ++ (bs.drop (field body 2 2)).take (cap - 4))
    | _, _ => answer stBadField

/-- MAP_READ. -/
def State.qMap (s : State) (cap : Nat) (body : List Byte) : Response :=
  if body.length != 8 then answer stBadLen
  else
    match portOf (field body 0 1), slotOf (field body 1 1), zeros body 2 2 with
    | some p, some i, true =>
      let bs := (if s.gov.vioHome then ((s.pstore p).map i).read else none).getD []
      answer stOk 0 (leBytes 4 bs.length ++ (bs.drop (field body 4 4)).take (cap - 4))
    | _, _, _ => answer stBadField

/-- A firmware record of FW_STATUS. -/
def FwSlot.toBytes (f : FwSlot) (preferred : Bool) : List Byte :=
  leBytes 1 f.state ++ leBytes 1 f.major ++ leBytes 1 f.minor ++ leBytes 1 f.cmdSet ++ leBytes 8 f.svn ++ leBytes 1 (bit preferred)
    ++ leBytes 1 f.lastBoot ++ leBytes 2 0 ++ digestBytes f.digest

/-- FW_STATUS. -/
def State.qFw (s : State) (body : List Byte) : Response :=
  if !body.isEmpty then answer stBadLen
  else answer stOk 0 (s.mil.fw0.toBytes (!s.mil.preferFw1) ++ s.mil.fw1.toBytes s.mil.preferFw1)

/-- MISSING and the missing offsets that fit (13 R423 TRANSFER_STATUS from 0x10). -/
def Transfer.missingBytes (t : Transfer) (room : Nat) : List Byte :=
  leBytes 4 t.missing.length ++ (t.missing.take ((room - 4) / 4)).flatMap (leBytes 4)

/-- KIND, PORT and SLOT of a transfer. 13 R423 gives PORT and SLOT of a firmware transfer and SLOT of a substitute no value: 0 (DESIGN CHOICE log 113). -/
def Transfer.kindBytes (t : Transfer) : List Byte :=
  match t.kind with
  | .slot p i => leBytes 1 1 ++ leBytes 1 p.val ++ leBytes 1 (slotCode i)
  | .substitute p => leBytes 1 2 ++ leBytes 1 p.val ++ leBytes 1 0
  | .firmware => leBytes 1 3 ++ leBytes 1 0 ++ leBytes 1 0

/-- TRANSFER_STATUS. -/
def State.qTransfer (s : State) (cap : Nat) (body : List Byte) : Response :=
  if !body.isEmpty then answer stBadLen
  else
    match s.hop.current with
    | none => answer stOk 0 (List.replicate 0x14 0)
    | some t =>
      answer stOk 0 (leBytes 2 t.id ++ t.kindBytes ++ leBytes 1 (bit s.hop.suspended.isSome) ++ leBytes 2 0 ++ leBytes 4 t.len
        ++ leBytes 4 (t.blocks - t.missing.length) ++ t.missingBytes (cap - 0x10))

/-- A query by its code, but for SPDM_MSG. -/
def State.query (s : State) (cap cmd : Nat) (body : List Byte) : Response :=
  match cmd with
  | 1 => s.qInfo body
  | 2 => s.qSlots body
  | 3 => s.qConfig cap body
  | 4 => s.qMap cap body
  | 5 => s.qFw body
  | 6 => s.qTransfer cap body
  | _ => answer stBadCmd

/-- Run a query from a mailbox. -/
def State.runQuery (s : State) (cmd : Nat) : State := s.runCmd cmd fun t m r => (t, t.query (bodyCap m) cmd r.body)

/-- GET_INFO (13 R423). -/
def execGetInfo (s : State) : Result := .next (s.runQuery 1)

/-- SLOT_STATUS (13 R423). -/
def execSlotStatus (s : State) : Result := .next (s.runQuery 2)

/-- CONFIG_READ (13 R423). -/
def execConfigRead (s : State) : Result := .next (s.runQuery 3)

/-- MAP_READ (13 R423). -/
def execMapRead (s : State) : Result := .next (s.runQuery 4)

/-- FW_STATUS (13 R423). -/
def execFwStatus (s : State) : Result := .next (s.runQuery 5)

/-- TRANSFER_STATUS (13 R423). -/
def execTransferStatus (s : State) : Result := .next (s.runQuery 6)

/-! ### SPDM through a mailbox, and queries through SPDM (08 R266, R273, R274, 13 R413) -/

/-- SPDM transport of a mailbox. -/
def mbxTransport : MbxId → Transport
  | .owner => .owner | .obs0 => .obs0 | .obs1 => .obs1 | .obs2 => .obs2

/-- SPDM_MSG: answered once its response is there; CTX_FULL where the connection it opens finds no context (08 R266, R275, 10 R318, 13 R423). -/
def execSpdmMsg (s : State) : Result :=
  match s.executing with
  | none => .next s
  | some (m, r) =>
    if r.cmd ≠ 7 ∨ (s.tr (mbxTransport m)).signing.isSome then .next s
    else if s.spdmFull (mbxTransport m) (Config.spdmParse r.body) then .next (s.finishCmd m (answer stCtxFull))
    else
      match s.spdmBytesAnswer (mbxTransport m) (.mailbox m) r.body with
      | (u, some msg) => .next (u.finishCmd m (answer stOk 0 msg))
      | (u, none) => .next u

/-- A Xisesel request in a secured session: its answer, none where it waits for a signature (13 R413). -/
def State.sessionQuery (s : State) (t : Transport) (raw : List Byte) : State × Option Response :=
  let cmd := hdrCmd raw
  let body := hdrBody raw
  if raw.length < 16 ∨ raw.length < 16 + hdrLen raw ∨ hdrAlen raw ≠ 0 ∨ 1008 < hdrLen raw then (s, some (answer stBadLen))
  else if !zeros raw 12 4 then (s, some (answer stBadField))
  else
    match cmdControl cmd with
    | none => (s, some (answer stBadCmd))
    | some true => (s, some (answer stNotOwner))
    | some false =>
      if cmd = 7 then
        if s.spdmFull t (Config.spdmParse body) then (s, some (answer stCtxFull))
        else
          let a := s.spdmBytesAnswer t (.session raw s.now) body
          (a.1, a.2.map fun msg => answer stOk 0 msg)
      else (s, some (s.query 1008 cmd body))

/-- A secured message in its turn (08 R272 to R274, 13 R413). -/
def State.securedTurn (s : State) (t : Transport) (sessionId : Nat) (data : List Byte) : State :=
  let x := s.tr t
  if !s.spdmUp t then s
  else
    match (if x.session = some sessionId ∧ x.established ∧ x.keyed then Config.securedOpen x.keys x.seqIn data else none) with
    | none => s.setTr t { x with errors := x.errors + 1 }
    | some plain =>
      match (s.setTr t { x with seqIn := x.seqIn + 1 }).sessionQuery t plain with
      | (u, some a) => u.sessionReply t plain s.now a
      | (u, none) => u

/-- SECURED_MESSAGE: a query and its answer in the transport's session; a message that no session opens is discarded and counted, one before the session's FINISH or that the session's keys do not open like one after its end (08 R272 to R274, 13 R413; DESIGN CHOICE log 103). -/
def execSecuredMessage (t : Transport) (sessionId : Nat) (data : List Byte) (s : State) : Result :=
  .next (s.arrive t (.secured sessionId data) fun u => u.securedTurn t sessionId data)

/-- A message's turn comes (13 R408). -/
def State.spdmTurn (s : State) (t : Transport) (a : SpdmArrival) : State :=
  match a with
  | .clear r raw => s.spdmOn t r raw
  | .inSession r raw => s.spdmInSession t r raw
  | .secured id data => s.securedTurn t id data

/-- The messages whose turn has come, in the order of their arrival (13 R408). -/
def State.spdmDue (s : State) : State :=
  let u := { s with mbx := { s.mbx with spdm := s.mbx.spdm.filter fun w => w.ahead != 0 } }
  (s.mbx.spdm.filter fun w => w.ahead == 0).foldl (fun v w => v.spdmTurn w.transport w.arrival) u

end Sys2Proof.Machine
end

