-- ==== Sys2Proof/Machine/CmdMisc.lean ====
section
/-! DEFINITION. The control commands that act on the object buffer, sealed data, transfers, staging sessions and resets, and the mailboxes' own events (13 R406, R407, R417, R420, R424, R425, R427, 07 R223, R224, 08 R285, R286). -/

namespace Sys2Proof.Machine

open Sys2Proof

/-! ### Nonce and object buffer (13 R417, R420) -/

/-- AUTH_NONCE. -/
def State.cmdAuthNonce (s : State) (body : List Byte) : State × Response :=
  if !body.isEmpty then (s, answer stBadLen)
  else if s.drbg.failed then (s, answer stDrbgFailed)
  else
    let n : BitVec 256 := s.draw 256
    let t := s.drawn
    ({ t with mbx := { t.mbx with nonce := some n } }, answer stOk 0 (digestBytes n))

/-- AUTH_NONCE: a nonce is issued and held (13 R417). -/
def execAuthNonce (s : State) : Result := .next (s.runCmd 0x0101 fun t _ r => t.cmdAuthNonce r.body)

/-- OBJ_LOAD. -/
def State.cmdObjLoad (s : State) (body : List Byte) : State × Response :=
  let off := field body 0 4
  if body.length < 4 then (s, answer stBadLen)
  else if off % 4 ≠ 0 then (s, answer stBadField)
  else if 32768 < off + (body.length - 4) then (s, answer stBadLen)
  else ({ s with mbx := { s.mbx with object := memWrites s.mbx.object off (body.drop 4) } }, answer stOk)

/-- OBJ_LOAD: data enters the object buffer (13 R420, R423). -/
def execObjLoad (s : State) : Result := .next (s.runCmd 0x0102 fun t _ r => t.cmdObjLoad r.body)

/-- OBJ_CLEAR. -/
def State.cmdObjClear (s : State) (body : List Byte) : State × Response :=
  if !body.isEmpty then (s, answer stBadLen)
  else ({ s with mbx := { s.mbx with object := [] } }, answer stOk)

/-- OBJ_CLEAR: the object buffer is zeroed (13 R420). -/
def execObjClear (s : State) : Result := .next (s.runCmd 0x0103 fun t _ r => t.cmdObjClear r.body)

/-! ### Sealing (08 R285, R286) -/

/-- SERVED_MAP of a port, zero when none. -/
def State.servedMap (s : State) (p : PortId) : List Byte :=
  digestBytes (match (s.port p).map with | some m => m.digest | none => (0 : D384))

/-- The blob key (08 R286). -/
def State.blobKey (s : State) (key : BitVec 256) (bind mask : Nat) (salt : List Byte) : BitVec 256 :=
  let f := if bind.testBit 0 then digestBytes s.idn.fwDigest else []
  let m := if bind.testBit 1 then (allPorts.filter fun p => mask.testBit p.val).flatMap s.servedMap else []
  BitVec.ofNat 256 (beNat (kdf (digestBytes key) "YN3240 SEAL" (s.life.codeBytes ++ f ++ m ++ salt) 256))

/-- BIND, its reserved bytes and PORT_MASK at an offset meet R285. -/
def bindOk (bs : List Byte) (off : Nat) : Bool :=
  decide (field bs off 1 < 4) && zeros bs (off + 1) 3 && ((byteAt bs off).getLsbD 1 || zeros bs (off + 4) 4)

/-- SEAL_DATA. -/
def State.cmdSeal (s : State) (body : List Byte) : State × Response :=
  if body.length < 9 ∨ 1032 < body.length then (s, answer stBadLen)
  else if !bindOk body 0 then (s, answer stBadField)
  else
    match s.aonb.sealKey with
    | none => (s, answer stSealAbsent)
    | some k =>
      if s.drbg.failed then (s, answer stDrbgFailed)
      else
        let salt : BitVec 256 := s.draw 256
        let t := s.drawn
        let head := leBytes 4 0x45534E59 ++ leBytes 2 1 ++ leBytes 2 (body.length - 8) ++ slice body 0 8 ++ digestBytes salt
        let c := Config.gcmSeal (t.blobKey k (field body 0 1) (field body 4 4) (digestBytes salt)) 0 head (body.drop 8)
        (t, answer stOk 0 (head ++ c.1 ++ digestBytes c.2))

/-- SEAL_DATA: data is sealed into a blob (08 R285, R286). -/
def execSealData (s : State) : Result := .next (s.runCmd 0x0104 fun t _ r => t.cmdSeal r.body)

/-- A blob meets R285. -/
def blobOk (b : List Byte) : Bool :=
  let n := field b 6 2
  field b 0 4 == 0x45534E59 && field b 4 2 == 1 && decide (1 ≤ n ∧ n ≤ 1024) && bindOk b 8 && b.length == 0x40 + n

/-- UNSEAL_DATA. -/
def State.cmdUnseal (s : State) (b : List Byte) : State × Response :=
  match s.aonb.sealKey with
  | none => (s, answer stSealAbsent)
  | some k =>
    if !blobOk b then (s, answer stUnsealFail)
    else
      let n := field b 6 2
      let key := s.blobKey k (field b 8 1) (field b 12 4) (slice b 16 32)
      match Config.gcmOpen key 0 (slice b 0 48) (slice b 48 n) (BitVec.ofNat 128 (beNat (slice b (48 + n) 16))) with
      | some d => (s, answer stOk 0 d)
      | none => (s, answer stUnsealFail)

/-- UNSEAL_DATA: a blob's data under the current bindings (08 R285, R286). -/
def execUnsealData (s : State) : Result := .next (s.runCmd 0x0105 fun t _ r => t.cmdUnseal r.body)

/-! ### Transfers (07 R228 to R232, 13 R424, R425) -/

/-- The hopper has room for what these bytes add to the open transfer (07 R231). -/
def Hopper.takes (h : Hopper) (id off : Nat) (bs : List Byte) : Bool :=
  match h.current with
  | some t => if t.id = id then h.room (bs.length - (t.take off bs).2) else true
  | none => true

/-- BULK_DATA's header is right. -/
def bulkHeaderOk (body : List Byte) : Bool := decide (12 ≤ body.length) && decide (body.length ≤ 4080) && body.length % 4 == 0

/-- BULK_DATA, once the hopper has room for it. -/
def State.cmdBulk (s : State) (body : List Byte) : State × Response :=
  if !bulkHeaderOk body then (s, answer stBadLen)
  else if !zeros body 2 2 then (s, answer stBadField)
  else
    match s.bulkIn (field body 0 2) (field body 4 4) (body.drop 8) with
    | some t => (t, answer stOk)
    | none => (s, answer stTransfer)

/-- A BULK_DATA that is executing waits for room in the hopper (13 R424). -/
def State.bulkWaits (s : State) : Bool :=
  match s.executing with
  | some (_, r) => r.cmd == 0x0106 && bulkHeaderOk r.body && !s.hop.takes (field r.body 0 2) (field r.body 4 4) (r.body.drop 8)
  | none => false

/-- BULK_DATA: image bytes enter the open transfer, answered only once the hopper has taken them (13 R424, 07 R228, R231). -/
def execBulkData (s : State) : Result :=
  if s.bulkWaits then .next s else .next (s.runCmd 0x0106 fun t _ r => t.cmdBulk r.body)

/-- What the end of a transfer by abort leaves (13 R425). -/
def State.abortEffect (s : State) (k : TransferKind) : State :=
  match k with
  | .slot _ _ => s
  | .firmware =>
    let one := !(s.mil.running.getD false)
    { s with mil := s.mil.setFw one { s.mil.fw one with state := 3 } }
  | .substitute p =>
    if (s.port p).source = .adapter ∧ (s.port p).substDue.isSome then s.nextOption p ((s.port p).option.getD 3) else s

/-- TRANSFER_ABORT. -/
def State.cmdAbort (s : State) (body : List Byte) : State × Response :=
  if body.length ≠ 4 then (s, answer stBadLen)
  else if !zeros body 2 2 then (s, answer stBadField)
  else
    let id := field body 0 2
    match s.hop.current, s.hop.suspended with
    | some t, u =>
      if t.id = id then (s.endTransfer.abortEffect t.kind, answer stOk)
      else
        match u with
        | some v => if v.id = id then ({ s with hop := { s.hop with suspended := none } }, answer stOk) else (s, answer stTransfer)
        | none => (s, answer stTransfer)
    | none, _ => (s, answer stTransfer)

/-- TRANSFER_ABORT: a transfer ends with what R425 leaves (13 R425, 07 R232). -/
def execTransferAbort (s : State) : Result := .next (s.runCmd 0x0107 fun t _ r => t.cmdAbort r.body)

/-! ### Staging sessions (07 R223, R224) -/

/-- A body of PORT and three reserved bytes. -/
def portBody (body : List Byte) : Option (Option PortId) :=
  if body.length ≠ 4 then none else some (if zeros body 1 3 then portOf (field body 0 1) else none)

/-- A slot goes to STAGING: what was preloaded for it goes, as do its pending switch and its repair (07 R221, R238, R256). -/
def State.toStaging (s : State) (p : PortId) (i : SlotId) : State :=
  if (s.slot p i).state = .staging then s
  else
    (s.dropPreload p i).modSlot p i fun r =>
      { r with state := .staging, switchPending := false, hopperImage := false, repairPending := false }

/-- A new staging begins with no intake digests; one that the slot is already in goes on (07 R224 to R226). -/
def State.freshIntake (s : State) (p : PortId) (i : SlotId) : State :=
  if (s.slot p i).state = .staging then s
  else
    let t := s.modPort p fun x => { x with intake := [], intakeOff := false }
    { t with pond := t.pond.freeIntake p }

/-- The staging-window region of the map that a port serves. -/
def Port.window (x : Port) : Option Region := x.map.bind fun m => m.regions.find? fun r => r.policy == 5

/-- STAGE_OPEN. -/
def State.cmdStageOpen (s : State) (body : List Byte) (settingsOk : Bool) : State × Response :=
  if body.length ≠ 8 then (s, answer stBadLen)
  else
    match portOf (field body 0 1), zeros body 1 3 with
    | some p, true =>
      let x := s.port p
      let off := field body 4 4
      if x.state ≠ .service then (s, answer stBadState (portCode x.state))
      else
        match x.window, x.cfg with
        | some w, some c =>
          if s.hop.onSlot p (s.standbySlot p) then (s, answer stHopperBusy)
          else if off % 4096 ≠ 0 ∨ c.v < off + w.len then (s, answer stBadField)
          else if !settingsOk then (s, answer stSettings)
          else
            let i := s.standbySlot p
            (((s.freshIntake p i).toStaging p i).modPort p fun y => { y with staging := some off }, answer stOk)
        | _, _ => (s, answer stRefused 0x30)
    | _, _ => (s, answer stBadField)

/-- STAGE_OPEN: a staging session opens on the standby slot, or its offset moves (07 R223, R224). -/
def execStageOpen (settingsOk : Bool) (s : State) : Result := .next (s.runCmd 0x0301 fun t _ r => t.cmdStageOpen r.body (t.stores settingsOk))

/-- STAGE_CLOSE and STAGE_ABORT. -/
def State.cmdStageEnd (s : State) (body : List Byte) (abandon settingsOk : Bool) : State × Response :=
  match portBody body with
  | none => (s, answer stBadLen)
  | some none => (s, answer stBadField)
  | some (some p) =>
    if (s.port p).staging.isNone then (s, answer stBadState (portCode (s.port p).state))
    else if !settingsOk then (s, answer stSettings)
    else (s.endStaging p abandon, answer stOk)

/-- STAGE_CLOSE: the session ends and its intake digests stay (07 R224). -/
def execStageClose (settingsOk : Bool) (s : State) : Result := .next (s.runCmd 0x0108 fun t _ r => t.cmdStageEnd r.body false (t.stores settingsOk))

/-- STAGE_ABORT: the session ends and its intake digests go (07 R224, R226). -/
def execStageAbort (settingsOk : Bool) (s : State) : Result := .next (s.runCmd 0x0109 fun t _ r => t.cmdStageEnd r.body true (t.stores settingsOk))

/-! ### Resets by command (06 R206, R213, 13 R427) -/

/-- PORT_RESET. -/
def State.cmdPortReset (s : State) (body : List Byte) : State × Response :=
  match portBody body with
  | none => (s, answer stBadLen)
  | some none => (s, answer stBadField)
  | some (some p) =>
    if (s.port p).state = .isolated then (s, answer stBadState (portCode .isolated)) else (s.resetPort p, answer stOk)

/-- PORT_RESET: a port reset of the named port (06 R213). -/
def execPortReset (s : State) : Result := .next (s.runCmd 0x010A fun t _ r => t.cmdPortReset r.body)

/-- A device reset waits for the response to be taken (13 R427). -/
def State.oweReset (s : State) : State := { s with mbx := { s.mbx with resetDue := true } }

/-- DEVICE_RESET: answered OK, with the reset to come (13 R427). -/
def execDeviceReset (s : State) : Result :=
  .next (s.runCmd 0x010B fun t _ r => if r.body.isEmpty then (t.oweReset, answer stOk) else (t, answer stBadLen))

/-- DEFERRED_RESET_TIMER: 100 µs after RSP_READY the device reset begins (13 R427, 14 R452). -/
def execDeferredResetTimer (s : State) : Result := s.powered <|
  if s.mbx.resetDue && s.mbx.owner.accepted.isNone then .next (s.resetDevice .command) else .next s

/-- MILLER_RESTART: the restart, answered by the restarted miller (06 R206, 13 R427, R432). -/
def execMillerRestart (env : RomEnv) (s : State) : Result :=
  match s.executing with
  | some (m, r) =>
    if r.cmd ≠ 0x010C then .next s
    else if r.body.isEmpty then .next ((s.finishCmd m (answer stOk)).millerRestart .command env true)
    else .next (s.finishCmd m (answer stBadLen))
  | none => .next s

/-! ### The mailboxes' own events (13 R406, R407, R427) -/

/-- MAILBOX_DOORBELL: RING is written (13 R404, R406, R409 to R420, 12 R394, R403). -/
def execMailboxDoorbell (m : MbxEvent) (s : State) : Result :=
  if !s.mbxTakes m.mbx then .next s else .next (s.ringMbox m.mbx m.faults)

/-- MAILBOX_RESPONSE: a completed command's response is delivered (13 R405, R407, R412). -/
def execMailboxResponse (m : MbxEvent) (s : State) : Result := s.powered <| .next (s.deliver m.mbx m.faults).spdmDue

/-- RSP_ACK is written: RSP_READY clears, a device reset that waited for it begins, and a RING that waited is accepted (13 R406, R407, R427). -/
def State.ackMbox (s : State) (m : MbxId) (f : EngFaults := {}) : State :=
  let x := s.mbox m
  if x.ready then
    let t := s.setMbox m { x with ready := false }
    if m = .owner ∧ s.mbx.resetDue then t.resetDevice .command else t.tryAccept m f
  else s

/-- MAILBOX_RSP_ACK (12 R403, 13 R407, R427). -/
def execMailboxRspAck (m : MbxEvent) (s : State) : Result :=
  if !s.mbxTakes m.mbx then .next s else .next (s.wakeUp.ackMbox m.mbx m.faults)

end Sys2Proof.Machine
end

