-- ==== Sys2Proof/Machine/CmdFw.lean ====
section
/-! DEFINITION. The commands that update the device's own firmware (13 R424, R437 to R442). -/

namespace Sys2Proof.Machine

open Sys2Proof

/-! ### Blowing OTP bits (14 R443, 07 R244) -/

/-- Blow `n` bits from index `lo` upwards; `stuck` names those of the sequence that fail to blow. -/
def blowRange {w : Nat} (x : BitVec w) (lo n : Nat) (stuck : List Nat) : BitVec w :=
  x ||| BitVec.ofNat w (maskNat n (fun j => !stuck.contains j) * 2 ^ lo)

/-- How many of a sequence of `n` bits blow. -/
def blowCount (stuck : List Nat) (n : Nat) : Nat := (List.range n).countP fun j => !stuck.contains j

/-- The answer of a command that blew `k` of `n` bits. -/
def otpAnswer (k n : Nat) (body : List Byte) : Response :=
  if k = n then answer stOk 0 body else answer stOtpFail (min k 255)

/-! ### Transfers of firmware (13 R424, R439, R440) -/

/-- The next transfer ID: 0 is skipped (13 R424). -/
def nextId (c : Nat) : Nat := if (c + 1) % 65536 = 0 then 1 else (c + 1) % 65536

/-- The firmware slot that is not running. -/
def Miller.spare (m : Miller) : Bool := !(m.running.getD false)

/-- FW_BEGIN. -/
def State.cmdFwBegin (s : State) (body : List Byte) : State × Response :=
  let n := field body 0 4
  if body.length ≠ 4 then (s, answer stBadLen)
  else if n < 4096 ∨ 4194304 < n then (s, answer stBadField)
  else if s.hop.current.isSome then (s, answer stHopperBusy)
  else
    let id := nextId s.hop.counter
    let one := s.mil.spare
    let t : Transfer := { id, kind := .firmware, map := none, mapBytes := [], len := n, data := [], got := [], written := [], erased := [], complete := [] }
    ({ s with
       hop := { s.hop with current := some t, counter := id }
       mil := s.mil.setFw one { s.mil.fw one with state := 1 } },
     answer stOk 0 (leBytes 2 id ++ leBytes 1 (bit one) ++ ([0] : List Byte) ++ leBytes 4 t.blocks))

/-- FW_BEGIN: a firmware transfer opens to the slot that is not running (13 R424, R439). -/
def execFwBegin (s : State) : Result := .next (s.runCmd 0x010D fun t _ r => t.cmdFwBegin r.body)

/-- The record of a slot whose image passed FW_COMMIT. -/
def fwValid (x : FwImage) : FwSlot :=
  { state := 2, major := x.major, minor := x.minor, cmdSet := x.cmdSet, svn := x.svn, settingsMax := x.settingsMax, lastBoot := 0,
    digest := x.digest }

/-- The image fails FW_COMMIT: its slot is invalid and the transfer ends (13 R440). -/
def State.fwFails (s : State) (status : Nat) : State × Response :=
  let one := s.mil.spare
  (({ s with mil := s.mil.setFw one { s.mil.fw one with state := 3 } }).endTransfer.event 937, answer status)

/-- What FW_COMMIT makes of the image as the home flash holds it (13 R438, R440). -/
def State.fwJudge (s0 : State) (len : Nat) (image : List Byte) (fault : Bool) : State × Response :=
  let s := s0.fwHash image
  match parseFw image with
  | none => s.fwFails stFwFormat
  | some x =>
    if len ≠ 256 + x.codeLen + fwBlockLen image x ∨ (fwEntries image x).isNone then s.fwFails stFwFormat
    else if !s.engineUp || fault then (s, answer stEngine)
    else if !fwSigned image x true then s.fwFails stFwSig
    else if x.svn < s.otp.fwFloorVal then s.fwFails stFwRollback
    else
      (({ s with mil := s.mil.setFw s.mil.spare (fwValid x) }).endTransfer.event 936,
       answer stOk 0 (leBytes 8 x.svn ++ digestBytes x.digest))

/-- FW_COMMIT. -/
def State.cmdFwCommit (s : State) (cap : Nat) (body readback : List Byte) (fault : Bool) : State × Response :=
  if body.length ≠ 4 then (s, answer stBadLen)
  else if !zeros body 2 2 then (s, answer stBadField)
  else
    match s.hop.current with
    | some t =>
      if t.id ≠ field body 0 2 ∨ t.kind ≠ .firmware then (s, answer stTransfer)
      else if !t.whole then (s, answer stMissing 0 (t.missingBytes cap))
      else s.fwJudge t.len (slice readback 0 t.len) fault
    | none => (s, answer stTransfer)

/-- FW_COMMIT: the image is read back and checked (13 R438, R440). `readback` is what the home flash returns. -/
def execFwCommit (readback : List Byte) (s : State) : Result :=
  .next (s.runCmd 0x010E fun t m r => t.cmdFwCommit (bodyCap m) r.body readback r.ownFault)

/-! ### Activation and the floor (13 R437, R441, R442) -/

/-- FORMAT of every stored settings item. -/
def State.storedFormats (s : State) : List Nat :=
  let ports := allPorts.flatMap fun p => let x := s.pstore p; [x.config, x.sluice, x.mapA, x.mapB, x.mapG]
  ([s.store.device, s.store.graph, s.store.tamper] ++ ports).filterMap fun i => i.read.map itemFormat

/-- What refuses an FW_ACTIVATE, none when it is accepted; without VIO_HOME its boot record cannot be written (13 R433, R437, R441, R442, 17 R531). -/
def State.activateRefusal (s : State) (body : List Byte) : Option Response :=
  let n := field body 0 1
  let f := s.mil.fw (n == 1)
  if body.length ≠ 4 then some (answer stBadLen)
  else if 1 < n ∨ !zeros body 1 3 then some (answer stBadField)
  else if f.state ≠ 2 then some (answer stBadState f.state)
  else if !s.stores true then some (answer stSettings)
  else if s.storedFormats.any fun k => decide (f.settingsMax < k) then some (answer stFwSettings)
  else if f.svn < s.otp.fwFloorVal then some (answer stFwRollback)
  else none

/-- The answer of FW_ACTIVATE by the restarted miller: FW_SIG when the other slot runs (13 R441). -/
def State.activateAnswer (s : State) (want : Bool) : Response :=
  match s.mil.running with
  | some one =>
    let f := s.mil.fw one
    answer (if one = want then stOk else stFwSig) 0 (leBytes 1 (bit one) ++ leBytes 1 f.major ++ leBytes 1 f.minor ++ leBytes 1 f.cmdSet)
  | none => answer stFwSig

/-- FW_ACTIVATE: the boot record prefers the slot and the miller restarts on it (13 R427, R432, R437, R441, 17 R531). -/
def execFwActivate (env : RomEnv) (s : State) : Result :=
  match s.executing with
  | some (m, r) =>
    if r.cmd ≠ 0x0308 then .next s
    else
      match s.activateRefusal r.body with
      | some a =>
        let t := s.finishCmd m a
        .next (if a.status = stSettings then t.writeFailed 0x0308 r.body else t)
      | none =>
        let want := field r.body 0 1 == 1
        let t := { s with mil := { s.mil with preferFw1 := want } }
        let u := t.millerRestart .command env true
        .next (u.finishCmd m (u.activateAnswer want))
  | none => .next s

/-- FW_FLOOR_RAISE. -/
def State.cmdFwFloor (s : State) (body : List Byte) (stuck : List Nat) : State × Response :=
  let v := field body 0 1
  if body.length ≠ 4 then (s, answer stBadLen)
  else if v = 0 ∨ !zeros body 1 3 then (s, answer stBadField)
  else if s.idn.fwSvn < v then (s, answer stFwRollback)
  else
    let floor := s.otp.fwFloorVal
    let n := v - floor
    let k := blowCount stuck n
    let t := { s with otp := { s.otp with fwFloor := blowRange s.otp.fwFloor floor n stuck } }
    (if k = 0 then t else t.event 907, otpAnswer k n (leBytes 1 t.otp.fwFloorVal ++ [0, 0, 0]))

/-- FW_FLOOR_RAISE: the firmware rollback floor rises to FLOOR (13 R442). `stuck` names the bits that fail to blow, by their place in the sequence. -/
def execFwFloorRaise (stuck : List Nat) (s : State) : Result := .next (s.runCmd 0x0309 fun t _ r => t.cmdFwFloor r.body stuck)

end Sys2Proof.Machine
end

