-- ==== Sys2Proof/Machine/CmdSlots.lean ====
section
/-! DEFINITION. The commands that stage, commit and switch slots, store configuration, and raise rollback floors (07 R227 to R244, 13 R420, R424 to R431, 06 R198). -/

namespace Sys2Proof.Machine

open Sys2Proof

/-! ### Images (07 R227 to R234, R251, 13 R425) -/

/-- The mill map in the object buffer: none when it would extend past the buffer (13 R420). -/
def State.objectMap (s : State) : Option (List Byte) :=
  let n := leNat (memReads s.mbx.object 8 4)
  if n ≤ 32768 then some (memReads s.mbx.object 0 n) else none

/-- A command's answer to a map result code other than MAP_OK, MAP_ENGINE among them (03 R112, 13 R421). -/
def mapAnswer (code : Nat) : Response := answer stMap code

/-- A transfer opens, and the answer that reports it (13 R423, R424). -/
def State.openTransfer (s : State) (kind : TransferKind) (m : MillMap) (bytes : List Byte) : State × Response :=
  let id := nextId s.hop.counter
  let t : Transfer := { id, kind, map := some m, mapBytes := bytes, len := m.imageLen, data := [], got := [], written := [], erased := [], complete := [] }
  ({ s with hop := { s.hop with current := some t, counter := id } },
   answer stOk 0 (leBytes 2 id ++ [0, 0] ++ leBytes 4 t.len ++ leBytes 4 t.blocks))

/-- IMAGE_BEGIN for a flash slot; without VIO_HOME its slot record cannot be written (07 R220, 17 R531). -/
def State.imageSlot (s : State) (p : PortId) (i : SlotId) (fault : Bool) : State × Response :=
  let x := s.port p
  let st := (s.slot p i).state
  match s.cfgInForce p with
  | none => (s, answer stBadState (portCode x.state))
  | some c =>
    if st = .absent ∨ st = .active ∨ (x.staging.isSome ∧ i = s.standbySlot p) then (s, answer stBadState (slotStateCode st))
    else
      match x.partOn (c.cs i) with
      | none => (s, answer stBadState (portCode x.state))
      | some part =>
        if s.hop.current.isSome then (s, answer stHopperBusy)
        else
          match s.objectMap with
          | none => (s, answer stBadLen)
          | some bytes =>
            let v := verifyMap s.otp bytes p c.v c.hybrid (s.engines fault)
            let h := s.mapHash bytes v.1
            match v with
            | (0, some m) =>
              if !eraseOk part m then (h, answer stErase)
              else if s.writesForbidden p c i then (h, answer stShared)
              else if !s.stores true then (h, answer stSettings)
              else (h.toStaging p i).openTransfer (.slot p i) m bytes
            | (code, _) => (h, mapAnswer code)

/-- A substitute's or a firmware image's transfer is open, or another port's substitute comes first: adapter substitutions are served one at a time, in ascending port number (07 R230, R251, 13 R439). A staging transfer whose bytes cannot be written now cannot be suspended either, since R231 has them written first: the command is answered HOPPER_BUSY, and may be sent again (DESIGN CHOICE log 117). -/
def State.substBusy (s : State) (p : PortId) : Bool :=
  (match s.hop.current with
    | some t => (match t.kind with | .slot _ _ => s.writesHeld t | .firmware => true | .substitute _ => true)
    | none => false)
    || allPorts.any fun q => decide (q < p) && (s.port q).substDue.isSome

/-- IMAGE_BEGIN for a port's substitute: the lost slot's stored map is used, and the substitute's granules are taken (07 R248, R250, R251, 13 R425). -/
def State.imageSubst (s : State) (p : PortId) (fault : Bool) : State × Response :=
  let x := s.port p
  if x.substDue.isNone ∨ x.source ≠ .adapter ∨ (x.state ≠ .recovering ∧ x.state ≠ .measuring) then (s, answer stBadState (portCode x.state))
  else if s.substBusy p then (s, answer stHopperBusy)
  else
    match s.recoveryCfg p with
    | none => (s, answer stBadState (portCode x.state))
    | some c =>
      let r := s.verifySlotMap p (s.lostSlot p) c (s.engines fault)
      let h := s.storedHash p (s.lostSlot p) r.1
      match r with
      | (0, some m) =>
        let u := if s.hop.current.isSome then h.suspendTransfer else h
        let f := { u with pond := u.pond.freePort p }
        let v := (f.settle storeDomains).allocSubst p 0 m.allGranules
        let w := (v.modPort p fun y =>
          { y with state := .measuring, armMap := some m, deadlines := [], captures := [], filled := 0, loaded := 0, badRegion := none }).advertise p c m true
        if !f.substFits p m then (h, answer stBadState (portCode x.state))
        else w.openTransfer (.substitute p) m ((((s.pstore p).map (s.lostSlot p)).read).getD [])
      | (code, _) => (h, mapAnswer code)

/-- IMAGE_BEGIN. -/
def State.cmdImageBegin (s : State) (body : List Byte) (fault : Bool) : State × Response :=
  if body.length ≠ 4 then (s, answer stBadLen)
  else
    match portOf (field body 0 1), field body 1 1, zeros body 2 2 with
    | some p, 0, true => s.imageSlot p (s.standbySlot p) fault
    | some p, 1, true => s.imageSlot p .g fault
    | some p, 2, true => s.imageSubst p fault
    | _, _, _ => (s, answer stBadField)

/-- IMAGE_BEGIN: a map is verified and a transfer opens to its target (07 R227, R229, R230, R233, R251, 13 R425). -/
def execImageBegin (s : State) : Result := .next (s.runCmd 0x0201 fun t _ r => t.cmdImageBegin r.body r.ownFault)

/-- The map is stored and the slot COMMITTED (07 R234). -/
def State.commitSlot (s : State) (p : PortId) (i : SlotId) (bytes : List Byte) (hopper switch : Bool) : State :=
  (s.setPstore p ((s.pstore p).setMap i (((s.pstore p).map i).write bytes))).modSlot p i fun r =>
    { r with state := .committed, hopperImage := hopper, switchPending := switch
             switchSetAt := if switch then s.switchOrder p else r.switchSetAt }

/-- The open transfer is a staging of this slot. -/
def State.stagingTransfer (s : State) (p : PortId) (i : SlotId) : Option Transfer :=
  match s.hop.current with
  | some t => if t.kind = .slot p i then some t else none
  | none => none

/-- The suspended transfer is a staging of this slot. -/
def State.suspendedOn (s : State) (p : PortId) (i : SlotId) : Bool :=
  match s.hop.suspended with | some t => t.kind == .slot p i | none => false

/-- SLOT_COMMIT once its fields are right. -/
def State.commitCmd (s : State) (cap : Nat) (p : PortId) (i : SlotId) (switch settingsOk fault : Bool) : State × Response :=
  let st := (s.slot p i).state
  let open_ := (s.port p).staging.isSome ∧ i = s.standbySlot p
  match s.cfgInForce p with
  | none => (s, answer stBadState (portCode (s.port p).state))
  | some c =>
    if st ≠ .staging ∨ open_ ∨ s.suspendedOn p i then (s, answer stBadState (slotStateCode st))
    else
      match s.stagingTransfer p i with
      | some t =>
        if !t.whole then (s, answer stMissing 0 (t.missingBytes cap))
        else
          let v := verifyMap s.otp t.mapBytes p c.v c.hybrid (s.engines fault)
          let h := s.mapHash t.mapBytes v.1
          match v with
          | (0, some _) => if settingsOk then (h.endTransfer.commitSlot p i t.mapBytes true switch, answer stOk) else (h, answer stSettings)
          | (code, _) => (h, mapAnswer code)
      | none =>
        match s.objectMap with
        | none => (s, answer stBadLen)
        | some bytes =>
          let v := verifyMap s.otp bytes p c.v c.hybrid (s.engines fault)
          let h := s.mapHash bytes v.1
          match v with
          | (0, some _) => if settingsOk then (h.commitSlot p i bytes false switch, answer stOk) else (h, answer stSettings)
          | (code, _) => (h, mapAnswer code)

/-- SLOT_COMMIT. SWITCH is refused for the golden slot (07 R234); that the refusal is BAD_FIELD is the model's (DESIGN CHOICE log 113). -/
def State.cmdSlotCommit (s : State) (cap : Nat) (body : List Byte) (settingsOk fault : Bool) : State × Response :=
  let flags := field body 2 1
  if body.length ≠ 4 then (s, answer stBadLen)
  else
    match portOf (field body 0 1), slotOf (field body 1 1), decide (flags ≤ 1) && zeros body 3 1 with
    | some p, some i, true =>
      if flags = 1 ∧ i = .g then (s, answer stBadField) else s.commitCmd cap p i (flags == 1) settingsOk fault
    | _, _, _ => (s, answer stBadField)

/-- SLOT_COMMIT: the slot's map is verified and stored, and the slot is COMMITTED (07 R234, 03 R114). -/
def execSlotCommit (settingsOk : Bool) (s : State) : Result :=
  .next (s.runCmd 0x0202 fun t m r => t.cmdSlotCommit (bodyCap m) r.body (t.stores settingsOk) r.ownFault)

/-- SLOT_SWITCH. -/
def State.cmdSlotSwitch (s : State) (body : List Byte) (settingsOk : Bool) : State × Response :=
  let flags := field body 1 1
  if body.length ≠ 4 then (s, answer stBadLen)
  else
    match portOf (field body 0 1), decide (flags ≤ 1) && zeros body 2 2 with
    | some p, true =>
      let i := s.standbySlot p
      let st := (s.slot p i).state
      if st ≠ .committed ∧ st ≠ .ready then (s, answer stBadState (slotStateCode st))
      else if !settingsOk then (s, answer stSettings)
      else
        let t := s.modSlot p i fun r => { r with switchPending := true, switchSetAt := s.switchOrder p }
        (if flags = 1 then t.resetPort p else t, answer stOk)
    | _, _ => (s, answer stBadField)

/-- SLOT_SWITCH: the standby slot's switch is pending, and NOW makes the port reset (13 R426, 07 R239). -/
def execSlotSwitch (settingsOk : Bool) (s : State) : Result := .next (s.runCmd 0x0302 fun t _ r => t.cmdSlotSwitch r.body (t.stores settingsOk))

/-! ### Configuration (13 R428 to R431, 06 R198) -/

/-- The geometry of a port (13 R430). -/
def PortCfg.sameGeometry (c d : PortCfg) : Bool :=
  c.vlog2 == d.vlog2 && c.csA == d.csA && c.csB == d.csB && c.csG == d.csG && c.baseA == d.baseA && c.baseB == d.baseB
    && c.baseG == d.baseG && c.golden == d.golden

/-- A slot record written anew (13 R430). -/
def freshSlot (c : PortCfg) (i : SlotId) (st : SlotState) : SlotRec := { cs := c.cs i, base := c.base i, state := st }

/-- A port's maps are discarded and its slot records rewritten, slot A ACTIVE on an initial map (13 R430). -/
def State.newGeometry (s : State) (p : PortId) (c : PortCfg) (init : Option (List Byte)) : State :=
  let t := ((s.endStaging p true).dropPreload p .a).dropPreload p .b
  let x := t.pstore p
  let y := ((x.setSlot .a (freshSlot c .a (if init.isSome then .active else .empty))).setSlot .b (freshSlot c .b .empty)).setSlot .g
    (freshSlot c .g (if c.golden then .empty else .absent))
  t.setPstore p { y with
    mapA := match init with | some m => ({} : Item).write m | none => {}
    mapB := {}
    mapG := {}
    lost := none }

/-- The record is stored, and a port reset follows when RESET is set (13 R429). -/
def State.storeCfg (s : State) (p : PortId) (record : List Byte) (reset settingsOk : Bool) (t : State) : State × Response :=
  if !settingsOk then (s, answer stSettings)
  else
    let u := t.setPstore p { t.pstore p with config := (t.pstore p).config.write record }
    (if reset then u.resetPort p else u, answer stOk)

/-- PORT_CONFIG for a record that meets R429. -/
def State.cmdPortRecord (s : State) (p : PortId) (flags : Nat) (record : List Byte) (settingsOk fault : Bool) : State × Response :=
  let c := portCfgOf record
  let st := (s.port p).state
  let same := match s.cfgOf p with | some d => c.sameGeometry d | none => false
  let reset := flags.testBit 1
  if same then s.storeCfg p record reset settingsOk s
  else if st ≠ .disabled ∧ st ≠ .waiting ∧ st ≠ .failed then (s, answer stBadState (portCode st))
  else if !flags.testBit 0 then s.storeCfg p record reset settingsOk (s.newGeometry p c none)
  else
    match s.objectMap with
    | none => (s, answer stBadLen)
    | some bytes =>
      let v := verifyMap s.otp bytes p c.v c.hybrid (s.engines fault)
      let h := s.mapHash bytes v.1
      match v with
      | (0, some _) => h.storeCfg p record reset settingsOk (h.newGeometry p c (some bytes))
      | (code, _) => (h, mapAnswer code)

/-- PORT_CONFIG. -/
def State.cmdPortConfig (s : State) (body : List Byte) (settingsOk fault : Bool) : State × Response :=
  let flags := field body 0 1
  let record := body.drop 4
  if body.length ≠ 68 then (s, answer stBadLen)
  else if 3 < flags ∨ !zeros body 1 3 then (s, answer stBadField)
  else
    match portOf (field record 6 1) with
    | some p =>
      if itemFormat record = 2 ∧ portCfgOk record p then s.cmdPortRecord p flags record settingsOk fault else (s, answer stConfig)
    | none => (s, answer stConfig)

/-- PORT_CONFIG: a port configuration record is stored, with what a change of geometry brings (13 R429, R430). -/
def execPortConfig (settingsOk : Bool) (s : State) : Result :=
  .next (s.runCmd 0x0303 fun t _ r => t.cmdPortConfig r.body (t.stores settingsOk) r.ownFault)

/-- SLUICE_STORE. -/
def State.cmdSluice (s : State) (body : List Byte) (settingsOk : Bool) : State × Response :=
  let table := body.drop 4
  if body.length < 20 ∨ 1044 < body.length then (s, answer stBadLen)
  else
    match portOf (field body 0 1), zeros body 1 3 with
    | some p, true =>
      let code := (checkSluice table (knownClass [] [] []) true).1
      if code ≠ 0 then (s, answer stSluice code)
      else if !settingsOk then (s, answer stSettings)
      else (s.setPstore p { s.pstore p with sluice := (s.pstore p).sluice.write table }, answer stOk)
    | _, _ => (s, answer stBadField)

/-- SLUICE_STORE: a sluice table is checked and stored (13 R428, 05 R162). -/
def execSluiceStore (settingsOk : Bool) (s : State) : Result := .next (s.runCmd 0x0304 fun t _ r => t.cmdSluice r.body (t.stores settingsOk))

/-- GRAPH_STORE. -/
def State.cmdGraph (s : State) (body : List Byte) (settingsOk : Bool) : State × Response :=
  if body.length ≠ 528 then (s, answer stBadLen)
  else if !graphOk body then (s, answer stGraph)
  else if !settingsOk then (s, answer stSettings)
  else ({ s with store := { s.store with graph := s.store.graph.write body } }, answer stOk)

/-- GRAPH_STORE: the release graph is checked and stored (06 R197, R198). -/
def execGraphStore (settingsOk : Bool) (s : State) : Result := .next (s.runCmd 0x0305 fun t _ r => t.cmdGraph r.body (t.stores settingsOk))

/-- DEV_CONFIG. -/
def State.cmdDevice (s : State) (body : List Byte) (settingsOk : Bool) : State × Response :=
  if body.length ≠ 32 then (s, answer stBadLen)
  else if itemFormat body ≠ 2 ∨ !devCfgOk body then (s, answer stConfig)
  else if !settingsOk then (s, answer stSettings)
  else
    ({ s with
       store := { s.store with device := s.store.device.write body }
       mil := { s.mil with authHybrid := (devCfgOf body).authHybrid } }, answer stOk)

/-- DEV_CONFIG: the device configuration record is stored (13 R431). -/
def execDevConfig (settingsOk : Bool) (s : State) : Result := .next (s.runCmd 0x0306 fun t _ r => t.cmdDevice r.body (t.stores settingsOk))

/-! ### Rollback floors (07 R243, R244) -/

/-- A map of this domain lies below a version. -/
def MillMap.below (m : MillMap) (dom v : Nat) : Bool := m.domain == dom && decide (m.secVersion < v)

/-- An active map would fall below the floor (07 R243). -/
def State.activeBelow (s : State) (dom v : Nat) : Bool :=
  allPorts.any fun p =>
    (match (s.port p).map with | some m => m.below dom v | none => false)
      || [SlotId.a, .b].any fun i => (s.slot p i).state == .active && match s.slotMap p i with | some m => m.below dom v | none => false

/-- A golden slot's map would fall below the floor (07 R243). -/
def State.goldenBelow (s : State) (dom v : Nat) : Bool :=
  allPorts.any fun p => match s.slotMap p .g with | some m => m.below dom v | none => false

/-- ROLLBACK_RAISE for a domain and a version. -/
def State.raiseFloor (s : State) (d : Fin 16) (v : Nat) (acceptGolden : Bool) (stuck : List Nat) : State × Response :=
  let floor := s.otp.floor d.val
  let body := fun u : State => leBytes 1 (u.otp.floor d.val) ++ [0, 0, 0]
  if v ≤ floor then (s, answer stOk 0 (body s))
  else if s.activeBelow d.val v then (s, answer stRbActive)
  else if s.goldenBelow d.val v && !acceptGolden then (s, answer stRbGolden)
  else
    let n := v - floor
    let k := blowCount stuck n
    let t := { s with otp := { s.otp with floors := s.otp.floors.set d (blowRange s.otp.floors[d] floor n stuck) } }
    (if k = 0 then t else t.event 906, otpAnswer k n (body t))

/-- ROLLBACK_RAISE. -/
def State.cmdRollback (s : State) (body : List Byte) (stuck : List Nat) : State × Response :=
  let v := field body 1 1
  if body.length ≠ 4 then (s, answer stBadLen)
  else if h : field body 0 1 < 16 then
    if v = 0 ∨ 128 < v ∨ 1 < field body 2 1 ∨ !zeros body 3 1 then (s, answer stBadField)
    else s.raiseFloor ⟨field body 0 1, h⟩ v (field body 2 1 == 1) stuck
  else (s, answer stBadField)

/-- ROLLBACK_RAISE: a rollback domain's floor rises (07 R243, R244). `stuck` names the bits that fail to blow, by their place in the sequence. -/
def execRollbackRaise (stuck : List Nat) (s : State) : Result := .next (s.runCmd 0x0307 fun t _ r => t.cmdRollback r.body stuck)

end Sys2Proof.Machine
end

