-- ==== Sys2Proof/Machine/Digest.lean ====
section
/-! DEFINITION. The digest contexts and the owner's window (10 R316 to R334). -/

namespace Sys2Proof.Machine

open Sys2Proof

/-- Context of a window context (10). -/
def winCtx (n : Fin 4) : Fin 16 := ⟨12 + n.val, by omega⟩

/-- ALLOC (10 R317, R326). -/
def State.dgeAlloc (s : State) : State :=
  let d := s.dge
  match (List.finRange 4).find? fun n => d.ctx[winCtx n].state == .free with
  | some n =>
    let t := (s.settle digestDomains).modCtx (winCtx n) fun c => { c with state := .ready, tag := d.tag }
    { t with dge := { t.dge with resTag := d.tag, resCtx := n.val, result := 1 } }
  | none => { s with dge := { d with resTag := d.tag, result := 2, cntFull := d.cntFull + 1 } }

/-- START (10 R327). -/
def State.dgeStart (s : State) (n : Fin 4) : State :=
  let k := winCtx n
  if s.dge.ctx[k].state = .free then s
  else
    ({ s.modCtx k fun c => { c with
        state := .opened, alg := c.cfgAlg, len := c.cfgLen, msg := [], busy := false, finalKept := false, short := false
        trunc := false, posterr := false, fault := false, digest := [] } with
      fab := s.fab.dropContext k }).dispatch

/-- DATA (10 R328, R329). -/
def State.dgeData (s : State) (n : Fin 4) (w : Word) : State :=
  let k := winCtx n
  let c := s.dge.ctx[k]
  if c.state != .opened then s
  else if c.busy then s.modCtx k fun c => { c with posterr := true }
  else if c.len ≤ c.msg.length then s.modCtx k fun c => { c with trunc := true }
  else
    let msg := c.msg ++ (leBytes 4 w.toNat).take (c.len - c.msg.length)
    let t := s.modCtx k fun c => { c with msg }
    if msg.length % algBlock c.alg = 0 then
      ((t.modCtx k fun c => { c with busy := true }).enqueue k 1).dispatch
    else t

/-- FINAL; one written while BUSY is kept (10 R330 to R332). -/
def State.dgeFinal (s : State) (n : Fin 4) : State :=
  let k := winCtx n
  let c := s.dge.ctx[k]
  if c.state != .opened then s
  else if c.busy then s.modCtx k fun c => { c with finalKept := true }
  else (s.finalActs k).dispatch

/-- FREE (10 R319). -/
def State.dgeFree (s : State) (n : Fin 4) : State := (s.freeCtx (winCtx n)).dispatch

/-- DGE_ALLOC: the owner's write of ALLOC under the TAG written with it (10 R317, R326, 12 R389, R403). -/
def execDgeAlloc (s : State) : Result := if !s.ownerWrites then .next s else .next s.dgeAlloc

/-- DGE_START: the owner's write of CTRL.START (10 R327, 12 R389, R403). -/
def execDgeStart (n : Fin 4) (s : State) : Result := if !s.ownerWrites then .next s else .next (s.dgeStart n)

/-- DGE_DATA: the owner's write of DATA (10 R328, R329, 12 R389, R403). -/
def execDgeData (n : Fin 4) (w : Word) (s : State) : Result := if !s.ownerWrites then .next s else .next (s.dgeData n w)

/-- DGE_FINAL: the owner's write of CTRL.FINAL (10 R330 to R332, 12 R389, R403). -/
def execDgeFinal (n : Fin 4) (s : State) : Result := if !s.ownerWrites then .next s else .next (s.dgeFinal n)

/-- DGE_FREE: the owner's write of CTRL.FREE (10 R319, 12 R389, R403). -/
def execDgeFree (n : Fin 4) (s : State) : Result := if !s.ownerWrites then .next s else .next (s.dgeFree n)

/-- A context of an HSS/LMS verification ends: with FAULT it produces no digest, and what it was a part of does not verify (10 R321, R322). -/
def Dge.hssEnds (d : Dge) (c : Context) : Dge := if c.fault then { d with hss := d.hss.map fun r => (r.1, false) } else d

/-- DIGEST_FINALIZE_DONE: the last block of a FINALIZING context completes; one of the miller's, that an HSS/LMS verification held, is FREE again (10 R321, R322, R330, R332). -/
def execDigestFinalizeDone (n : Fin 16) (s : State) : Result := s.powered <|
  let c := s.dge.ctx[n]
  if c.state != .finalizing || s.fab.queue.any fun b => b.src == .context n then .next s
  else
    let stones := s.fab.stones.map fun x => match x.busy with
      | some b => if b.src = .context n then { x with busy := none } else x
      | none => x
    let f : State := { s with fab := { s.fab with stones } }
    let t := if n.val < 12 then ({ f with dge := f.dge.hssEnds c }).freeCtx n
      else f.modCtx n fun c => { c with state := .done, digest := if c.fault then [] else digestOf c.alg c.msg }
    .next t.dispatch

/-- Shape of an LMS level: chains p, Winternitz w, blocks B_K of the public key's hash, tree height H (10 R323). -/
structure LmsLevel where
  p : Nat
  w : Nat
  bk : Nat
  h : Nat

/-- The level of the LMS public key at an offset; none for types that R102 does not accept (03 R102, 10 R323). -/
def lmsLevel (bs : List Byte) (off : Nat) : Option LmsLevel :=
  match lmsHeight (be32 bs off), be32 bs (off + 4) with
  | some h, 3 => some { p := 67, w := 4, bk := 34, h }
  | some h, 4 => some { p := 34, w := 8, bk := 18, h }
  | _, _ => none

/-- The levels of a signature whose parameters are accepted: that of the key, and with L = 2 that of the key it signs (03 R102). -/
def hssLevels (pk sg : List Byte) : List LmsLevel :=
  (lmsLevel pk 4).toList ++ (if be32 pk 0 = 2 then ((lmsSigLen sg 4).bind fun n => lmsLevel sg (4 + n)).toList else [])

/-- Blocks of a level on the j-th of c contexts: its share of the chains, each of full length, and on the first the hashes of the key and the path (10 R322, R323; log 43). -/
def LmsLevel.blocks (x : LmsLevel) (c j : Nat) : Nat := (x.p + c - 1 - j) / c * (2 ^ x.w - 1) + (if j = 0 then x.bk + 2 * x.h + 3 else 0)

/-- The chains of a verification on its contexts: each holds its share of the blocks, in class 3, until they are done (04 R148, 10 R315, R317, R322). -/
def State.hssWork (s : State) (cs : List (Fin 16)) (ls : List LmsLevel) : State :=
  cs.zipIdx.foldl (fun u (n, j) =>
    (u.modCtx n fun c => { c with state := .finalizing, alg := 0 }).hashWork 3 (.context n) ((ls.map fun l => l.blocks cs.length j).sum) [] true) s

/-- HSS_LMS_VERIFY: the miller verifies an HSS/LMS signature on up to 8 of its contexts, each FREE again once its blocks are done; with none FREE it ends as CTX_FULL (10 R317, R318, R322, 03 R102, R103; log 43). -/
def execHssLmsVerify (message pubkey sig : List Byte) (s : State) : Result :=
  let cs := s.millerFrees.take 8
  let good := hssParamsOk pubkey sig
  let t := if good then (s.settle digestDomains).hssWork cs (hssLevels pubkey sig) else s
  if s.dark then .next s
  else .next { t with dge := { t.dge with hss := some (cs.length, !cs.isEmpty && good && Config.sigValid 0x20 pubkey [] message sig) } }

end Sys2Proof.Machine
end

