-- ==== Sys2Proof/Machine/Fantail.lean ====
section
/-! DEFINITION. The fantail election: CLAIM, RENEW and YIELD from the link masters and from master 14, and its timers (11 R373 to R382, 12 R389, R401). -/

namespace Sys2Proof.Machine

open Sys2Proof

/-! ### Claims (11 R375 to R377) -/

/-- The message that a signed CLAIM signs (11 R376). -/
def claimMsg (serial : BitVec 64) (body : List Byte) : List Byte :=
  ascii "fantail claim" ++ leBytes 8 serial.toNat ++ slice body 0 1 ++ slice body 4 32

/-- The form of a CLAIM body: length, MASTER, ALG, reserved bytes and the current NONCE (11 R375). -/
def Fan.claimForm (f : Fan) (m : Master) (body : List Byte) : Bool :=
  body.length == 232 && field body 0 1 == masterId m && decide (field body 1 1 ≤ 1) && zeros body 2 2 && zeros body 0xE5 3
    && f.offered && slice body 4 32 == f.nonceBytes && (field body 1 1 != 0 || zeros body 0x24 193)

/-- check: the STATUS code of R376, 0 for a valid claim. -/
def State.checkClaim (s : State) (m : Master) (body : List Byte) (engineFault : Bool) : Nat :=
  let pk := slice body 0x24 97
  if !s.fan.claimForm m body then 0x02
  else if s.fan.directed.isSome && s.fan.directed != some m then 0x02
  else if field body 1 1 = 0 then (if s.life.state = .blank ∨ s.life.state = .test then 0x00 else 0x02)
  else if !keyMatches (s.otp.keys.toList.getD 9 0) (Config.sha384 (([1, 0] : List Byte) ++ pk)) then 0x02
  else if !s.engineUp || engineFault then 0x06
  else if keyPointOk 1 pk && Config.sigValid 1 pk [] (claimMsg s.sys.serial body) (slice body 0x85 96) then 0x00
  else 0x02

/-- A CLAIM, RENEW or YIELD refused is counted; a CLAIM so answered raises an event (11 R383, 16 R503). -/
def State.fanRefused (s : State) (isClaim : Bool) : State :=
  let t := { s with fan := { s.fan with cntRefused := s.fan.cntRefused + 1 } }
  if isClaim then t.event 662 else t

/-- on CLAIM (11 R377): the state and the STATUS of the reply. -/
def State.onClaim (s : State) (m : Master) (body : List Byte) (engineFault : Bool) : State × Nat :=
  if s.fan.prio m = 0 then (s.fanRefused true, 0x04)
  else if s.fan.owner.isSome then (s.fanRefused true, 0x03)
  else
    match s.checkClaim m body engineFault with
    | 0 =>
      if s.fan.window then
        ({ s with fan := { s.fan with cands := if s.fan.cands.contains m then s.fan.cands else s.fan.cands ++ [m] } }, 0x01)
      else (s.grant m, 0x00)
    | c => (s.fanRefused true, c)

/-- on RENEW (11 R378). -/
def State.onRenew (s : State) (m : Master) : State × Nat :=
  if s.fan.owner = some m then
    ({ s with fan := { s.fan with leaseEnd := s.now + 2000000000, leasePaused := s.fan.leasePaused.map fun _ => 2000000000 } }, 0x00)
  else (s.fanRefused false, 0x05)

/-- A directed offer to a named successor: a new NONCE for 10 ms (11 R379). -/
def State.offerTo (s : State) (m : Master) : State :=
  let nonce : BitVec 256 := s.draw 256
  let t := s.drawn
  let u := { t with fan := { t.fan with nonce, offered := true, directed := some m, windowEnd := t.now + windowNs } }
  match m with
  | .m14 => u
  | m => u.sendOffer (masterId m) true

/-- on YIELD (11 R379): ownership ends, and a named successor is offered it. A SUCCESSOR that R375 does not list is a wrong format (DEDUCED log 28); the reserved bytes are not looked at. -/
def State.onYield (s : State) (m : Master) (body : List Byte) : State × Nat :=
  if s.fan.owner ≠ some m then (s.fanRefused false, 0x05)
  else
    let n := field body 0 1
    if body.length != 4 || (n != 0xFF && (masterOf n).isNone) then (s.fanRefused false, 0x02)
    else
      let t := s.ownershipEnds 661
      match masterOf n with
      | some k => (t.offerTo k, 0x00)
      | none => (t.openWindow, 0x00)

/-- RESULT to the sender of a FANTAIL frame (11 R375). -/
def State.fanReply (s : State) (f : Frame) (status : Nat) : State := s.respond f 9 status 0 5 s.fan.resultBody

/-- The reply to a link master; a frame from no master of the election is dropped. -/
def State.fanServe (s : State) (f : Frame) (act : State → Master → State × Nat) : State :=
  match masterOf f.src with
  | some .m14 | none => s
  | some m => ((act s m).1).fanReply f (act s m).2

/-- CLAIM: the oldest frame of a port is a CLAIM; it wakes the device, and is checked and held, granted or refused (11 R376, R377, R379, 17 R519). -/
def execClaim (l : LinkId) (engineFault : Bool) (s : State) : Result :=
  match s.takeFrame l 9 (some 2) with
  | some (f, t) => .next (t.wakeUp.fanServe f fun u m => u.onClaim m f.payload engineFault)
  | none => .next s

/-- RENEW, which wakes the device (11 R378, 17 R519). -/
def execRenew (l : LinkId) (s : State) : Result :=
  match s.takeFrame l 9 (some 3) with
  | some (f, t) => .next (t.wakeUp.fanServe f fun u m => u.onRenew m)
  | none => .next s

/-- YIELD, which wakes the device (11 R379, 17 R519). -/
def execYieldOwner (l : LinkId) (s : State) : Result :=
  match s.takeFrame l 9 (some 4) with
  | some (f, t) => .next (t.wakeUp.fanServe f fun u m => u.onYield m f.payload)
  | none => .next s

/-! ### Master 14 (11 R374, 12 FAN_SEND) -/

/-- Master 14's message in progress is served while the miller runs: its RESULT is in FAN_RESULT when BUSY clears (12 FAN_SEND). -/
def State.fanAnswer (s : State) (act : State → State × Nat) : State :=
  if s.serves then
    let r := act s
    { r.1 with fan := r.1.fan.storeResult r.2 true }
  else s

/-- A FAN_SEND row: the KIND write that sends FAN_MSG and its RESULT; where a write by I3C has set BUSY with this KIND the RESULT alone; another KIND while BUSY is discarded (12 R397, FAN_SEND; log 103). -/
def State.fanSend (s : State) (kind : Nat) (act : State → State × Nat) : State :=
  if !s.fan.sendBusy then (s.postSend kind).fanAnswer act
  else if s.fan.sendKind = kind then s.fanAnswer act
  else s.postSend kind

/-- FAN_SEND_CLAIM (11 R374, R377, 12 FAN_SEND, R403). -/
def execFanSendClaim (engineFault : Bool) (s : State) : Result :=
  if !s.takesWrites .m14 then .next s
  else .next (s.fanSend 2 fun t => t.onClaim .m14 t.fan.sent engineFault)

/-- FAN_SEND_RENEW (11 R374, R378, 12 FAN_SEND, R403). -/
def execFanSendRenew (s : State) : Result := if !s.takesWrites .m14 then .next s else .next (s.fanSend 3 fun t => t.onRenew .m14)

/-- FAN_SEND_YIELD (11 R374, R379, 12 FAN_SEND, R403). -/
def execFanSendYield (s : State) : Result :=
  if !s.takesWrites .m14 then .next s else .next (s.fanSend 4 fun t => t.onYield .m14 (t.fan.sent.take 4))

/-! ### Timers (11 R377 to R379) -/

/-- FIRST_WINDOW_TIMER: no link port is ACTIVE 100 ms after the miller starts, and no window has opened yet; a timer of the miller wakes it (11 R377, 17 R519). -/
def execFirstWindowTimer (s : State) : Result := if s.linkUp || s.dark || s.fan.opened then .next s else .next s.stir.openWindow

/-- Better candidate: the higher priority, ties to the lower master. -/
def Fan.better (f : Fan) (a b : Master) : Bool :=
  decide (f.prio b < f.prio a) || (f.prio a == f.prio b && decide (masterId a < masterId b))

/-- The candidate that is granted (11 R377). -/
def Fan.winner (f : Fan) : Option Master :=
  f.cands.foldl (fun acc m => match acc with | some w => if f.better m w then some m else some w | none => some m) none

/-- A CLAIM that a link port has received, or that master 14 has sent, has not been checked (11 R374, R377, R379, R380). -/
def State.claimWaits (s : State) : Bool :=
  ((s.link.la.term0 ++ s.link.lb.term0).any fun f => f.type == 9 && f.argB % 16 == 2) || (s.fan.sendBusy && s.fan.sendKind == 2)

/-- ELECTION_WINDOW_EXPIRY: the window ends once every claim received has been checked; a timer of the miller, it wakes it (11 R377, R380, 17 R519). -/
def execElectionWindowExpiry (s : State) : Result := s.powered <|
  if !s.fan.window || s.claimWaits then .next s
  else
    let t := (s.upTo s.fan.windowEnd).stir
    match t.fan.winner with
    | some m => .next (t.grant m)
    | none => .next ({ t with fan := { t.fan with window := false, cands := [] } }).resultToAll

/-- DIRECTED_OFFER_EXPIRY: once every claim received within the 10 ms has been checked; it wakes the miller (11 R379, 17 R519). -/
def execDirectedOfferExpiry (s : State) : Result := s.powered <|
  if s.fan.directed.isNone || s.claimWaits then .next s
  else
    let t := (s.upTo s.fan.windowEnd).stir
    .next ({ t with fan := { t.fan with directed := none } }).openWindow

/-- LEASE_EXPIRY: the 2 s lease ends, unless a miller restart holds its timer; it wakes the miller (06 R210, 11 R378, 17 R519). -/
def execLeaseExpiry (s : State) : Result := s.powered <|
  if s.fan.owner.isNone || s.fan.leasePaused.isSome then .next s
  else
    let t := (s.upTo s.fan.leaseEnd).stir
    .next (t.ownershipEnds 660).openWindow

end Sys2Proof.Machine
end

