-- ==== Sys2Proof/Machine/Stream.lean ====
section
/-! DEFINITION. Stream verification in service: epochs, tallies, completion reads, verdicts, deadlines, re-reads and classification (04 R130 to R147). -/

namespace Sys2Proof.Machine

open Sys2Proof

/-! ### Tallies (04 R133) -/

/-- Multiply by x in GF(2^128) with x^128 + x^7 + x^2 + x + 1. -/
def gfTimesX (v : BitVec 128) : BitVec 128 := (v <<< 1) ^^^ (if v.msb then 0x87#128 else 0#128)

/-- Multiplication in that field. -/
def gfMul (a b : BitVec 128) : BitVec 128 :=
  (List.range 128).foldl (fun acc i => gfTimesX acc ^^^ (if b.getLsbD (127 - i) then a else 0#128)) 0#128

/-- Powers of K; exponents go to 65,536. -/
def gfPow (k : BitVec 128) (n : Nat) : BitVec 128 :=
  (List.range 17).foldl (fun acc i => if n.testBit (16 - i) then gfMul (gfMul acc acc) k else gfMul acc acc) 1#128

/-- Sum of b · K^(o+1) over bytes whose first one has weight `w`. -/
def tallyFrom (k : BitVec 128) : BitVec 128 → List Byte → BitVec 128
  | _, [] => 0#128
  | w, b :: bs => gfMul (b.setWidth 128) w ^^^ tallyFrom k (gfMul w k) bs

/-- Tally of bytes at leaf offset `off`. -/
def tally (k : BitVec 128) (off : Nat) (bs : List Byte) : BitVec 128 := tallyFrom k (gfPow k (off + 1)) bs

/-! ### Trackers (04 R131 to R135) -/

/-- Prefix offset P. -/
def Tracker.p (t : Tracker) : Nat := t.bytes.length

/-- A span takes in its part of a prefix run at [P, P + n). -/
def Span.pass (x : Span) (p n : Nat) : Nat :=
  let lo := max x.start p
  let hi := min (x.start + x.len) (p + n)
  hi - lo

/-- The prefix advances over bytes; those inside a span enter T_dev (04 R132 item 2, R133). -/
def Tracker.advance (t : Tracker) (k : BitVec 128) (bs : List Byte) : Tracker :=
  let p := t.p
  let dev := t.spans.foldl (fun acc x =>
    let n := x.pass p bs.length
    if n = 0 then acc else
      let lo := max x.start p
      acc ^^^ tally k lo ((bs.drop (lo - p)).take n)) t.tDev
  { t with bytes := t.bytes ++ bs, tDev := dev, spans := t.spans.map fun x => { x with seen := x.seen + x.pass p bs.length } }

/-- The first offset of [a, a + n) inside an existing span. -/
def Tracker.clash (t : Tracker) (a n : Nat) : Option Nat :=
  let hits := t.spans.filterMap fun x =>
    let lo := max x.start a
    if lo < min (x.start + x.len) (a + n) then some lo else none
  hits.foldl (fun acc h => match acc with | some v => some (min v h) | none => some h) none

/-- Record a span (04 R132 item 3). -/
def Tracker.addSpan (t : Tracker) (k : BitVec 128) (a : Nat) (bs : List Byte) : Tracker :=
  { t with spans := t.spans ++ [{ start := a, len := bs.length, seen := 0 }], tHost := t.tHost ^^^ tally k a bs }

/-- Epoch complete (04 R134). -/
def Tracker.complete (t : Tracker) : Bool := t.p == 65536 && t.spans.all fun x => x.seen == x.len

/-- A new epoch of a leaf (04 R132 item 1, R138). -/
def newTracker (region leaf : Nat) (cs : Bool) (due : Nat) : Tracker :=
  { region, leaf, cs, bytes := [], spans := [], tHost := 0, tDev := 0, due, paused := none, overdue := false, closed := false }

/-- Change the first tracker that a predicate names. -/
def modFirst (f : Tracker → Bool) (g : Tracker → Tracker) : List Tracker → List Tracker
  | [] => []
  | t :: ts => if f t then g t :: ts else t :: modFirst f g ts

/-- Host bytes of one leaf enter its epochs (04 R132): the trackers after, and how many bytes were taken before a seventeenth epoch was needed (04 R141). -/
def takeLeaf (k : BitVec 128) (region leaf : Nat) (cs : Bool) (due : Nat) :
    Nat → List Tracker → Nat → List Byte → List Tracker × Nat
  | 0, ts, _, _ => (ts, 0)
  | fuel + 1, ts, off, bs =>
    if bs.isEmpty then (ts, 0)
    else
      let mine := fun t : Tracker => t.region == region && t.leaf == leaf && !t.closed
      match ts.find? mine with
      | none =>
        if ts.length < 16 then takeLeaf k region leaf cs due fuel (ts ++ [newTracker region leaf cs due]) off bs
        else (ts, 0)
      | some t =>
        if off = t.p then (modFirst mine (fun t => t.advance k bs) ts, bs.length)
        else
          let room := if off < t.p then min bs.length (t.p - off) else bs.length
          let n := match t.clash off room with | some c => c - off | none => room
          if n = 0 || t.spans.length == 16 then
            takeLeaf k region leaf cs due fuel (modFirst mine (fun t => { t with closed := true }) ts) off bs
          else
            let (ts', m) := takeLeaf k region leaf cs due fuel (modFirst mine (fun t => t.addSpan k off (bs.take n)) ts) (off + n) (bs.drop n)
            (ts', n + m)

/-- The first span part recorded below P that T_dev has not seen, in ascending offset (04 R135). -/
def Tracker.reread (t : Tracker) : Option Span :=
  (t.spans.filter fun x => decide (x.seen < x.len) && decide (x.start + x.seen < t.p)).foldl
    (fun acc x => match acc with | some y => if x.start < y.start then some x else some y | none => some x) none

/-- A completion read brings bytes of an epoch: first the rest of the leaf, then span parts (04 R135). -/
def Tracker.completion (t : Tracker) (k : BitVec 128) (data : List Byte) : Tracker :=
  if t.p < 65536 then t.advance k (data.take (65536 - t.p))
  else
    match t.reread with
    | none => t
    | some x =>
      let bs := data.take (x.len - x.seen)
      { t with
        tDev := t.tDev ^^^ tally k (x.start + x.seen) bs
        spans := t.spans.map fun y => if y.start = x.start && y.len == x.len then { y with seen := y.seen + bs.length } else y }

/-- Leaf offset of an epoch's next completion read (04 R135). -/
def Tracker.nextOffset (t : Tracker) : Nat :=
  if t.p < 65536 then t.p else match t.reread with | some x => x.start + x.seen | none => 0

/-- The transfer of a completion read; none where it waits (02 R556, 04 R135). -/
def State.completionTransfer (s : State) (p : PortId) (t : Tracker) (n : Nat) : Option State :=
  let x := s.port p
  match x.map.bind fun m => m.regions[t.region]? with
  | some r => s.devRead p t.cs (x.activeBase + r.start + 65536 * t.leaf + t.nextOffset) n false
  | none => some s

/-- COMPLETION_READ: the device reads the tailrace for the oldest open epoch whose reads are not paused, no sooner than Pn_HCS# has risen (04 R135, R137, R142, 02 R555). -/
def execCompletionRead (p : PortId) (data : List Byte) (s : State) : Result := s.powered <|
  let x := s.port p
  let ready := fun t : Tracker => !t.complete && t.paused.isNone
  match x.trackers.find? ready with
  | none => .next s
  | some t =>
    if (x.state = .service || x.state = .contained) && !x.hcsLow then
      match s.completionTransfer p t data.length with
      | none => .next s
      | some u =>
        let ts := modFirst ready (fun t => t.completion (x.tallyKey.getD 0) data) x.trackers
        .next ((u.modPort p fun y => { y with trackers := ts }).epochWork p x.trackers ts)
    else .next s

/-- Remove the first tracker that a predicate names. -/
def dropFirst (f : Tracker → Bool) : List Tracker → List Tracker
  | [] => []
  | t :: ts => if f t then ts else t :: dropFirst f ts

/-- An epoch can be judged: it is complete, and its region's leaf table is not being read again (04 R127, R134). -/
def Port.judged (x : Port) (t : Tracker) : Bool := t.complete && !x.reloads.contains t.region

/-- EPOCH_VERDICT: the oldest epoch that can be judged is judged; a failing verdict contains the port (04 R127, R130, R134, R142, R145, R151). `run` names the stone that produced the digest, and what it produced where it is faulty. -/
def execEpochVerdict (p : PortId) (run : StoneRun) (s : State) : Result := s.powered <|
  let x := s.port p
  match x.trackers.find? x.judged with
  | none => .next s
  | some t =>
    let u := s.setPort p { x with trackers := dropFirst x.judged x.trackers }
    if s.pond.leafEntry p t.region t.leaf = some (run.bad.getD (leafDigest t.bytes)) && t.tHost == t.tDev then
      .next (u.endContainment p)
    else .next (u.verdictFails p (.epoch t.region t.leaf) t.cs run.stone)

/-- DATA of DEADLINE and OVERFLOW (16 R506). -/
def epochData (x : Port) (region leaf : Nat) (contains : Bool) : List Byte :=
  leBytes 1 x.trackers.length ++ leBytes 1 (x.trackers.filter (·.overdue)).length ++ leBytes 1 (bit contains)
    ++ leBytes 1 region ++ leBytes 4 leaf

/-- The epoch whose deadline falls next: the earliest running timer. -/
def Port.nextDue (x : Port) : Option Tracker :=
  (x.trackers.filter fun t => !t.overdue && t.paused.isNone).foldl
    (fun acc t => match acc with | some u => if t.due < u.due then some t else some u | none => some t) none

/-- A region's DEADLINE_CONTAIN (03 R89). -/
def Port.deadlineContains (x : Port) (region : Nat) : Bool :=
  match x.map with
  | some m => match m.regions[region]? with | some r => r.rflags == 1 | none => false
  | none => false

/-- EPOCH_DEADLINE: an epoch reaches its deadline; the port is contained or goes on serving (04 R138, R140). -/
def execEpochDeadline (p : PortId) (s : State) : Result := s.powered <|
  let x := s.port p
  match x.nextDue with
  | none => .next s
  | some t =>
    let s := s.upTo t.due
    let y := { x with
      cntDeadline := x.cntDeadline + 1
      trackers := modFirst (fun u => u == t) (fun u => { u with overdue := true }) x.trackers }
    let c := x.deadlineContains t.region
    let u := (s.setPort p y).portEvent p 2 (epochData y t.region t.leaf c) c
    .next (if c then u.contain p .deadline else u)

/-! ### Re-reads and classification (04 R145 to R147) -/

/-- The digest that a failing unit must have. -/
def State.unitDigest (s : State) (p : PortId) : FailUnit → Option D256
  | .epoch r l => s.pond.leafEntry p r l
  | .granule n => match tblGet s.pond.granules n with | some g => g.digest | none => none

/-- Region, unit index and virtual address of a failing unit. -/
def State.unitPlace (s : State) (p : PortId) : FailUnit → Nat × Nat × Nat
  | .epoch r l =>
    match (s.port p).map with
    | some m => (r, l, match m.regions[r]? with | some x => x.start + 65536 * l | none => 0)
    | none => (r, l, 0)
  | .granule n => match tblGet s.pond.granules n with | some g => (g.region, n, g.va) | none => (0, n, 0)

/-- Replace the first failure a predicate names. -/
def modFail (f : VerdictFail → Bool) (g : VerdictFail → VerdictFail) : List VerdictFail → List VerdictFail
  | [] => []
  | t :: ts => if f t then g t :: ts else t :: modFail f g ts

/-- DATA of VERDICT_FAIL (16 R506). -/
def verdictData (f : VerdictFail) (place : Nat × Nat × Nat) : List Byte :=
  leBytes 1 (match f.cause with | .epoch _ _ => 0 | .granule _ => 1) ++ leBytes 1 f.stone.val ++ leBytes 1 (bit !f.katPass)
    ++ leBytes 1 (bit !f.r1) ++ leBytes 1 (match f.r2 with | none => 2 | some b => bit !b) ++ leBytes 1 (bit f.cs)
    ++ leBytes 1 place.1 ++ [0] ++ leBytes 4 place.2.1 ++ leBytes 4 place.2.2

/-- Length of a failing unit. -/
def FailUnit.size : FailUnit → Nat
  | .epoch _ _ => 65536
  | .granule _ => 4096

/-- The transfers of the re-reads: at f_port, and at half of it when the first did not match (04 R145, 02 R556). The port is contained or braked, so neither waits. -/
def State.rereads (s : State) (p : PortId) (f : VerdictFail) (second : Bool) : State :=
  let a := (s.port p).activeBase + (s.unitPlace p f.cause).2.2
  let t := (s.devReads p f.cs a f.cause.size false).rereadWork p f.cause.size f.stone
  if second then (t.devReads p f.cs a f.cause.size true).rereadWork p f.cause.size f.stone else t

/-- VERDICT_REREAD_DONE: the stone's known-answer test and the hardware re-reads of the oldest failure end, and the verdict-failure event carries their results; a failed test sets FAULT of the contexts that the stone served (04 R145, 10 R321). -/
def execVerdictRereadDone (p : PortId) (katPass : Bool) (first second : List Byte) (s : State) : Result := s.powered <|
  let x := s.port p
  match x.failures.find? (!·.done) with
  | none => .next s
  | some f =>
    let want := s.unitDigest p f.cause
    let r1 := want == some (leafDigest first)
    let r2 := if r1 then none else some (want == some (leafDigest second))
    let g : VerdictFail := { f with done := true, katPass, r1, r2, time := s.now, seq := s.log.seq }
    let t := (((s.katWork f.stone).retested f.stone katPass).rereads p f r2.isSome).modPort p fun y =>
      { y with failures := modFail (!·.done) (fun _ => g) y.failures, cntVerdict := y.cntVerdict + 1 }
    .next (t.portEvent p 0 (verdictData g (s.unitPlace p f.cause)) true)

/-- How a verdict failure is classified (04 R145). -/
inductive Verdict where
  | release | transient | permanent
deriving DecidableEq, Repr

/-- The miller's classify (04 R145). -/
def VerdictFail.classify (f : VerdictFail) (transients : List Nat) : Verdict :=
  let hit := f.r1 || f.r2 == some true
  if !f.katPass && hit then .release
  else if 4 < (transients.filter fun t => decide (f.time < t + sixtySeconds) && decide (t < f.time)).length then .permanent
  else if hit then .transient
  else .permanent

/-- The port's content is lost for good: its slot is retired, or its substitute is given up, and the port recovers (04 R146, 07 R246, log 23). -/
def State.permanent (s : State) (p : PortId) (region : Nat) : State :=
  match (s.port p).source with
  | .slot i => (s.retireSlot p i 0x12 region).startRecovery p
  | _ => s.startRecovery p

/-- A failure of the port waits for the miller: its event is raised and the port is contained (04 R146). -/
def Port.toClassify (x : Port) : Bool :=
  x.state == .contained && (match x.failures with | f :: _ => f.done | [] => false)

/-- No port of a lower number waits with a failure (04 R146: ascending port number). -/
def State.classTurn (s : State) (p : PortId) : Bool := allPorts.all fun q => decide (p ≤ q) || !(s.port q).toClassify

/-- VERDICT_CLASSIFY: the miller classifies the oldest failure whose re-reads are done, in ascending port number (04 R145 to R147, R151). A settings write that does not stand leaves it waiting (07 R220). A port that is contained for a lost fabric too is classified like any other, and PERMANENT takes it to RECOVERING, where R153 has it stay contained until the device reset (DESIGN CHOICE log 114). -/
def execVerdictClassify (p : PortId) (settingsOk retestPass : Bool) (s : State) : Result :=
  let x := s.port p
  match x.failures with
  | [] => .next s
  | f :: rest =>
    if !f.done || !s.millerRuns || x.state != .contained || !s.classTurn p then .next s
    else
      let v := f.classify x.transients
      if v = .permanent && !s.stores settingsOk then .next (match x.source with | .slot i => s.slotWriteFails p i settingsOk | _ => s)
      else
        let s1 := if f.katPass then s else (s.stoneFault f.stone 2 retestPass).dispatch
        let place := s.unitPlace p f.cause
        let s2 := s1.modPort p fun y => { y with failures := rest }
        match v with
        | .permanent => .next (s2.permanent p place.1)
        | .transient =>
          let s3 := s2.modPort p fun y => { y with transients := y.transients ++ [f.time], cntTransient := y.cntTransient + 1 }
          let n := (recent s.now sixtySeconds (s3.port p).transients).length
          .next ((s3.portEvent p 1 ([0] ++ leBytes 1 n ++ [0, 0] ++ leBytes 4 f.seq)).endContainment p)
        | .release =>
          let n := (recent s.now sixtySeconds x.transients).length
          .next ((s2.portEvent p 1 ([1] ++ leBytes 1 n ++ [0, 0] ++ leBytes 4 f.seq)).endContainment p)

/-- CONTAINMENT_END: the miller returns a port to MEASURED when nothing holds it contained (04 R117, R140, R142, 06 R217, 15 R483). -/
def execContainmentEnd (p : PortId) (s : State) : Result :=
  .next (s.endContainment p)

end Sys2Proof.Machine
end

