-- ==== Sys2Proof/Machine/Release.lean ====
section
/-! DEFINITION. Brakes, the release sequencer, HRDY, the sensed host reset, port supplies, and the virtual device's reset and recovery (06 R187 to R218, 02 R74 to R80, 05 R182, R561). -/

namespace Sys2Proof.Machine

open Sys2Proof

/-- Release record of a port. -/
def State.rel1 (s : State) (p : PortId) : RelRec := s.rel.records[p]

/-- The edge from q to p is satisfied (06 R200). -/
def State.edgeOk (s : State) (p q : PortId) : Bool :=
  let r := s.rel1 p
  let x := s.port q
  let h := r.hrdy.getLsbD q.val
  ((x.state == .service || x.state == .substitute) && (!h || x.hrdyQ))
    || x.state == .disabled
    || (r.skip.getLsbD q.val && (x.state == .failed || (h && x.hrdyTmo)))

/-- Every edge into p is satisfied (06 R201 item 2). -/
def State.edgesOk (s : State) (p : PortId) : Bool :=
  allPorts.all fun q => !(s.rel1 p).pred.getLsbD q.val || s.edgeOk p q

/-- BRAKE_MIN_ELAPSED: BRAKE_MIN has run since the latest assertion (06 R191). -/
def execBrakeMinElapsed (p : PortId) (s : State) : Result :=
  let x := s.port p
  if x.brake then .next ((s.upTo (x.brakeAt + (s.rel1 p).brakeMinMs * ms)).setPort p { x with brakeMinDone := true }) else .next s

/-- SETTLE_ELAPSED: SETTLE has run since the last edge became satisfied or the port entered MEASURED (06 R201, R205). -/
def execSettleElapsed (p : PortId) (s : State) : Result := s.powered <|
  let x := s.port p
  if x.state = .measured && s.edgesOk p then
    let t0 := x.edgesAt.getD s.now
    .next ((s.upTo (t0 + (s.rel1 p).settleMs * ms)).setPort p { x with edgesAt := some t0, settleDone := true })
  else .next s

/-- Every condition of R201 holds on p, and nothing withholds it: VDD and VDDM in range among them, since R188 keeps every latch clear below (06 R188, R199, R201, 04 R153; log 19). -/
def State.releasable (s : State) (p : PortId) : Bool :=
  let x := s.port p
  x.state == .measured && s.edgesOk p && (x.settleDone || (s.rel1 p).settleMs == 0) && x.brakeMinDone && x.vdReady
    && !x.vdResetDue && x.containBy.isEmpty && s.gov.vdd && s.gov.vddm && !s.rel.withheld.getLsbD p.val && !(s.fab.lost && x.hasStream)

/-- The pull-down turns off and the port enters SERVICE or SUBSTITUTE (06 R189, R202, 02 R557). -/
def Port.release (x : Port) (now : Nat) : Port :=
  { x with
    state := match x.source with | .slot _ => .service | _ => .substitute
    brake := false, releasedAt := now, hrdyQ := false, hrdyTmo := false, mode := some .s111, edgesAt := none, settleDone := false
    cntRelease := x.cntRelease + 1 }

/-- The extended address registers of the ports about to be released hold the value of R45 again (02 R45, R556). -/
def State.restoreExts (s : State) : State :=
  allPorts.foldl (fun u p => if s.releasable p then u.restoreExt p else u) s

/-- One port of the sequencer's evaluation (06 R200 to R205). -/
def State.evaluate (s : State) (p : PortId) (x : Port) : Port :=
  if s.releasable p then x.release s.now
  else if x.state = .measured then
    if s.edgesOk p then { x with edgesAt := some (x.edgesAt.getD s.now) } else { x with edgesAt := none, settleDone := false }
  else x

/-- A port about to serve has its stones' domains On from its release (17 R514, R517). -/
def State.serveDomains (s : State) : State :=
  if allPorts.any s.releasable then (s.powerDomain 4).powerDomain 5 else s

/-- PORT_RELEASE: the sequencer's evaluation of all 32 ports on one snapshot (06 R187, R189, R200 to R205). Where R233 forbids the device's own writes to a port that enters SERVICE, they stop (07 R233). The stones' domains are On as a port enters SERVICE or SUBSTITUTE (17 R514, R517). -/
def execPortRelease (s : State) : Result := s.powered <| .next (s.restoreExts.serveDomains.mapPorts s.evaluate).syncDev

/-- A commit is outstanding on the port (07 R239, R253). -/
def State.commitOutstanding (s : State) (p : PortId) : Bool :=
  [SlotId.a, .b].any fun i => let r := s.slot p i; (r.state == .committed || r.state == .ready) && r.switchPending

/-- HOST_RESET_SENSED: the reset net is low while the device does not assert the brake (06 R192, 07 R239). -/
def execHostResetSensed (p : PortId) (s : State) : Result :=
  let x := s.port p
  if x.brake then .next s
  else
    let t := (s.setPort p { x with extReset := true, cntHostReset := x.cntHostReset + 1 }).portEvent p 12 [2]
    .next (if s.commitOutstanding p then t.resetPort p else t)

/-- HRDY_QUALIFIED: HRDY was high for 10 µs since the latest release (06 R193, R194). -/
def execHrdyQualified (p : PortId) (s : State) : Result :=
  .next (s.modPort p fun x => { x with hrdyLevel := true, hrdyQ := !x.brake || x.hrdyQ })

/-- HRDY_DROPPED: HRDY falls; a qualification stays (06 R195). -/
def execHrdyDropped (p : PortId) (s : State) : Result :=
  let x := s.port p
  let t := s.setPort p { x with hrdyLevel := false }
  .next (if !x.brake && x.hrdyQ then t.portEvent p 12 [3] else t)

/-- HRDY_TIMEOUT: HRDY did not qualify within HRDY_TMO of the release (06 R196). -/
def execHrdyTimeout (p : PortId) (s : State) : Result :=
  let x := s.port p
  let n := (s.rel1 p).tmo10ms
  if x.brake || x.hrdyQ || x.hrdyTmo || n == 0 then .next s
  else .next (((s.upTo (x.releasedAt + n * 10 * ms)).setPort p { x with hrdyTmo := true }).portEvent p 13)

/-- The ports of a group (00, signals and identifiers). -/
def groupPorts (g : Fin 8) : List PortId := allPorts.filter fun p => p.val / 4 == g.val

/-- What leaving the range does to one port (06 R217). One CONTAINED already is contained for its supply too, which then holds it there (DESIGN CHOICE log 107). -/
def State.supplyLost (s : State) (p : PortId) : State :=
  match (s.port p).state with
  | .arming | .measuring => s.supplyFails p
  | .service | .substitute | .contained => s.contain p .supply
  | _ => s

/-- A supply's level as the governor measures it: its range, and whether it lies above 2.60 V (18 R534). -/
def Gov.setVio (x : Gov) (g : Fin 8) (v : VioState) (high : Bool) : Gov :=
  let b : BitVec 8 := BitVec.ofNat 8 (2 ^ g.val)
  { x with vioPg := x.vioPg.set g v, vioHigh := if high then x.vioHigh ||| b else x.vioHigh &&& ~~~b, vioBack := x.vioBack &&& ~~~b }

/-- A supply that was out is back in a window, and its 10 ms run (06 R217, 18 R534). -/
def Gov.vioReturns (x : Gov) (g : Fin 8) (high : Bool) : Gov :=
  if x.vioPg[g] = .out then
    let y := x.setVio g .out high
    { y with vioBack := y.vioBack ||| BitVec.ofNat 8 (2 ^ g.val) }
  else x

/-- VIO_PG_OUT_OF_RANGE: VIO_PGn leaves its range, to a level above 2.60 V or not; the ports' events come before the supply's, in ascending ID; without power the supply alone is out (06 R217, 16 R498, 17 R531, 18 R534). -/
def execVioPgOutOfRange (g : VioOut) (s : State) : Result :=
  let s0 : State := { s with gov := s.gov.setVio g.group .out g.high }
  let hit := (groupPorts g.group).any fun p => (s.port p).state == .arming || (s.port p).state == .measuring
  let s1 := (groupPorts g.group).foldl State.supplyLost s0
  .next (if s.dark then s0 else if hit then s1.event (868 + g.group.val) else s1)

/-- VIO_PG_RESTORED: VIO_PGn has been back in one of its ranges for 10 ms; or it has just come back, which GOV_SUPPLY shows while a supply containment stays (06 R217, 18 R534). -/
def execVioPgRestored (g : Fin 8) (back : VioBack) (s : State) : Result :=
  .next { s with gov := if back.held then s.gov.setVio g (if back.at33 then .v33 else .v18) back.at33 else s.gov.vioReturns g back.at33 }

/-! ### The virtual device's reset (02 R74 to R80) -/

/-- A virtual-device reset is asked for (02 R74). -/
def Port.askReset (x : Port) : Port := { x with vdResetDue := true, vdReady := false, rstEnable := false }

/-- HRST_PULSE: a low pulse on Pn_HRST# of so many 1 ns samples; 75 are a reset (02 R74). -/
def execHrstPulse (p : PortId) (lowSamples : Nat) (s : State) : Result := s.powered <|
  if 75 ≤ lowSamples ∧ (s.port p).cfg.isSome then .next (s.modPort p Port.askReset) else .next s

/-- Clock cycles of an opcode in a mode, the octal modes' extension included (02 R35, R40). -/
def opcodeCycles : BusMode → Nat
  | .s111 | .s114 | .s144 => 8
  | .s4s4d | .s888 => 2
  | .d888 => 1

/-- Time of the software pair in a mode and then in 1S-1S-1S, ns: four opcodes at f_port and the three gaps between them (02 R76, R77, R555; log 25). -/
def pairNs (c : PortCfg) (mode : BusMode) (f : Nat) : Nat :=
  ((2 * opcodeCycles mode + 16) * 1000 + (max f 1 - 1)) / max f 1 + 3 * max 10 c.cshNs

/-- How long after the reset ends the virtual device recovers, ns (02 R76, R77). -/
def recoverNs (c : PortCfg) (mode : BusMode) (f : Nat) : Nat :=
  let method := match c.resetMethod with | 1 => 1000 | 2 => 4000 | _ => pairNs c mode f
  max 40000 (method + c.rstRecov * 1000 + 1000)

/-- What R75 restores and R78 ends. Its list does not name the virtual deep power-down of R63; a reset ends it here (DESIGN CHOICE log 85). The virtual registers of the SCCR table hold their configured values all along, since no write changes one (02 R59, 05 R161). -/
def Port.vdReset (x : Port) (c : PortCfg) (now : Nat) : Port :=
  { x with
    mode := some .s111, addr4 := c.addr4, wel := false, wip := false, wipMode := false
    protErr := false, progErr := false, eraseErr := false, sr := c.srInit, extAddr := 0, dpd := false, rstEnable := false, seqs := []
    held := none, held2 := none, suspendDue := none, resumeDue := none, absorbed := none, absorbed2 := none, welClearDue := false
    vdResetDue := false, partResetDue := false, vdReady := false, recoveringVd := true, recoverDue := now + recoverNs c x.real.mode x.fport }

/-- VIRTUAL_DEVICE_RESET: the reset of R75 and R76 is performed; with the brake asserted it waits for an operation on the real part (02 R53, R59, R75 to R78, 05 R182, R561, 06 R203). -/
def execVirtualDeviceReset (p : PortId) (s : State) : Result := s.powered <|
  let x := s.port p
  match s.recoveryCfg p with
  | none => .next s
  | some c =>
    if x.state = .isolated || !(x.vdResetDue || x.partResetDue) || (x.brake && x.partBusy) then .next s
    else if x.vdResetDue then
      .next ((s.setPort p ((x.vdReset c s.now).retime s.now)).resetParts p c.resetMethod)
    else .next ((s.setPort p { x with partResetDue := false }).resetParts p c.resetMethod)

/-- VIRTUAL_DEVICE_RECOVERY: the virtual device has recovered (02 R77, R80). -/
def execVirtualDeviceRecovery (p : PortId) (s : State) : Result := s.powered <|
  let x := s.port p
  if x.recoveringVd then .next ((s.upTo x.recoverDue).setPort p { x with recoveringVd := false, vdReady := true }) else .next s

/-- PORT_RESET_BEGIN: a port reset, which wakes a miller that sleeps (06 R206, R207, R213, 07 R224, R236, R250, R253, 17 R519). -/
def execPortResetBegin (p : PortId) (s : State) : Result := s.powered <| .next (s.stir.resetPort p)

end Sys2Proof.Machine
end

