-- ==== Sys2Proof/Machine/HostSide.lean ====
section
/-! DEFINITION. A host transaction on a guarded port: decoding, the virtual flash, reads by region policy, the sluice's decision, and what follows on the tailrace (02, 04 R132, R141, 05). -/

namespace Sys2Proof.Machine

open Sys2Proof

/-! ### What the host reads of the virtual device -/

/-- `n` bytes of 0xFF. -/
def ones (n : Nat) : List Byte := List.replicate n 0xFF

/-- Drive bytes on the host side (02 R563: from the first data cycle). -/
def State.drive (s : State) (p : PortId) (bs : List Byte) : State := if bs.isEmpty then s else s.emit (.host p bs)

/-- Opcodes that carry a 4-byte address in every address mode (02 R40, R51). -/
def fourByteOps : List Byte := [0x13, 0x0C, 0x6C, 0xEC, 0xEE, 0x12, 0x34, 0x21, 0xDC]

/-- Address bytes that a command R40 knows carries: 4 in the octal modes, whose address phase R40 does not give (DESIGN CHOICE log 99). -/
def knownAddrBytes (x : Port) (op : Byte) : Nat :=
  let p4 := match x.part with | some q => q.prog4 | none => []
  if op = 0x5A then 3
  else if op ∈ [0x60, 0xC7, 0x75, 0xB0, 0x7A, 0x30] then 0
  else if fourByteOps.contains op || p4.contains op || x.mode == some .s888 || x.mode == some .d888 then 4
  else if x.addr4 then 4 else 3

/-- Address bytes of an entry (05 R159 ADDR). -/
def SlEntry.addrBytes (e : SlEntry) (x : Port) : Nat :=
  match e.addr with | 0 => 0 | 1 => 3 | 2 => 4 | _ => if x.addr4 then 4 else 3

/-- Virtual address of a host address: the extended address register supplies the high byte of a 3-byte one, and the bits above V are replaced (02 R44, R45; log 26). -/
def Port.virtAddr (x : Port) (v bytes addr : Nat) : Nat :=
  (if bytes = 3 then x.extAddr.toNat * 2 ^ 24 + addr else addr) % v

/-- The virtual status register (02 R54). -/
def Port.statusReg (x : Port) : Byte := BitVec.ofNat 8 (x.sr.toNat / 4 * 4 + 2 * bit x.wel + bit x.wip)

/-- The S2 flag status register (02 R54). -/
def Port.flagReg (x : Port) : Byte :=
  BitVec.ofNat 8 (128 * bit (!x.wip) + 32 * bit x.eraseErr + 16 * bit x.progErr + 2 * bit x.protErr)

/-- The S3 second status register: only its fail bits are virtual (02 R564). -/
def Port.sr2Reg (x : Port) (r : Sr2) : Byte :=
  match r.progBit, r.eraseBit with
  | some a, some b => BitVec.ofNat 8 (2 ^ a * bit x.progErr + 2 ^ b * bit x.eraseErr)
  | some a, none => BitVec.ofNat 8 (2 ^ a * bit x.protErr)
  | none, some b => BitVec.ofNat 8 (2 ^ b * bit x.protErr)
  | none, none => 0

/-- A status or flag read of the port's profile, and its byte: none for any other opcode (02 R54, R562, R564). -/
def Port.statusRead (x : Port) (op : Byte) : Option Byte :=
  if op = 0x05 then some x.statusReg
  else if op = 0x70 then some (if x.profile = 2 then x.flagReg else 0)
  else match x.sr2 with
    | some r => if r.opcode = op then some (x.sr2Reg r) else none
    | none => none

/-- A status read while WIP is set by a mode entry or a recovery (02 R61, R77). -/
def Port.busyRead (x : Port) (op : Byte) : Option Byte := ({ x with wip := true }).statusRead op

/-! ### Array reads (01 R15, 02 R42 to R48, 04 R126, R127, R130 to R141, 07 R252) -/

/-- Where a read comes from at an address: the region and how many bytes to its end, or to the next region. -/
def MillMap.span (m : MillMap) (v a : Nat) : Option (Nat × Region) × Nat :=
  match m.regionOf a with
  | some (k, r) => (some (k, r), r.start + r.len - a)
  | none =>
    let next := (m.regions.filterMap fun r => if a < r.start then some r.start else none).foldl min v
    (none, next - a)

/-- Why a resident read stops: an INVALID granule, or an uncorrectable line of one (04 R126, R127). -/
inductive PondStop where
  | fault
  | memory (n : Nat) (g : Granule)
deriving DecidableEq, Repr

/-- What a part of a read gave: the bytes served, whether the read ends there with 0xFF, what a resident part stopped on, whether a line was corrected, and whether the read ran past the array. -/
structure Served where
  s : State
  bytes : List Byte
  stop : Bool := false
  pond : Option PondStop := none
  fixed : Bool := false
  past : Bool := false

/-- A resident part, granule by granule, up to an INVALID granule or an uncorrectable line (04 R126, R127). -/
def readPond (p : PortId) (ecc : Ecc) : Nat → State → Nat → Nat → Served
  | 0, s, _, _ => { s, bytes := [] }
  | fuel + 1, s, a, n =>
    if n = 0 then { s, bytes := [] }
    else
      let k := min n (4096 - a % 4096)
      match s.pond.granuleAt p (a / 4096 * 4096) with
      | some (g, x) =>
        if x.state != .valid then { s, bytes := [], stop := true, pond := some .fault }
        else if ecc = .uncorrectable then { s, bytes := [], stop := true, pond := some (.memory g x) }
        else
          let r := readPond p ecc fuel s (a + k) (n - k)
          { r with bytes := slice x.data (a % 4096) k ++ r.bytes, fixed := r.fixed || ecc == .corrected }
      | none => { s, bytes := [], stop := true, pond := some .fault }

/-- A stream part, leaf by leaf; a seventeenth epoch contains the port (04 R132, R141). -/
def readStream (p : PortId) (k : Nat) (r : Region) (due : Nat) : Nat → State → Nat → List Byte → Served
  | 0, s, _, _ => { s, bytes := [] }
  | fuel + 1, s, a, bs =>
    if bs.isEmpty then { s, bytes := [] }
    else
      let x := s.port p
      let leaf := (a - r.start) / 65536
      let off := (a - r.start) % 65536
      let n := min bs.length (65536 - off)
      let (ts, took) := takeLeaf (x.tallyKey.getD 0) k leaf x.activeCs due 64 x.trackers off (bs.take n)
      let t := (s.setPort p ({ x with trackers := ts }.retime s.now)).epochWork p x.trackers ts
      if took < n then
        let y := t.port p
        let u := (t.setPort p { y with cntOverflow := y.cntOverflow + 1 }).portEvent p 3
          (epochData y k leaf (r.rflags == 1)) true
        { s := u.contain p .overflow, bytes := bs.take took, stop := true }
      else
        let w := readStream p k r due fuel t (a + n) (bs.drop n)
        { w with bytes := bs.take n ++ w.bytes }

/-- Index of a stream region among the stream regions. -/
def MillMap.streamIdx (m : MillMap) (k : Nat) : Nat := (m.streams.takeWhile fun (j, _) => j != k).length

/-- A read of the virtual device from an address: `real` is what the part returns in the same data cycles. -/
def readArray (p : PortId) (m : MillMap) (v : Nat) (ecc : Ecc) : Nat → State → Nat → Nat → List Byte → Served
  | 0, s, _, _, _ => { s, bytes := [] }
  | fuel + 1, s, a, n, real =>
    if n = 0 then { s, bytes := [] }
    else if v ≤ a then { s, bytes := [], stop := true, past := true }
    else
      let x := s.port p
      let subst := x.state == .substitute
      let (here, len) := m.span v a
      let k := min n len
      let blank : Served := { s, bytes := ones k }
      let part : Served :=
        match here with
        | none => blank
        | some (j, r) =>
          if r.policy = 5 then blank
          else if r.resident || (subst && r.verified) then readPond p ecc (k + 1) s a k
          else if subst then blank
          else if x.executing x.activeCs then blank
          else if r.stream then
            readStream p j r (s.now + x.deadlines.getD (m.streamIdx j) 20000000) (k + 1) s a (slice real 0 k)
          else { s, bytes := slice real 0 k }
      if part.stop then part
      else
        let rest := readArray p m v ecc fuel part.s (a + k) (n - k) (real.drop k)
        { rest with bytes := part.bytes ++ rest.bytes, fixed := part.fixed || rest.fixed }

/-- A passed command waits to go out: no poll belongs to it yet (05 R175). -/
def Port.heldWaits (x : Port) : Bool :=
  [x.held, x.held2].any fun h => match h with | some h => h.phase == .waiting | none => false

/-- The tailrace belongs to a passed command's issue: from the rise of Pn_HCS# to the end of the command on the tailrace; a resume held for a program is not yet in it (05 R174, R178, R181). -/
def Port.issuing (x : Port) : Bool :=
  x.heldWaits || x.suspendDue.isSome || (x.resumeDue.isSome && x.held2.isNone)

/-- A host command can reach the real parts: not on a SUBSTITUTE port, and not in an issue interval (05 R174, 07 R252). -/
def Port.mirrors (x : Port) : Bool := x.state != .substitute && !x.issuing

/-- What a mirrored command sets on the real parts. -/
def Port.setReal (x : Port) (f : RealParts → RealParts) : Port := if x.mirrors then { x with real := f x.real } else x

/-- A mirrored command on the tailrace, with the host's address bytes and dummy cycles (02 R37, R558). -/
def State.mirror (s : State) (p : PortId) (both : Bool) (op : Byte) (addr : Option Nat) (data : List Byte) (addrBytes dummy : Nat := 0) : State :=
  let x := s.port p
  if !x.mirrors then s
  else if both then s.emit (.tail p true true op addr data addrBytes dummy)
  else s.emit (.tail p (!x.activeCs) x.activeCs op addr data addrBytes dummy)

/-- Dummy cycles that a read opcode carries on a port: its advertised count (02 R40, R52). -/
def Port.dummyOf (x : Port) (op : Byte) : Nat :=
  if op = 0x03 ∨ op = 0x13 then 0
  else match x.vsfdp.bind fun q => q.dummies.lookup op with | some n => n | none => x.advDummy

/-- What a read of an INVALID granule or an uncorrectable line does: the port is contained (04 R126, R127). -/
def State.pondStop (s : State) (p : PortId) (q : PondStop) : State :=
  match q with
  | .fault => (s.pondFault p 0 true).contain p .pond
  | .memory n g => (s.memError p n g true).contain p .pond

/-- An array read by the host (01 R15, 02 R34, R44, R48, 04 R126, R127, R136, R142), its events in ascending source (16 R498). Above 25 MHz the data of 0x03 and 0x13 is undefined, and what the host receives is what is hashed. A read that touches an INVALID granule gives 0xFF from its first data cycle, so nothing of it is hashed. A read that begins in a staging window leaves the tailrace alone; where it runs on into a forwarded region the model serves that region's bytes all the same (DESIGN CHOICE log 78), and so it does in an issue interval that R42 does not cover (DESIGN CHOICE log 101). -/
def State.hostRead (s : State) (t : HostTxn) (dummy : Nat) : State :=
  let p := t.port
  let x := s.port p
  match x.map, x.cfg with
  | some m, some c =>
    let a := x.virtAddr c.v t.addrBytes t.addr
    let staged := match m.regionOf a with | some (_, r) => r.policy == 5 | none => false
    let fast := (t.op == 0x03 || t.op == 0x13) && decide (25 < t.clockMHz)
    let real := if fast then s.freeBytes t.clocked else slice t.real 0 t.clocked
    let s0 := if fast then s.skipFree t.clocked else s
    let s1 := if staged then s0 else s0.mirror p false t.op (some (x.activeBase + a)) t.sent t.addrBytes dummy
    let r := readArray p m c.v t.ecc 256 s1 a t.clocked real
    let s2 := match r.pond with
      | some q => (s1.pondStop p q).drive p (ones t.clocked)
      | none => r.s.drive p ((if fast then real.take r.bytes.length else r.bytes) ++ ones (t.clocked - r.bytes.length))
    let s4 := if r.fixed then s2.eccCorrected p else s2
    let s3 := if r.past then s4.portEvent p 12 [1] else s4
    if (s3.port p).brake then s3.emit (.poison p) else s3
  | _, _ => s

/-! ### The sluice (05) -/

/-- The entry that a command matches, with its index (05 R165). -/
def Port.matchEntry (x : Port) (op : Byte) : Option (SlEntry × Nat) :=
  x.table.zipIdx.find? fun (e, _) => e.opcode == op && e.modes.getLsbD (modeIndex (x.mode.getD .s111))

/-- log2 of the erase size that an opcode names on a part, in its BFPT or its 4-byte address instruction table; 0xFF for a chip erase; none where neither names one (05 R165). -/
def eraseExtent (x : Port) (op : Byte) : Option Nat :=
  if op ∈ [0x60, 0xC7] then some 0xFF
  else match x.part with
    | some q =>
      let ops := op :: (q.four.filter fun f => f.2 == op).map (·.1)
      (q.erases.find? fun e => ops.contains e.opcode).map (·.log2)
    | none => none

/-- The entry that a default handling behaves as (05 R165). -/
def defaultEntry (x : Port) (op : Byte) (cls extent : Nat) : SlEntry :=
  { opcode := op, modes := 0x3F, cls, addr := if knownAddrBytes x op = 0 then 0 else if knownAddrBytes x op = 4 then 2 else 1,
    array := cls == 2 || cls == 3, dummy := 0, advertised := false, data := if cls = 2 then 2 else 0, extent, rcheck := 3, actPass := 2, actDeny := 3,
    evtPass := false, vsrc := 0, vdata := 0 }

/-- Outcome of a region check: passed, REASON of R185, region and policy (05 R169, R170). -/
structure Check where
  ok : Bool
  reason : Nat := 0
  region : Nat := 0xFF
  policy : Nat := 0

/-- Every address of a range lies in a region. -/
def covered (m : MillMap) (a n : Nat) : Bool :=
  (m.regions.map fun r => min (a + n) (r.start + r.len) - max a r.start).sum == n

/-- The region check of a Held command with an array address (05 R169, R170). The spec ranks no REASON where a check fails in several ways: over-size comes first, then policy, then an uncovered address, then no session; and a whole-chip erase, whose extent R169 does not define, reports REGION 0xFF and POLICY 0x00 (DESIGN CHOICE log 79). -/
def regionCheck (x : Port) (m : MillMap) (v : Nat) (e : SlEntry) (a : Nat) : Check :=
  let size := if e.cls = 2 then 4096 else if e.cls = 3 then (if e.extent = 0xFF then 0 else 2 ^ e.extent) else 1
  let lo := if size = 0 then 0 else a / size * size
  let hit := m.regions.zipIdx.filter fun (r, _) => meets lo size r.start r.len && size != 0
  let reg := match hit.head? with | some (_, k) => k | none => 0xFF
  let pol := match hit.head? with | some (r, _) => r.policy | none => 0
  if e.cls = 3 ∧ (e.extent = 0xFF ∨ v < size) then { ok := false, reason := 3, region := reg, policy := pol }
  else if hit.any fun (r, _) => decide (r.policy ≤ 3) then { ok := false, reason := 1, region := reg, policy := pol }
  else if !covered m lo size then { ok := false, reason := 2, region := reg, policy := pol }
  else if x.staging.isNone && hit.any fun (r, _) => r.policy == 5 then { ok := false, reason := 6, region := reg, policy := pol }
  else if hit.any fun (r, _) => !e.rcheck.testBit (if r.policy = 4 then 0 else 1) then { ok := false, reason := 1, region := reg, policy := pol }
  else { ok := true, region := reg, policy := pol }

/-- DATA of a sluice event (05 R185). -/
def sluiceData (t : HostTxn) (x : Port) (action reason : Nat) (addr : Option Nat) (region policy : Nat) (entry : Nat) : List Byte :=
  [t.op] ++ leBytes 1 (modeIndex (x.mode.getD .s111)) ++ leBytes 1 action ++ leBytes 1 reason
    ++ leBytes 4 (addr.getD 0xFFFFFFFF) ++ leBytes 1 region ++ leBytes 1 policy
    ++ leBytes 2 (min 0xFFFF (t.sent.length + t.clocked)) ++ leBytes 1 entry

/-- Count a cancelled command (05 R171, R177). -/
def State.countCancel (s : State) (p : PortId) : State := s.modPort p fun x => { x with cntCancel := x.cntCancel + 1 }

/-- Cancel a command with its event (05 R177, R183). -/
def State.cancelCmd (s : State) (t : HostTxn) (reason : Nat) (addr : Option Nat) (c : Check) (entry : Nat) : State :=
  (s.countCancel t.port).portEvent t.port 7 (sluiceData t (s.port t.port) 4 reason addr c.region c.policy entry)

/-- Typical time of an erase of 2^extent bytes (05 R160). -/
def eraseUs (q : Sfdp) (extent : Nat) : Nat :=
  if extent = 0xFF then q.chipEraseUs
  else
    let pick := fun (f : EraseType → EraseType → Bool) (es : List EraseType) =>
      es.foldl (fun acc e => match acc with | some u => if f e u then some e else some u | none => some e) none
    match q.erases.find? fun e => e.log2 == extent with
    | some e => e.typUs
    | none =>
      match pick (fun e u => decide (e.log2 < u.log2)) (q.erases.filter fun e => decide (extent < e.log2)) with
      | some e => e.typUs
      | none => match pick (fun e u => decide (u.log2 < e.log2)) q.erases with | some e => e.typUs | none => 0

/-- Typical time of an absorbed command, ns (05 R160, 02 R57). -/
def absorbNs (x : Port) (e : SlEntry) : Nat :=
  match x.part with
  | some q => (match e.cls with | 2 => q.progUs | 3 => eraseUs q e.extent | _ => 1) * 1000
  | none => 1000

/-- An absorbed operation is being emulated and not suspended. -/
def runs (a : Option Absorbed) : Bool := match a with | some a => a.left.isNone | none => false

/-- Some passed operation runs on the part. -/
def heldRuns (h : Option Held) : Bool := match h with | some h => h.phase == .waiting || h.phase == .executing | none => false

/-- An operation is suspended (05 R180, R181). -/
def Port.hasSuspended (x : Port) : Bool :=
  (match x.held with | some h => h.phase == .suspended || h.phase == .suspending | none => false)
    || (match x.absorbed with | some a => a.left.isSome | none => false)

/-- Set the virtual WIP by what still runs. -/
def Port.settleWip (x : Port) : Port :=
  { x with wip := heldRuns x.held || heldRuns x.held2 || runs x.absorbed || runs x.absorbed2 || x.resumeDue.isSome }

/-- Take the ABSORB action for a command (02 R41, R57, 05 R183, R184). -/
def State.absorbCmd (s : State) (t : HostTxn) (e : SlEntry) (reason : Nat) (addr : Option Nat) (c : Check) (entry : Nat) : State :=
  let u := s.modPort t.port fun x =>
    let a : Absorbed := { cls := e.cls, due := s.now + absorbNs x e, left := none, suspDue := none }
    let y := if x.absorbed.isSome then { x with absorbed2 := some a } else { x with absorbed := some a }
    { y with wip := true, welClearDue := true, cntAbsorb := x.cntAbsorb + 1 }
  u.portEvent t.port 6 (sluiceData t (s.port t.port) 3 reason addr c.region c.policy entry)

/-- What the real part would hold after a program, page wrap included: its address and bytes, and whether they ascend (05 R173). -/
def pageData (page a : Nat) (bs : List Byte) : Nat × List Byte × Bool :=
  if page = 0 then (a, bs, true)
  else if bs.length ≤ page then (a, bs, decide (a % page + bs.length ≤ page))
  else
    let last := bs.drop (bs.length - page)
    let start := (a % page + bs.length) % page
    (a / page * page, last.drop (page - start) ++ last.take (page - start), true)

/-! ### Staging intake (07 R225, R226) -/

/-- A block of a port's write intake that waits for a stone (04 R154). -/
def Block.intakeOf (b : Block) (p : PortId) : Bool := b.intake && b.src == .port p

/-- Bytes of write intake that a port holds for the stones (04 R154). -/
def Fabric.intakeHeld (f : Fabric) (p : PortId) : Nat := 128 * ((f.queue.filter (·.intakeOf p)).map (·.n)).sum

/-- Abandon intake: its digests and what waits for the stones go, and its extents return (04 R154, 07 R226). -/
def State.abandonIntake (s : State) (p : PortId) : State :=
  let t := s.modPort p fun x => { x with intake := [], intakeOff := true }
  { t with
    pond := t.pond.freeIntake p
    fab := { t.fab with queue := t.fab.queue.filter fun b => !b.intakeOf p } }

/-- Extents that intake digests take: one per 1 MiB touched (07 R226). -/
def intakeGroups (bs : List Intake) : Nat :=
  ((bs.filter (·.digest.isSome)).map (fun b => b.block / 256)).eraseDups.length

/-- Allocate the extents that recorded digests need; with none free, intake is abandoned (07 R226). -/
def State.fitIntake (s : State) (p : PortId) : State :=
  let have_ := (s.pond.extents.filter fun (_, e) => e.port == p && e.region.isNone).length
  match Pond.allocExtents p none s.pond (intakeGroups (s.port p).intake - have_) with
  | some pond => { s.settle storeDomains with pond }
  | none => s.abandonIntake p

/-- A passed program reaches an intake block (07 R225). -/
def intakeProgram (bs : List Intake) (off : Nat) (data : List Byte) (ascends : Bool) : List Intake :=
  let blk := off / 4096
  match bs.find? fun b => b.block == blk with
  | none => bs
  | some b =>
    let rest := bs.filter fun b => b.block != blk
    if b.erased && b.digest.isNone && ascends && b.bytes.length == off % 4096 then
      let bytes := b.bytes ++ data
      rest ++ [{ b with bytes, digest := if bytes.length = 4096 then some (leafDigest bytes) else none }]
    else rest

/-- Hash blocks that intake blocks have taken so far, the final one of a recorded digest included (04 R148). -/
def intakeBlocks (bs : List Intake) : Nat :=
  (bs.map fun b => if b.digest.isSome then hashBlocks 4097 else (b.bytes.length + 1) / 128).sum

/-- A passed erase reaches intake blocks: each begins again (07 R225). -/
def intakeErase (bs : List Intake) (off size : Nat) : List Intake :=
  let first := off / 4096
  let n := size / 4096
  bs.filter (fun b => !(decide (first ≤ b.block) && decide (b.block < first + n)))
    ++ (List.range n).map fun j => { block := first + j, erased := true, bytes := [], digest := none }

/-- Intake of a passed command at a slot offset (07 R225, R226). -/
def State.takeIn (s : State) (p : PortId) (e : SlEntry) (off : Nat) (data : List Byte) (ascends : Bool) : State :=
  let x := s.port p
  if x.intakeOff then s
  else if e.cls = 2 then
    let bs := intakeProgram x.intake off data ascends
    ((s.setPort p { x with intake := bs }).hashWork 2 (.port p) (intakeBlocks bs - intakeBlocks x.intake) [] false true).fitIntake p
  else if e.cls = 3 then
    let size := 2 ^ e.extent
    s.setPort p { x with intake := intakeErase x.intake (off / size * size) size }
  else s

/-! ### Held commands -/

/-- Slot offset of a virtual address in the staging window while a session is open (02 R46, 07 R223). -/
def Port.stagedOff (x : Port) (v : Option Nat) : Option Nat :=
  match v, x.staging, x.map with
  | some a, some o, some m =>
    match m.regionOf a with
    | some (_, r) => if r.policy = 5 then some (o + (a - r.start)) else none
    | none => none
  | _, _, _ => none

/-- What a passed program or erase of the staging window does to the intake: a program whose bytes the port's 4 KiB buffer does not take beside those that wait for the stones abandons it (04 R154, 07 R225, R226; log 43). -/
def State.intakeOf (s : State) (p : PortId) (e : SlEntry) (staged : Option Nat) (at_ : Nat) (data : List Byte) (asc : Bool) : State :=
  match staged with
  | some _ =>
    if e.cls = 2 ∧ 4096 < s.fab.intakeHeld p + data.length then s.abandonIntake p else s.takeIn p e at_ data asc
  | none => s

/-- Take the PASS action for a Held program, erase, register write or control (02 R41, R46, R56, R58, R558, 05 R166, R173, R183). A program's bytes are those that the page of the part it goes to would hold. R185 gives a passed command no REASON: the event carries 0x00 (DESIGN CHOICE log 101). -/
def State.passCmd (s : State) (t : HostTxn) (e : SlEntry) (v shown : Option Nat) (c : Check) (entry : Nat) : State :=
  let p := t.port
  let x := s.port p
  let staged := x.stagedOff v
  let slot := s.standbySlot p
  let (cs, base) := match staged, x.cfg with
    | some _, some k => (k.cs slot, k.base slot)
    | _, _ => (x.activeCs, x.activeBase)
  let page := match x.partOn cs with | some q => q.page | none => 0
  let off := match staged with | some o => some o | none => v
  let (at_, data, asc) := if e.cls = 2 then pageData page (off.getD t.addr) t.sent else (off.getD t.addr, t.sent, true)
  let h : Held :=
    { cls := e.cls, op := t.op, cs
      addr := match off with | some _ => some (base + at_) | none => if t.addrBytes = 0 then none else some at_
      staged, data, size := data.length, phase := .waiting, addrBytes := t.addrBytes
      dummy := if e.advertised then x.dummyOf t.op else e.dummy }
  let u := s.modPort p fun y =>
    let z := { y with wip := true, protErr := false, progErr := false, eraseErr := false, cntPass := y.cntPass + 1 }
    (if z.held.isSome then { z with held2 := some h } else { z with held := some h }).retime s.now
  let w := u.intakeOf p e staged at_ data asc
  if e.evtPass then w.portEvent p 8 (sluiceData t x 2 0 shown c.region c.policy entry) else w

/-- The part's suspend latency for an operation of a class (05 R179). -/
def suspendOf (q : Sfdp) (cls : Nat) : Nat := if cls = 3 then q.susp.eraseUs.getD q.suspendUs else q.suspendUs

/-- A suspend or a resume whose action is PASS or ABSORB (05 R178 to R181). R178 speaks of a program or erase in progress; a suspend passed during a register write or control command is issued in the same way (DESIGN CHOICE log 80). A suspend that comes after a passed resume which is not yet issued is a second suspend, and is ignored; and an ignored suspend or resume takes no action, so that an absorbed one raises no event of R183 and is not counted (DESIGN CHOICE log 125). -/
def State.suspendResume (s : State) (t : HostTxn) (e : SlEntry) (pass : Bool) (shown : Option Nat) (k : Check) (reason entry : Nat) : State :=
  let p := t.port
  let x := s.port p
  let passOp := x.held.isSome
  let running := heldRuns x.held || runs x.absorbed || heldRuns x.held2 || runs x.absorbed2
  let meant := if e.cls = 7 then running && !x.hasSuspended else x.hasSuspended
  if !(meant || (!pass && passOp)) then s
  else
    let s1 :=
      if pass then
        let u := s.modPort p fun y => { y with cntPass := y.cntPass + 1, protErr := false, progErr := false, eraseErr := false }
        if e.evtPass then u.portEvent p 8 (sluiceData t x 2 0 shown k.region k.policy entry) else u
      else
        (s.modPort p fun y => { y with cntAbsorb := y.cntAbsorb + 1 }).portEvent p 6 (sluiceData t x 3 reason shown k.region k.policy entry)
    s1.modPort p fun y =>
      if e.cls = 7 then
        match y.absorbed with
        | some a =>
          if a.left.isNone && !y.hasSuspended then
            { y with absorbed := some { a with left := some (a.due - s.now)
                                               suspDue := some (s.now + (match x.part with | some q => suspendOf q a.cls | none => 0) * 1000) } }
          else y
        | none => if pass && passOp then { y with suspendDue := some t.op } else y
      else
        match y.absorbed with
        | some a =>
          match a.left with
          | some left => { y with absorbed := some { a with due := s.now + left, left := none, suspDue := none }, wip := true }
          | none => y
        | none => if pass && passOp then { y with resumeDue := some t.op, wip := true }.retime s.now else y

/-- A Virtual register write of the status profile; data for any other register is discarded (05 R161, R171, R176, 02 R54). -/
def State.regWrite (s : State) (t : HostTxn) : State :=
  let x := s.port t.port
  if !x.wel then s.countCancel t.port
  else
    let sr := if t.op = 0x01 then (match t.sent with | b :: _ => b &&& 0xFC#8 | [] => x.sr) else x.sr
    s.setPort t.port { x with sr, wel := false }

/-- A command's bytes cut by a phase structure of `n` address bytes and a data phase: 1 the host receives, 2 it sends, 0 none (02 R40, 05 R166). -/
def cutPhases (t : HostTxn) (n data : Nat) : HostTxn :=
  let raw := beBytes t.addrBytes t.addr ++ t.sent
  let k := min n raw.length
  { t with addrBytes := k, addr := beNat (raw.take k), sent := if data = 2 then raw.drop k else [], clocked := if data = 1 then t.clocked else 0 }

/-- A command's bytes as its entry's phase structure takes them in (05 R166). -/
def SlEntry.takes (e : SlEntry) (x : Port) (t : HostTxn) : HostTxn := cutPhases t (e.addrBytes x) e.data

/-- A Held command that is ignored: fewer address bytes than its entry names, a partial data byte, or a program with no data (05 R172). -/
def SlEntry.cut (e : SlEntry) (x : Port) (t : HostTxn) : Bool :=
  decide (t.addrBytes < e.addrBytes x) || t.partialByte || (e.cls == 2 && t.sent.isEmpty)

/-- REASON of a sluice event (05 R185). -/
def Check.why (k : Check) (e : SlEntry) (act : Nat) : Nat := if !k.ok then k.reason else if act = 4 ∧ !e.array then 7 else 4

/-- A suspend or resume (05 R178 to R181). -/
def SlEntry.moves (e : SlEntry) : Bool := e.cls == 7 || e.cls == 8

/-- The action that a Held command takes (05 R169, R183, 07 R252). On a SUBSTITUTE port nothing of the host reaches the tailrace: every program and erase is absorbed, and so is a register write or control command that its entry passes, with REASON 0x08 (log 81). -/
def State.heldAct (s : State) (t : HostTxn) (e : SlEntry) (v shown : Option Nat) (k : Check) (act entry : Nat) : State :=
  let x := s.port t.port
  if x.state = .substitute ∧ (e.cls = 2 ∨ e.cls = 3 ∨ (!e.moves ∧ act = 2)) then s.absorbCmd t e 8 shown k entry
  else if act = 4 then s.cancelCmd t (k.why e act) shown k entry
  else if e.moves then s.suspendResume t e (act == 2) shown k (k.why e act) entry
  else if act = 2 then s.passCmd t e v shown k entry
  else if act = 1 then s.regWrite t
  else s.absorbCmd t e (k.why e act) shown k entry

/-- A Held command at the rise of Pn_HCS# (05 R156, R165, R166, R169 to R172, R181, 07 R252). With the virtual WEL 0 it is only counted, whatever its entry's action: no cancel event (05 R171, log 82). -/
def State.heldCmd (s : State) (t0 : HostTxn) (e : SlEntry) (entry : Nat) : State :=
  let p := t0.port
  let x := s.port p
  let t := e.takes x t0
  if !e.moves && !x.wel then s.countCancel p
  else if e.cut x t then s.countCancel p
  else if e.cls = 3 && x.hasSuspended then s
  else
    match x.map, x.cfg with
    | some m, some c =>
      let a := x.virtAddr c.v t.addrBytes t.addr
      let v := if e.array && (e.addrBytes x != 0) then some a else none
      let shown := if v.isSome then v else if t.addrBytes = 0 then none else some t.addr
      let k := if e.array then regionCheck x m c.v e a else { ok := true }
      s.heldAct t e v shown k (if k.ok then e.actPass else e.actDeny) entry
    | _, _ => s

/-- A register or non-array read answered by the real part or from VSRC; an array address is remapped as R44 gives (02 R44, 05 R161, R166 to R168). A SUBSTITUTE port's mirrored read does not reach the part, and what the host receives then is not stated: free bytes (log 81). -/
def State.entryRead (s : State) (t : HostTxn) (e : SlEntry) : State :=
  let p := t.port
  let x := s.port p
  let n := t.clocked
  if e.actPass = 0 then
    let v := match x.cfg with | some c => c.v | none => 1
    let at_ := if t.addrBytes = 0 then none
      else if e.array then some (x.activeBase + x.virtAddr v t.addrBytes t.addr) else some t.addr
    if x.mirrors then (s.mirror p false t.op at_ t.sent t.addrBytes (if e.advertised then x.dummyOf t.op else e.dummy)).drive p (slice t.real 0 n)
    else (s.drive p (s.freeBytes n)).skipFree n
  else if e.vsrc = 1 then s.drive p (List.replicate n (BitVec.ofNat 8 e.vdata))
  else
    let i := (x.captureEntries.findIdx? fun d => d == e).getD 0
    let cap := x.captures.getD i []
    s.drive p (((cap.drop t.addr).take n) ++ ones (n - ((cap.drop t.addr).take n).length))

/-- A command that matches an entry (05 R161, R165, R166). A read whose address phase is not complete reaches no data cycle: nothing is driven and nothing hashed (DESIGN CHOICE log 99). -/
def State.entryCmd (s : State) (t0 : HostTxn) (e : SlEntry) (entry : Nat) : State :=
  let x := s.port t0.port
  let t := e.takes x t0
  if heldClass e.cls && !(e.cls == 5 && e.actPass == 1 && !e.array) then s.heldCmd t0 e entry
  else if e.actPass = 4 then
    let v := match x.cfg with | some c => c.v | none => 1
    s.cancelCmd t (if e.array then 4 else 7)
      (if t.addrBytes = 0 then none else if e.array then some (x.virtAddr v t.addrBytes t.addr) else some t.addr) { ok := true } entry
  else if e.cls = 5 then s.regWrite t
  else if t.addrBytes < e.addrBytes x then s
  else if e.cls = 1 && e.array then s.hostRead t (if e.advertised then x.dummyOf t.op else e.dummy)
  else s.entryRead t e

/-- Mode-entry sequences that a port recognizes (02 R30, R60). -/
def State.sequences (s : State) (p : PortId) : List (BusMode × List SeqCmd) :=
  match (s.port p).part, (s.port p).cfg with
  | some q, some c => sequencesOf q c (s.at33 p)
  | _, _ => []

/-- Bytes that a host command carries after its opcode. -/
def HostTxnBytes (t : HostTxn) : List Byte := beBytes t.addrBytes t.addr ++ t.sent

/-- How a command stands to the mode-entry sequences: no part of one, a wrong one of one, or the next one, with what is left (02 R60). -/
inductive SeqStep where
  | none
  | wrong
  | next (left : List (BusMode × List SeqCmd))
deriving DecidableEq, Repr

/-- Match a command against the sequences still open, or against all of them. -/
def State.seqStep (s : State) (t : HostTxn) : SeqStep :=
  let x := s.port t.port
  let named := fun (l : List (BusMode × List SeqCmd)) => l.filter fun q => match q.2 with | c :: _ => c.op == t.op | [] => false
  let full := fun (l : List (BusMode × List SeqCmd)) =>
    (named l).filterMap fun q => match q.2 with
      | c :: cs => if c.bytes = HostTxnBytes t then some (q.1, cs) else Option.none
      | [] => Option.none
  let l := if (named x.seqs).isEmpty then s.sequences t.port else x.seqs
  if (named l).isEmpty then .none else if (full l).isEmpty then .wrong else .next (full l)

/-- A read that R40 knows, with the address bytes that its opcode and the virtual address mode give it (02 R40, R62): one whose address phase is not complete reaches no data cycle (DESIGN CHOICE log 99). -/
def State.knownRead (s : State) (t : HostTxn) (f : State → HostTxn → State) : State :=
  let n := knownAddrBytes (s.port t.port) t.op
  let u := cutPhases t n 1
  if u.addrBytes < n then s else f s u

/-- A command that R40 knows and no entry names (02 R40, R45, R54 to R63, R74, 05 R165). A 0x99 that does not follow 0x66 is neither mirrored nor acted on (DESIGN CHOICE log 99). R557 has the host side take the commands of 1S-1S-4S and 1S-4S-4S that the configuration allows, and names nothing for the rest: 0x6B, 0x6C, 0xEB and 0xEC, which R40 knows, are mirrored on every port (DESIGN CHOICE log 119). -/
def State.knownCmd (s : State) (t : HostTxn) (cls : Nat) : State :=
  let p := t.port
  let x := s.port p
  let n := t.clocked
  if cls = 1 then s.knownRead t fun u r => u.hostRead r (x.dummyOf t.op)
  else if cls = 2 then s.heldCmd t (defaultEntry x t.op 2 0) 0xFF
  else if cls = 3 then
    match eraseExtent x t.op with
    | some e => s.heldCmd t (defaultEntry x t.op 3 e) 0xFF
    | none => s.cancelCmd t 5 none { ok := true } 0xFF
  else if cls = 7 ∨ cls = 8 then s.heldCmd t (defaultEntry x t.op cls 0) 0xFF
  else
    match x.statusRead t.op with
    | some b => s.drive p (List.replicate n b)
    | none =>
      if t.op = 0x06 then (s.mirror p false t.op none []).modPort p fun y => { y with wel := true }
      else if t.op = 0x04 then (s.mirror p false t.op none []).modPort p fun y => { y with wel := false }
      else if t.op = 0xB7 then (s.mirror p true t.op none []).modPort p fun y => { y.setReal (fun r => { r with addr4 := true }) with addr4 := true }
      else if t.op = 0xE9 then
        ((s.mirror p true t.op none []).modPort p fun y => { y.setReal (fun r => { r with addr4 := false }) with addr4 := false }).restoreExt p
      else if t.op = 0xC5 then
        match t.sent with
        | b :: _ =>
          let w := BitVec.ofNat 8 (x.activeBase / 2 ^ 24) ||| b
          (s.mirror p false t.op none [w]).modPort p fun y =>
            { y.setReal (fun r => if y.activeCs then { r with ext1 := w } else { r with ext0 := w }) with extAddr := b }
        | [] => s
      else if t.op = 0xC8 then s.drive p (List.replicate n x.extAddr)
      else if t.op = 0x66 then (s.mirror p true t.op none []).modPort p fun y => { y with rstEnable := true }
      else if t.op = 0x99 then s
      else if t.op = 0xB9 then s.modPort p fun y => { y with dpd := true }
      else if t.op = 0xAB then s
      else if t.op = 0x50 then
        if x.profile = 2 then s.modPort p fun y => { y with protErr := false, progErr := false, eraseErr := false } else s
      else if t.op = 0x9F then
        match x.part with
        | some q => ((s.drive p (q.jedec.take n ++ s.freeBytes (n - q.jedec.length)))).skipFree (n - q.jedec.length)
        | none => s
      else if t.op = 0x5A then
        match x.vsfdp with
        | some q => s.knownRead t fun u r => u.drive p ((List.range n).map fun i => Config.sfdpByte q (r.addr + i))
        | none => s
      else if cls = 5 then s.regWrite t
      else
        match x.vregs.lookup t.op with
        | some b => s.drive p (List.replicate n b)
        | none => (s.drive p (s.freeBytes n)).skipFree n

/-- A command is answered or served while the virtual WIP is set (05 R176). -/
def Port.whileBusy (x : Port) (op : Byte) (cls : Option Nat) : Bool :=
  (x.statusRead op).isSome || cls == some 1 || cls == some 7 || cls == some 8 || op == 0x66 || op == 0x99

/-- What R40 knows of an opcode on a port, in its current mode. -/
def Port.knows (x : Port) (op : Byte) : Option Nat :=
  let in8d := x.mode == some .d888
  (match x.part with | some q => partKnows q in8d op | none => knownClass [] [] [] in8d op).orElse
    fun _ => if (x.statusRead op).isSome then some 4 else none

/-- The entry by which a command is Held, its default handling's included (05 R160, R165). -/
def Port.heldEntry (x : Port) (op : Byte) : Option SlEntry :=
  match x.matchEntry op with
  | some (e, _) => if heldClass e.cls then some e else none
  | none =>
    match x.knows op with
    | some 2 => some (defaultEntry x op 2 0)
    | some 3 => (eraseExtent x op).map (defaultEntry x op 3)
    | _ => none

/-- A command that comes while the virtual WIP is set and is cancelled without an event. A Held program, erase, register write or control with the virtual WEL 0 is counted, and so is one with a fault of R172. An opcode that nothing names, or an erase with no erase type, is not counted: R176 keeps the event from it and does not say whether the count of R177 is kept too (05 R171, R172, R176, R177; DESIGN CHOICE log 123). -/
def State.busyCancel (s : State) (t : HostTxn) : State :=
  let x := s.port t.port
  match x.heldEntry t.op with
  | some e => if !e.moves && (!x.wel || (!(e.cls == 5 && e.actPass == 1) && e.cut x (e.takes x t))) then s.countCancel t.port else s
  | none => s

/-- A command of a mode-entry sequence, mirrored on both chip selects; after the last one the host side and the parts are in the new mode. A virtual WEL that a 0x06 of the sequence set stays set (02 R55, R60, R558; DESIGN CHOICE log 83). -/
def State.seqCmd (s : State) (t : HostTxn) (left : List (BusMode × List SeqCmd)) : State :=
  let p := t.port
  let s1 := s.modPort p fun y => { y with seqs := left }
  let s2 := if t.op = 0x06 then (s1.mirror p true t.op none []).modPort p fun y => { y with wel := true }
    else s1.mirror p true t.op (if t.addrBytes = 0 then none else some t.addr) t.sent
  match left.find? fun q => q.2.isEmpty with
  | some (m, _) => s2.modPort p fun y =>
      { y.setReal (fun r => { r with mode := m }) with mode := some m, seqs := [], wip := true, wipMode := true }
  | none => s2

/-- A command as the sluice and the decoder select it: an entry decides first, then a mode-entry sequence, then the default handling (02 R38, R39, R40, R60, 05 R155, R165, R176, R177). So a stored entry for the S3 second status register's opcode decides over the virtual register, though R54 answers every status read from it (R39 lets an entry mirror a read; DESIGN CHOICE log 84). -/
def State.hostCmd (s : State) (t : HostTxn) : State :=
  let p := t.port
  let x := s.port p
  let known := x.knows t.op
  let found := x.matchEntry t.op
  let cls := match found with | some (e, _) => some e.cls | none => known
  if x.wip && !x.whileBusy t.op cls then s.busyCancel t
  else
    let s1 := s.modPort p fun y => { y with seqs := [] }
    match found with
    | some (e, i) => s1.entryCmd t e i
    | none =>
      match s.seqStep t with
      | .wrong => s1
      | .next left => s.seqCmd t left
      | .none =>
        match known with
        | some c => s1.knownCmd t c
        | none => s1.cancelCmd t 5 none { ok := true } 0xFF

/-- Pn_HCS# falls: a new transaction is open, and any poison of the one before is over (02 R81, R83). -/
def Port.hcsFalls (x : Port) : Port := { x with hcsLow := true, poison := false, hdqs := false }

/-- Pn_HCS# rises, the pull-ups go off and a change of the remap that waited is made; or it stays low and the transaction stays open (02 R49, R81 to R83). -/
def Port.hcsEnds (x : Port) (stays : Bool) : Port :=
  if stays then x else Port.mapTo { x with hcsLow := false, poison := false, hdqs := false }

/-- What a host command does between the fall and the rise of Pn_HCS#. The inverse extension of an opcode is checked in 8D-8D-8D, which 02 R35 names; in 8S-8S-8S it is not looked at (DESIGN CHOICE log 109). -/
def State.hostTxn (s : State) (t : HostTxn) : State :=
  let p := t.port
  let x := s.port p
  if x.brake || !(x.state == .service || x.state == .substitute) then s
  else if !(x.vdResetDue || x.recoveringVd) ∧ x.mode = some .d888 ∧ t.ext ≠ ~~~t.op then
    (s.modPort p fun y => { y with rstEnable := false, seqs := [] }).portEvent p 12 [0]
  else if x.vdResetDue || x.recoveringVd || x.wipMode then
    match x.busyRead t.op with
    | some b => s.drive p (List.replicate t.clocked b)
    | none => s
  else if x.rstEnable && t.op == 0x99 then (s.mirror p true t.op none []).modPort p Port.askReset
  else
    let s1 := s.modPort p fun y => { y with rstEnable := false }
    if x.dpd && t.op == 0xAB then s1.modPort p fun y => { y with dpd := false, seqs := [] }
    else if x.dpd && t.op != 0x66 then s1
    else s1.hostCmd t

/-- HOST_TRANSACTION: a host command from the fall to the rise of Pn_HCS# (01 R15, R19, 02 R29 to R83, 04 R130 to R141, 05 R155 to R185). -/
def execHostTransaction (t : HostTxn) (s : State) : Result :=
  .next (((s.modPort t.port Port.hcsFalls).hostTxn t).modPort t.port fun x => x.hcsEnds t.stays)

/-- MODE_ENTRY_WIP_EXPIRY: the WIP of a mode entry clears (02 R60, R61). -/
def execModeEntryWipExpiry (p : PortId) (s : State) : Result := s.powered <|
  .next (s.modPort p fun x => if x.wipMode then { x with wipMode := false, wip := false } else x)

/-! ### What follows on the tailrace -/

/-- Issue a Held command: 0x06 first, then the command in its own phases (02 R41, 05 R166, R174). One that the host sent with 3 address bytes goes out with 3 to a standby slot too, and the extended address register keeps the active slot's value: R45 gives it no other, and R46 says nothing of a slot outside that window (DESIGN CHOICE log 122). -/
def State.issue (s : State) (p : PortId) (h : Held) : State :=
  (s.emit (.tail p (!h.cs) h.cs 0x06 none [])).emit (.tail p (!h.cs) h.cs h.op h.addr h.data h.addrBytes h.dummy)

/-- A reset of the virtual device is asked for, and no later command of the host may start; with the brake asserted what goes out still does (05 R182, R561). -/
def Port.resetFirst (x : Port) : Bool := x.vdResetDue && !x.brake

/-- HELD_COMMAND_ISSUE: the device issues the command that the sluice passed (02 R41, 04 R137, 05 R173, R174, R561). -/
def execHeldCommandIssue (p : PortId) (s : State) : Result := s.powered <|
  let x := s.port p
  if x.resetFirst then .next s
  else
  match x.held2, x.held with
  | some h, _ =>
    if h.phase = .waiting then .next (((s.issue p h)).setPort p ({ x with held2 := some { h with phase := .executing } }.retime s.now))
    else .next s
  | none, some h =>
    if h.phase = .waiting then .next (((s.issue p h)).setPort p ({ x with held := some { h with phase := .executing } }.retime s.now))
    else .next s
  | none, none => .next s

/-- ABSORB_WEL_CLEAR: after an absorbed command the device clears the real part's WEL with 0x04 (02 R41). -/
def execAbsorbWelClear (p : PortId) (s : State) : Result := s.powered <|
  let x := s.port p
  if x.welClearDue then
    .next ((s.setPort p { x with welClearDue := false }).emit (.tail p (!x.activeCs) x.activeCs 0x04 none []))
  else .next s

/-- Completion of a passed command clears the virtual WEL for a program, an erase or a register write (02 R55). -/
def Port.ends (x : Port) (cls : Nat) : Port := { x with wel := if cls = 2 ∨ cls = 3 ∨ cls = 5 then false else x.wel }

/-- A passed suspend of the executing operation is to be issued, before the next poll (05 R178). -/
def Port.suspendNext (x : Port) : Bool :=
  !x.brake && x.suspendDue.isSome && x.held2.isNone && (match x.held with | some h => h.phase == .executing | none => false)

/-- STATUS_POLL: the device's own read of the real part's WIP; with the brake asserted the parts' reset of R76 is due once it is 0 (02 R55, R56, 04 R137, 05 R175, R178, R182). -/
def execStatusPoll (p : PortId) (partWip : Bool) (s : State) : Result := s.powered <|
  let x := s.port p
  if partWip || (x.brake && x.issuing) || x.suspendNext then .next s
  else if x.brake then
    .next (s.setPort p (({ x with
      held := none, held2 := none, suspendDue := none, resumeDue := none
      partResetDue := x.partResetDue || x.held.isSome || x.held2.isSome }).retime s.now))
  else
    match x.held2, x.held with
    | some h, _ =>
      if h.phase = .executing then .next (s.setPort p ((({ x with held2 := none }.ends h.cls).settleWip).retime s.now)) else .next s
    | none, some h =>
      if h.phase = .suspending then
        .next (s.setPort p (({ x with held := some { h with phase := .suspended } }.settleWip).retime s.now))
      else if h.phase = .executing then
        .next (s.setPort p ((({ x with held := none, suspendDue := none, resumeDue := none }.ends h.cls).settleWip).retime s.now))
      else .next s
    | none, none => .next s

/-- Indications that an absorbed command sets as its WIP clears (02 R57, R58, R564). -/
def Port.protect (x : Port) (cls : Nat) : Port :=
  if x.profile = 1 then x
  else { x with protErr := true, progErr := x.progErr || cls == 2, eraseErr := x.eraseErr || cls == 3 }

/-- ABSORB_EMULATION_EXPIRY: the typical time of an absorbed command is over (02 R55, R57). -/
def execAbsorbEmulationExpiry (p : PortId) (s : State) : Result := s.powered <|
  let x := s.port p
  match x.absorbed2, x.absorbed with
  | some a, _ =>
    .next ((s.upTo a.due).setPort p ((({ x with absorbed2 := none }.ends a.cls).settleWip).protect a.cls))
  | none, some a =>
    if a.left.isNone then
      .next ((s.upTo a.due).setPort p ((({ x with absorbed := none }.ends a.cls).settleWip).protect a.cls))
    else .next s
  | none, none => .next s

/-- SUSPEND_ISSUE: the device issues a passed suspend, without 0x06 (05 R178, R561). -/
def execSuspendIssue (p : PortId) (s : State) : Result := s.powered <|
  let x := s.port p
  if x.resetFirst then .next s
  else
  match x.suspendDue, x.held with
  | some op, some h =>
    if h.phase = .executing then
      .next ((s.setPort p { x with suspendDue := none, held := some { h with phase := .suspending } }).emit
        (.tail p (!h.cs) h.cs op none []))
    else .next s
  | _, _ => .next s

/-- SUSPEND_LATENCY_EXPIRY: the virtual WIP of a suspended absorbed operation clears (05 R179). -/
def execSuspendLatencyExpiry (p : PortId) (s : State) : Result := s.powered <|
  let x := s.port p
  match x.absorbed with
  | some a =>
    match a.suspDue with
    | some t => .next ((s.upTo t).setPort p ({ x with absorbed := some { a with suspDue := none } }.settleWip))
    | none => .next s
  | none => .next s

/-- HELD_RESUME_ISSUE: the device issues a passed resume, after WIP 0 of a program begun meanwhile (05 R180, R181, R561). -/
def execHeldResumeIssue (p : PortId) (s : State) : Result := s.powered <|
  let x := s.port p
  if x.resetFirst then .next s
  else
  match x.resumeDue, x.held, x.held2 with
  | some op, some h, none =>
    if h.phase = .suspended then
      .next ((s.setPort p ({ x with resumeDue := none, held := some { h with phase := .executing } }.retime s.now)).emit
        (.tail p (!h.cs) h.cs op none []))
    else .next s
  | _, _, _ => .next s

end Sys2Proof.Machine
end

