-- ==== Sys2Proof/Machine/Lifecycle.lean ====
section
/-! DEFINITION. The life-cycle, key-slot, debug and tamper-configuration commands (14 R443 to R465, 15 R494 to R496). -/

namespace Sys2Proof.Machine

open Sys2Proof

/-! ### Blowing an item towards a target (14 R443, R448, R457) -/

/-- Bit indices of an item in ascending bit address. -/
def plainOrder (w : Nat) : List Nat := List.range w

/-- Bit indices of a digest in ascending bit address: first byte first, bit 0 of each byte first (00 R11). -/
def digestOrder : List Nat := (List.range 384).map fun a => (47 - a / 8) * 8 + a % 8

/-- The bits that an item lacks of a target, in order. -/
def lacking {w : Nat} (order : List Nat) (x target : BitVec w) : List Nat := order.filter fun i => target.getLsbD i && !x.getLsbD i

/-- Blow the bits at these indices. -/
def blowBits {w : Nat} (x : BitVec w) (is : List Nat) : BitVec w := is.foldl (fun y i => y ||| BitVec.ofNat w (2 ^ i)) x

/-- Blow the bits that an item lacks of a target, from this place in a sequence on, but for those that fail to blow: the item, and the next place. Every bit is tried, whichever failed before it (14 R448, R451, R457). -/
def blowTo {w : Nat} (order : List Nat) (x target : BitVec w) (at_ : Nat) (stuck : List Nat) : BitVec w × Nat :=
  let is := lacking order x target
  (blowBits x ((is.zipIdx at_).filterMap fun (i, k) => if stuck.contains k then none else some i), at_ + is.length)

/-- Bits that a blow towards a target would blow. -/
def blowNeed {w : Nat} (order : List Nat) (x target : BitVec w) : Nat := (lacking order x target).length

/-! ### Key-hash slots (14 R456 to R458, 03 R105) -/

/-- A key-hash slot is empty. -/
def keyEmpty (k : BitVec 384) : Bool := k == 0

/-- A key-hash slot is revoked (03 R105). -/
def keyRevoked (k : BitVec 384) : Bool := k == BitVec.allOnes 384

/-- A key-hash slot is programmed and not revoked. -/
def keyLive (k : BitVec 384) : Bool := !keyEmpty k && !keyRevoked k

/-- LCD_KEYS status of a slot: 0 empty, 1 programmed, 3 revoked (12 LCD_KEYS). -/
def keyStatus (k : BitVec 384) : Nat := if keyEmpty k then 0 else if keyRevoked k then 3 else 1

/-- Some map-authority slot is programmed and not revoked. -/
def Otp.mapKeyLive (o : Otp) : Bool := (o.keys.toList.take 8).any keyLive

/-- Slot number of a body with three reserved bytes. -/
def keySlotOf (body : List Byte) : Option (Fin 10) :=
  if h : field body 0 1 < 10 then (if zeros body 1 3 then some ⟨field body 0 1, h⟩ else none) else none

/-- KEY_PROGRAM. -/
def State.cmdKeyProgram (s : State) (body : List Byte) (stuck : List Nat) : State × Response :=
  let hash : BitVec 384 := BitVec.ofNat 384 (beNat (slice body 4 48))
  if body.length ≠ 52 then (s, answer stBadLen)
  else
    match keySlotOf body with
    | none => (s, answer stBadField)
    | some i =>
      let cur := s.otp.keys[i]
      if hash = 0 ∨ hash = BitVec.allOnes 384 then (s, answer stBadField)
      else if s.life.state = .production ∧ i = 9 then (s, answer stRefused 0x0A)
      else if !keyEmpty cur then (s, answer stBadState (keyStatus cur))
      else
        let n := blowNeed digestOrder cur hash
        let k := blowCount stuck n
        let t := { s with otp := { s.otp with keys := s.otp.keys.set i (blowTo digestOrder cur hash 0 stuck).1 } }
        (if k = n then t.event 900 else t, otpAnswer k n [])

/-- KEY_PROGRAM: a key hash goes into an empty slot (14 R456, R457). `stuck` names the bits that fail to blow, by their place in the sequence. -/
def execKeyProgram (stuck : List Nat) (s : State) : Result := .next (s.runCmd 0x030C fun t _ r => t.cmdKeyProgram r.body stuck)

/-- KEY_REVOKE. -/
def State.cmdKeyRevoke (s : State) (body : List Byte) (stuck : List Nat) : State × Response :=
  if body.length ≠ 4 then (s, answer stBadLen)
  else
    match keySlotOf body with
    | none => (s, answer stBadField)
    | some i =>
      let cur := s.otp.keys[i]
      let all := BitVec.allOnes 384
      let after := { s.otp with keys := s.otp.keys.set i all }
      if s.life.state = .production ∧ i = 9 then (s, answer stRefused 0x0A)
      else if s.life.state = .production ∧ !after.mapKeyLive then (s, answer stRefused 0x0B)
      else
        let n := blowNeed digestOrder cur all
        let k := blowCount stuck n
        let t := { s with otp := { s.otp with keys := s.otp.keys.set i (blowTo digestOrder cur all 0 stuck).1 } }
        (if k = n then t.event 901 else t, otpAnswer k n [])

/-- KEY_REVOKE: every remaining bit of a slot is blown (14 R456, R458). -/
def execKeyRevoke (stuck : List Nat) (s : State) : Result := .next (s.runCmd 0x030D fun t _ r => t.cmdKeyRevoke r.body stuck)

/-! ### Transitions (14 R447 to R452) -/

/-- The state that follows (14 R445, R447). -/
def nextLc : LcState → Option LcState
  | .blank => some .test | .test => some .production | .production => some .endOfLife | _ => none

/-- The intent record of the transition from a state. -/
def Otp.intent (o : Otp) : LcState → Intent
  | .blank => o.intent0 | .test => o.intent1 | _ => o.intent2

/-- Replace the intent record of the transition from a state. -/
def Otp.setIntent (o : Otp) (x : LcState) (r : Intent) : Otp :=
  match x with
  | .blank => { o with intent0 := r }
  | .test => { o with intent1 := r }
  | _ => { o with intent2 := r }

/-- The three copies all hold a word. -/
def Otp.copiesAre (o : Otp) (w : BitVec 64) : Bool := o.copy1 == w && o.copy2 == w && o.copy3 == w

/-- The state that the transition from a state leads to: what its record's TO is written to, and stands for while TO is still incomplete (14 R447, R448, R450; DEDUCED log 129). -/
def intentTarget : LcState → LcState
  | .blank => .test | .test => .production | _ => .endOfLife

/-- The state whose transition was begun last: the furthest whose record's MARK has any bit blown. Every one before it is complete, since none begins while a record is open (14 R450, R452; DEDUCED log 129). -/
def Otp.lastIntent (o : Otp) : Option LcState :=
  [LcState.production, .test, .blank].find? fun x => (o.intent x).mark != 0

/-- The state whose transition's intent record is open: begun, and the copies not all at its target. At most one is (14 R450, R452). -/
def Otp.openIntent (o : Otp) : Option LcState :=
  o.lastIntent.filter fun x => !o.copiesAre (codeword (intentTarget x))

/-- The bits of the three copies towards a codeword, in order (14 R448 steps 3 to 5). -/
def Otp.blowCopies (o : Otp) (w : BitVec 64) (at_ : Nat) (stuck : List Nat) : Otp :=
  let a := blowTo (plainOrder 64) o.copy1 w at_ stuck
  let b := blowTo (plainOrder 64) o.copy2 w a.2 stuck
  let c := blowTo (plainOrder 64) o.copy3 w b.2 stuck
  { o with copy1 := a.1, copy2 := b.1, copy3 := c.1 }

/-- Bits that the copies lack of a codeword. -/
def Otp.copiesNeed (o : Otp) (w : BitVec 64) : Nat :=
  blowNeed (plainOrder 64) o.copy1 w + blowNeed (plainOrder 64) o.copy2 w + blowNeed (plainOrder 64) o.copy3 w

/-- An intent record written towards a target, and the next place in the sequence (14 R448 step 2). -/
def Intent.blow (r target : Intent) (stuck : List Nat) : Intent × Nat :=
  let a := blowTo (plainOrder 8) r.mark target.mark 0 stuck
  let b := blowTo (plainOrder 4) r.frm target.frm a.2 stuck
  let c := blowTo (plainOrder 4) r.tgt target.tgt b.2 stuck
  let d := blowTo digestOrder r.auth target.auth c.2 stuck
  ({ mark := a.1, frm := b.1, tgt := c.1, auth := d.1 }, d.2)

/-- Bits that an intent record lacks of a target. -/
def Intent.need (r target : Intent) : Nat :=
  blowNeed (plainOrder 8) r.mark target.mark + blowNeed (plainOrder 4) r.frm target.frm + blowNeed (plainOrder 4) r.tgt target.tgt
    + blowNeed digestOrder r.auth target.auth

/-- Slots 9 and one of 0 to 7 are programmed and not revoked (14 R447). -/
def Otp.productionKeys (o : Otp) : Bool := keyLive o.keys[9] && o.mapKeyLive

/-- LC_TRANSITION. -/
def State.cmdTransition (s : State) (r : Request) (stuck : List Nat) : State × Response :=
  let body := r.body
  let st := s.life.state
  if body.length ≠ 4 then (s, answer stBadLen)
  else if !zeros body 1 3 then (s, answer stBadField)
  else
    match nextLc st with
    | none => (s, answer stRefused 0x01)
    | some dst =>
      if field body 0 1 ≠ lcCode dst then (s, answer stRefused 0x01)
      else if s.otp.openIntent.isSome then (s, answer stRefused 0x02)
      else if dst = .production ∧ !s.otp.productionKeys then (s, answer stRefused 0x03)
      else
        let goal : Intent :=
          { mark := 0xFF, frm := BitVec.ofNat 4 (lcCode st), tgt := BitVec.ofNat 4 (lcCode dst), auth := r.authDigest }
        let w := codeword dst
        let cur := s.otp.intent st
        let n := cur.need goal + s.otp.copiesNeed w
        let k := blowCount stuck n
        let i := cur.blow goal stuck
        let o := (s.otp.setIntent st i.1).blowCopies w i.2 stuck
        let t := { s with otp := o, life := { s.life with written := some dst } }
        if o.copiesAre w then (t.event 896, answer stOk) else (t, answer stOtpFail (min k 255))

/-- LC_TRANSITION: the intent record and the three copies are blown, and the copies alone are judged (14 R447 to R450). `stuck` names the bits that fail to blow, by their place in the sequence. -/
def execLcTransition (stuck : List Nat) (s : State) : Result := .next (s.runCmd 0x030E fun t _ r => t.cmdTransition r stuck)

/-- LC_REPAIR. -/
def State.cmdRepair (s : State) (r : Request) (stuck : List Nat) : State × Response :=
  if !r.body.isEmpty then (s, answer stBadLen)
  else
    match s.otp.openIntent with
    | none => (s, answer stRefused 0x04)
    | some st =>
      let cur := s.otp.intent st
      let dst := intentTarget st
      let w := codeword dst
      if (s.otp.copy1 ||| s.otp.copy2 ||| s.otp.copy3) &&& ~~~w ≠ 0 then (s, answer stRefused 0x04)
      else if (cur.auth = 0 ∧ r.authorized) ∨ cur.auth ≠ r.authDigest then (s, answer stRefused 0x05)
      else
        let n := blowNeed (plainOrder 8) cur.mark 0xFF + s.otp.copiesNeed w
        let k := blowCount stuck n
        let m := blowTo (plainOrder 8) cur.mark 0xFF 0 stuck
        let o := (s.otp.setIntent st { cur with mark := m.1 }).blowCopies w m.2 stuck
        let t := { s with otp := o, life := { s.life with written := some dst } }
        if o.copiesAre w then (t.oweReset.event 897, answer stOk) else (t, answer stOtpFail (min k 255))

/-- LC_REPAIR: the open intent record's transition is completed, and a device reset follows (14 R450 to R452). -/
def execLcRepair (stuck : List Nat) (s : State) : Result := .next (s.runCmd 0x030F fun t _ r => t.cmdRepair r stuck)

/-! ### Debug (14 R459 to R465, R469) -/

/-- LC_STATE permits a level (14 R460). -/
def levelAllowed (st : LcState) (n : Nat) : Bool :=
  (n == 1 || n == 2) && (st == .blank || st == .test || st == .production)

/-- A session at a level needs a token (14 R460). -/
def needsToken (st : LcState) (n : Nat) : Bool := st == .production || (st == .test && n == 2)

/-- The level may be asked for (14 R460, R469 0x06). -/
def State.levelOk (s : State) (n : Nat) : Bool := levelAllowed s.life.state n && decide (s.dbg.level < n)

/-- A debug nonce is issued and held (14 R461, R462). -/
def State.issueNonce (s : State) : BitVec 256 × State :=
  let n : BitVec 256 := s.draw 256
  let t := s.drawn
  (n, { t with dbg := { t.dbg with nonce := some n } })

/-- DEBUG_CHALLENGE. -/
def State.cmdChallenge (s : State) (body : List Byte) : State × Response :=
  if body.length ≠ 4 then (s, answer stBadLen)
  else if !zeros body 1 3 then (s, answer stBadField)
  else if !s.levelOk (field body 0 1) then (s, answer stRefused 0x06)
  else if s.drbg.failed then (s, answer stDrbgFailed)
  else
    let (n, t) := s.issueNonce
    (t, answer stOk 0 (digestBytes n ++ leBytes 8 s.sys.serial.toNat))

/-- DEBUG_CHALLENGE: a debug nonce is issued for a level (14 R461, R462). -/
def execDebugChallenge (s : State) : Result := .next (s.runCmd 0x010F fun t _ r => t.cmdChallenge r.body)

/-- The message that a token signs (14 R461). -/
def State.tokenMsg (s : State) (nonce : BitVec 256) (level : Nat) : List Byte :=
  ascii "debug token" ++ leBytes 8 s.sys.serial.toNat ++ digestBytes nonce ++ leBytes 1 level ++ leBytes 1 (lcCode s.life.state)

/-- Judgement of a token: 0 when it may open its level, the R469 code that refuses it, none when no core can verify it, or its verification returns FAULT (14 R460, R461, 13 R419). -/
def State.judgeToken (s : State) (level : Nat) (pubkey sig : List Byte) (fault : Bool) : Option Nat :=
  let slot := s.otp.keys[8]
  if !s.levelOk level then some 0x06
  else if !needsToken s.life.state level then some 0
  else
    match s.dbg.nonce with
    | none => some 0x08
    | some n =>
      if !keyMatches slot (Config.sha384 ([0x01, 0x00] ++ pubkey)) then some 0x07
      else if !s.engineUp || fault then none
      else if keyPointOk 1 pubkey && Config.sigValid 1 pubkey [] (s.tokenMsg n level) sig then some 0
      else some 0x09

/-- What a D2 token in Production does before its access opens (14 R463). -/
def State.d2Zero (s : State) : State :=
  let t := (allPorts.foldl (fun (u : State) p => u.alarmContain p 64) s).zeroKeys
  t.mapPorts fun _ x => { x with tallyKey := none }

/-- An open D2 session has the governor in ACTIVE, whether the miller is awake or not; out of DEEP the PLLs lock again (17 R516, R523). -/
def State.activeForD2 (s : State) : State :=
  { s with gov := { s.gov.relock (s.mon.present.getLsbD 23) with state := .active } }

/-- A valid token of this level closes the ports and zeroes the keys before any access opens (14 R463). -/
def State.d2Closes (s : State) (level : Nat) : Bool := level == 2 && s.life.state == .production

/-- What a valid D2 token presented in Production brings, whether or not access opens after it (14 R463). -/
def State.d2Presented (s : State) : State := s.d2Zero.raise { src := 903, act := fixedActions 903, contains := true }

/-- A session opens at a level; D2 in Production opens 10 µs later (14 R459, R463, 17 R516). -/
def State.openSession (s : State) (level : Nat) : State :=
  if s.d2Closes level then
    ({ s with dbg := { s.dbg with level := 2, d2Opening := true, lastResult := 0 } }).d2Presented
  else
    ({ (if level = 2 then s.activeForD2 else s) with dbg := { s.dbg with level, session := some level, lastResult := 0 } }).event
      (if level = 2 then 903 else 902)

/-- A token is refused (14 R469, R472). -/
def State.tokenRefused (s : State) (code : Nat) : State := ({ s with dbg := { s.dbg with lastResult := code } }).event 904

/-- A token is presented: the nonce is used up, and the session opens or the token is refused (14 R460 to R463). -/
def State.presentToken (s : State) (level : Nat) (pubkey sig : List Byte) (fault : Bool) : State × Option Nat :=
  let j := s.judgeToken level pubkey sig fault
  let t := { s with dbg := { s.dbg with nonce := none } }
  match j with
  | some 0 => (t.openSession level, some 0)
  | some c => (t.tokenRefused c, some c)
  | none => (t, none)

/-- A presentation refused without a code of R469: the nonce is used up and the event is raised (14 R462, R472; log 97). -/
def State.tokenTurned (s : State) : State := ({ s with dbg := { s.dbg with nonce := none } }).event 904

/-- A verified token whose session does not open, since an ending event falls in the same cycle: the nonce is used up, and what R463 has a D2 token bring before its access opens comes (14 R463, R465). -/
def State.openUndone (s : State) (level : Nat) : State :=
  let t := { s with dbg := { s.dbg with nonce := none } }
  if s.d2Closes level then t.d2Presented else t

/-- The same by command; its status is not stated, a free value (14 R465; log 5, 12). -/
def State.openLost (s : State) (level : Nat) : State × Response :=
  let t := s.openUndone level
  (t.skipFree 1, answer (Config.freeByte t.fresh).toNat)

/-- DEBUG_OPEN. -/
def State.cmdDebugOpen (s : State) (body : List Byte) (fault ended : Bool) : State × Response :=
  let level := field body 0 1
  let key := slice body 4 97
  let sig := slice body 0x65 96
  if body.length ≠ 200 then (s.tokenTurned, answer stBadLen)
  else if !zeros body 1 3 ∨ !zeros body 0xC5 3 then (s.tokenTurned, answer stBadField)
  else if s.levelOk level && !needsToken s.life.state level && !(zeros body 4 193) then (s.tokenTurned, answer stBadField)
  else
    match s.presentToken level key sig fault with
    | (t, some 0) => if ended then s.openLost level else (t, answer stOk)
    | (t, some c) => (t, answer stRefused c)
    | (_, none) => (s.tokenTurned, answer stEngine)

/-- DEBUG_OPEN: a token opens a session at D1 or D2; where an ending event falls in the same cycle none opens (14 R460 to R463, R465, R469). -/
def execDebugOpen (s : State) : Result := .next (s.runCmd 0x0310 fun t _ r => t.cmdDebugOpen r.body r.ownFault r.ended)

/-- DEBUG_D2_ACCESS_OPEN: D2 access opens 10 µs after its token verified in Production (14 R463, 17 R516). -/
def execDebugD2AccessOpen (s : State) : Result := s.powered <|
  if s.dbg.d2Opening then .next { s.activeForD2 with dbg := { s.dbg with session := some 2, d2Opening := false } } else .next s

/-- DEBUG_CLOSE: the debug session ends (14 R465). -/
def execDebugClose (s : State) : Result :=
  .next (s.runCmd 0x0110 fun t _ r => if r.body.isEmpty then (t.endDebug, answer stOk) else (t, answer stBadLen))

/-! ### Tamper configuration and fuses (15 R494 to R496) -/

/-- TAMPER_CONFIG. -/
def State.cmdTamper (s : State) (body : List Byte) (settingsOk : Bool) : State × Response :=
  if 1024 < body.length then (s, answer stBadLen)
  else if !tamperCfgOk body then (s, answer stConfig)
  else if !tamperFloorsOk body then (s, answer stRefused 0x20)
  else if !settingsOk then (s, answer stSettings)
  else
    ({ s with
       store := { s.store with tamper := s.store.tamper.write body }
       mon := s.mon.load body }, answer stOk)

/-- TAMPER_CONFIG: the tamper configuration record is stored and takes effect (15 R494, R495). -/
def execTamperConfig (settingsOk : Bool) (s : State) : Result := .next (s.runCmd 0x030A fun t _ r => t.cmdTamper r.body (t.stores settingsOk))

/-- SOURCE_DISABLE. -/
def State.cmdSource (s : State) (body : List Byte) (stuck : List Nat) : State × Response :=
  let i := field body 0 1
  if body.length ≠ 4 then (s, answer stBadLen)
  else if !zeros body 1 3 then (s, answer stBadField)
  else if 7 < i then (s, answer stRefused 0x21)
  else if s.otp.fuses.getLsbD i then (s, answer stOk)
  else if blowCount stuck 1 = 1 then
    (({ s with otp := { s.otp with fuses := s.otp.fuses ||| BitVec.ofNat 256 (2 ^ i) } }).event 908, answer stOk)
  else (s, answer stOtpFail 0)

/-- SOURCE_DISABLE: a tamper pin's fuse-disable bit is blown (15 R496). -/
def execSourceDisable (stuck : List Nat) (s : State) : Result := .next (s.runCmd 0x030B fun t _ r => t.cmdSource r.body stuck)

end Sys2Proof.Machine
end

