-- ==== Sys2Proof/Machine/Regs.lean ====
section
/-! DEFINITION. The host-visible register map: what each address reads, who may write it and what a write does; the log's window and its commits (12 R384 to R403, 16 R507 to R512). -/

namespace Sys2Proof.Machine

open Sys2Proof

/-! ### Fields of words -/

/-- A word from fields: each its lowest bit and its value. -/
def fieldsW (fs : List (Nat × Nat)) : Word := BitVec.ofNat 32 (fs.map fun f => f.2 * 2 ^ f.1).sum

/-- Word k of a wide array. -/
def wordAt {w : Nat} (v : BitVec w) (k : Nat) : Word := v.extractLsb' (32 * k) 32

/-- Bits of word k of a wide array, at their place. -/
def placed (w k : Nat) (v : Word) : BitVec w := BitVec.ofNat w (v.toNat * 2 ^ (32 * k))

/-- Word k of a wide array replaced. -/
def setWordAt {w : Nat} (v : BitVec w) (k : Nat) (x : Word) : BitVec w := v ^^^ placed w k (wordAt v k ^^^ x)

/-- Power state code (12 GOV). -/
def powerCode : PowerState → Nat
  | .active => 0 | .doze => 1 | .park => 2 | .deep => 3 | .backup => 3

/-! ### What each block reads (12) -/

/-- STAGE code. -/
def stageCode : Stage → Nat
  | .rom => 0 | .running => 1 | .stopped => 2 | .locked => 3 | .endOfLife => 4

/-- SYS. -/
def State.readSys (s : State) (x : Nat) : Word :=
  let f := s.mil.current
  if x = 0x000 then 0x3240B000
  else if x = 0x004 then wordAt s.sys.serial 0
  else if x = 0x008 then wordAt s.sys.serial 1
  else if x = 0x00C then (match s.millerUp, f with | true, some g => fieldsW [(16, g.major), (8, g.minor), (0, g.cmdSet)] | _, _ => 0)
  else if x = 0x010 then fieldsW [(8, s.sys.bootErr), (0, stageCode s.sys.stage)]
  else if x = 0x014 then fieldsW [(12, s.sys.node), (8, s.sys.count), (7, bit s.sys.overflow)]
  else if x = 0x018 then s.sys.cause.setWidth 32
  else 0

/-- Word k of the defaults of a routing array. -/
def defaultWord (f : Nat → Bool) (k : Nat) : Word := BitVec.ofNat 32 (maskNat 32 fun i => f (32 * k + i))

/-- EVT. -/
def State.readEvt (s : State) (x : Nat) : Word :=
  let e := s.evt
  let k := x / 4 % 32
  if x < 0x080 then wordAt e.stat k
  else if x < 0x100 then wordAt e.mask k
  else if x < 0x180 then wordAt e.ownDiff k ^^^ defaultWord ownDefault k
  else if x < 0x200 then wordAt e.alertDiff k ^^^ defaultWord alertDefault k
  else if x = 0x200 then BitVec.ofNat 32 (maskNat 32 fun i => wordAt e.stat i != 0)
  else if x = 0x204 then (match e.last with | some (sev, src) => fieldsW [(31, 1), (16, sev), (0, src)] | none => 0)
  else if x = 0x208 then e.raised
  else 0

/-- GOV. -/
def State.readGov (s : State) (x : Nat) : Word :=
  let g := s.gov
  let vio := g.vioPg.toList
  if x = 0x000 then
    fieldsW [(9, bit (s.domain 3 == .on)), (8, bit s.millerAwake), (0, powerCode g.state)]
  else if x = 0x004 then BitVec.ofNat 32 (maskNat 24 fun d => s.domain d == .on)
  else if x = 0x008 then BitVec.ofNat 32 (maskNat 24 fun d => s.domain d == .retain)
  else if x = 0x00C then
    fieldsW [(8, maskNat 8 fun n => g.corePll && s.domain (11 + n) == .on), (4, bit g.millerPll), (3, bit g.pkePll), (2, bit g.corePll),
      (1, bit g.refclk), (0, bit g.crystal)]
  else if x = 0x010 then
    fieldsW [(20, bit g.vbat), (19, bit g.vddlh), (18, bit g.vddl), (17, bit g.vaux), (16, bit g.vioHome),
      (8, maskNat 8 fun n => vio.getD n .out != .out || g.vioBack.getLsbD n), (0, g.vioHigh.toNat)]
  else 0

/-- WIDTH code of a link port. -/
def widthCode (w : Nat) : Nat := if w = 4 then 3 else w

/-- LNK_LA_STAT and LNK_LB_STAT. -/
def State.linkStat (s : State) (l : LinkId) : Word :=
  let p := s.lport l
  let n := s.peerNode l
  fieldsW [(20, if n = 16 then 0 else n), (18, p.peerRole), (12, p.retired.toNat), (8, p.inService.toNat), (4, widthCode p.width),
    (0, p.tstate)]

/-- Index in the counter list of an offset of R400 from 0x20 on. -/
def linkCounter (x : Nat) : Option (Fin 14) :=
  if x = 0x34 then some 5 else if x = 0x38 then some 6
  else if h : 0x20 ≤ x ∧ x < 0x58 ∧ x % 4 = 0 then some ⟨(x - 0x20) / 4, by omega⟩ else none

/-- A port's counter at an offset. -/
def LinkPort.counter (p : LinkPort) (x : Nat) : Word :=
  if h : x < 0x10 then p.cntLaneErr[x / 4]
  else if h : x < 0x20 then p.cntLaneFlt[(x - 0x10) / 4]
  else match linkCounter x with | some i => p.cnt[i] | none => 0

/-- LNK. -/
def State.readLnk (s : State) (x : Nat) : Word :=
  if x = 0x000 then s.linkStat .la
  else if x = 0x004 then s.linkStat .lb
  else if x < 0x100 then 0
  else if x < 0x200 then s.link.la.counter (x - 0x100)
  else if x < 0x300 then s.link.lb.counter (x - 0x200)
  else if x = 0x300 then s.link.cntTagDup
  else if x = 0x304 then s.link.cntStale
  else if x = 0x308 then s.link.cntEvtDrop
  else if x = 0x30C then s.link.cntDenied
  else if x = 0x310 then s.link.cntBulkDrop
  else 0

/-- LEASE: the remaining lease in units of 10 ms, rounded up. -/
def State.leaseUnits (s : State) : Nat :=
  if s.fan.owner.isNone then 0
  else ((s.fan.leasePaused.getD (s.fan.leaseEnd - s.now)) + 9999999) / 10000000

/-- A master field: 0xFF for none. -/
def masterField : Option Master → Nat
  | some m => masterId m | none => 0xFF

/-- FAN. -/
def State.readFan (s : State) (x : Nat) : Word :=
  let f := s.fan
  if x = 0x000 then
    fieldsW [(24, s.leaseUnits), (16, f.round), (13, bit f.directed.isSome), (12, bit f.window), (8, f.epoch), (0, masterField f.owner)]
  else if x = 0x004 then fieldsW [(5, bit f.sendPosterr), (4, bit f.sendBusy), (0, f.sendKind)]
  else if x = 0x008 then fieldsW [(20, bit f.resNew), (16, f.resEpoch), (8, masterField f.resOwner), (0, f.resStatus)]
  else if x = 0x00C then f.cntRefused
  else if x = 0x010 then fieldsW [(16, f.prio15), (8, f.prio14), (0, f.prio0)]
  else if 0x020 ≤ x ∧ x < 0x040 then BitVec.ofNat 32 (field f.nonceBytes (x - 0x020) 4)
  else if 0x100 ≤ x ∧ x < 0x200 then memWord f.msg (x - 0x100)
  else 0

/-- DGE_CTXn. -/
def Context.read (c : Context) (y : Nat) : Word :=
  let st := match c.state with | .free => 0 | .ready => 1 | .opened => 2 | .finalizing => 3 | .done => 4
  if y = 0x00 then fieldsW [(1, bit c.finalKept)]
  else if y = 0x04 then BitVec.ofNat 32 c.cfgAlg
  else if y = 0x08 then BitVec.ofNat 32 c.cfgLen
  else if y = 0x0C then BitVec.ofNat 32 (c.cfgLen / 2 ^ 32)
  else if y = 0x14 then
    fieldsW [(16, c.tag.toNat), (10, bit c.fault), (9, bit c.posterr), (8, bit c.short), (7, bit c.trunc), (3, bit c.busy), (0, st)]
  else if y = 0x18 then BitVec.ofNat 32 c.msg.length
  else if y = 0x1C then BitVec.ofNat 32 (c.msg.length / 2 ^ 32)
  else if 0x40 ≤ y ∧ y < 0x80 ∧ c.state = .done then BitVec.ofNat 32 (field c.digest (y - 0x40) 4)
  else 0

/-- Contexts FREE among these. -/
def Dge.freeCount (d : Dge) (lo n : Nat) : Nat := ((d.ctx.toList.drop lo).take n).countP fun c => c.state == .free

/-- DGE. -/
def State.readDge (s : State) (x : Nat) : Word :=
  let d := s.dge
  let stones := s.fab.stones.toList
  if x = 0x000 then fieldsW [(8, 1), (4, d.freeCount 12 4), (0, s.millerFree)]
  else if x = 0x004 then fieldsW [(16, d.tag.toNat)]
  else if x = 0x008 then fieldsW [(16, d.resTag.toNat), (4, d.resCtx), (0, d.result)]
  else if x = 0x00C then d.cntFull
  else if x = 0x010 then fieldsW [(8, stones.countP (·.slow)), (0, stones.countP (·.inService))]
  else if h : 0x100 ≤ x ∧ x < 0x300 then d.ctx[winCtx ⟨(x - 0x100) / 0x80, by omega⟩].read ((x - 0x100) % 0x80)
  else 0

/-- A core's state code (09 R311): a core that holds the owner's finished operation reads as granted. -/
def coreCode : CoreState → Nat
  | .idle => 0 | .millerOp => 1 | .ownerGrant => 2 | .ownerOp => 3 | .ownerDone => 2 | .kat | .powerKat => 4 | .retired => 0xF

/-- QPOS: entries ahead of the owner's. -/
def Pke.qpos (k : Pke) : Nat :=
  if k.queue.any fun r => r.user == .owner then min 15 (k.queue.takeWhile fun r => r.user != .owner).length else 0

/-- PKE. -/
def State.readPke (s : State) (x : Nat) : Word :=
  let k := s.pke
  let recentOf := fun c : Core => min 15 (recent s.now sixtySeconds c.transients).length
  if x = 0x000 then fieldsW [(8, 1), (1, bit (k.core1.state != .retired)), (0, bit (k.core0.state != .retired))]
  else if x = 0x004 then k.cmd
  else if x = 0x008 then k.len0
  else if x = 0x00C then k.len1
  else if x = 0x010 then k.arg
  else if x = 0x018 then
    fieldsW [(20, k.qpos), (18, k.mode), (17, k.coreNo), (16, bit (k.status == 1 || k.status == 3)), (8, bit k.posterr), (0, k.status)]
  else if x = 0x01C then
    fieldsW [(18, s.pkeMode 1), (16, s.pkeMode 0), (12, recentOf k.core1), (8, recentOf k.core0), (4, coreCode k.core1.state),
      (0, coreCode k.core0.state)]
  else if x = 0x020 then k.cntDone
  else if x = 0x024 then k.cntAbort
  else if x = 0x028 then k.cntFault
  else 0

/-- The core whose operand memory the window shows (09 R309, R312): while the owner's request is granted, and after its final code. -/
def Pke.windowCore (k : Pke) : Option (Fin 2) :=
  match k.ownerCore with
  | some c => if (k.core c).state = .ownerOp then none else some c
  | none => none

/-- The PKE operand window. -/
def State.readOperand (s : State) (y : Nat) : Word :=
  match s.pke.windowCore with
  | some c => memWord (s.pke.core c).mem y
  | none => 0

/-- TMP. -/
def State.readTmp (s : State) (x : Nat) : Word :=
  let m := s.mon
  if x = 0x000 then fieldsW [(16, s.otp.fuses.toNat % 256), (8, m.pinAlarm.toNat), (0, m.pinLevel.toNat)]
  else if x = 0x004 then m.env.setWidth 32
  else if x = 0x008 then fieldsW [(8, s.aonb.latched.toNat), (0, s.aonb.evidence.length)]
  else if h : 0x010 ≤ x ∧ x < 0x020 then (m.temps[(x - 0x010) / 4]).setWidth 32
  else if h : 0x040 ≤ x ∧ x < 0x060 then BitVec.ofNat 32 (popcount s.otp.evidence[(x - 0x040) / 4])
  else 0

/-- INTENT_TO (14 R449, 12 LCD_STAT). -/
def State.intentTo (s : State) : Nat :=
  match s.life.written with
  | some t => lcCode t
  | none => match s.otp.openIntent with | some st => lcCode (intentTarget st) | none => 0xF

/-- LCD. -/
def State.readLcd (s : State) (x : Nat) : Word :=
  let keys := s.otp.keys.toList.map keyStatus
  if x = 0x000 then
    fieldsW [(11, bit s.life.split), (10, bit (s.life.state == .endOfLife)), (8, s.dbg.level), (4, s.intentTo), (0, lcCode s.life.state)]
  else if x = 0x004 then wordAt s.life.code 0
  else if x = 0x008 then wordAt s.life.code 1
  else if x = 0x00C then
    fieldsW ((18, keys.getD 8 0) :: (16, keys.getD 9 0) :: (List.range 8).map fun k => (2 * k, keys.getD k 0))
  else if x = 0x010 then BitVec.ofNat 32 s.otp.fwFloorVal
  else if 0x040 ≤ x ∧ x < 0x080 then BitVec.ofNat 32 (s.otp.floor ((x - 0x040) / 4))
  else 0

/-! ### The log (16 R507 to R512) -/

/-- The 32 bytes of a record of the log array; one never written reads 0xFF (16 R507). -/
def Log.bytes (l : Log) (i : Nat) : List Byte :=
  match tblGet l.records i with
  | some r => r.toBytes
  | none => List.replicate 32 0xFF

/-- A word of the log window (12 R402). -/
def Log.window (l : Log) (y : Nat) : Word :=
  BitVec.ofNat 32 (field (l.bytes ((l.base.toNat + y / 32) % 65536)) (y % 32 / 4 * 4) 4)

/-- LOG. -/
def State.readLog (s : State) (x : Nat) : Word :=
  let l := s.log
  if x = 0x000 then fieldsW [(31, bit l.wfault), (30, bit l.hwlost), (0, bit (l.found == 4096))]
  else if x = 0x004 then BitVec.ofNat 32 s.logHead
  else if x = 0x008 then BitVec.ofNat 32 l.seq
  else if x = 0x00C then fieldsW [(16, bit l.advance), (0, l.base.toNat)]
  else 0

/-- Reading the window's last word with ADVANCE set moves BASE on (12 LOG_WIN, 16 R512). -/
def Log.advanced (l : Log) : Log := if l.advance then { l with base := l.base + 512 } else l

/-- The next queued record reads back wrong and is lost; its index goes to the next record (16 R511). -/
def State.loseHead (s : State) : State :=
  let t := { s with log := { s.log with queue := s.log.queue.drop 1, wfault := true } }
  if s.log.wfault then t else t.event 992

/-- LOG_RECORD_COMMIT: the controller commits the next queued record and reads it back; nothing is logged in BACKUP (15 R491, 16 R508 to R511). -/
def execLogRecordCommit (readbackOk : Bool) (s : State) : Result :=
  if s.log.queue.isEmpty || s.dark then .next s
  else if readbackOk then .next s.commitHead
  else .next s.loseHead

/-! ### Mailboxes and ports -/

/-- DOORBELL, STAT and RSP_ACK of a mailbox (12 MBX_STAT). -/
def State.readMbx (s : State) (m : MbxId) (x : Nat) : Word :=
  let b := s.mbox m
  if x = 0 then fieldsW [(0, bit b.ring)]
  else if x = 4 then
    fieldsW [(28, b.rspEpoch), (16, b.rspSeq), (2, bit (!s.serves)), (1, bit b.ready), (0, bit b.busy)]
  else 0

/-- An observer block. -/
def State.readObs (s : State) (m : MbxId) (x : Nat) : Word :=
  if x < 0x400 then memWord (s.mbox m).req x
  else if x < 0x800 then memWord (s.mbox m).rsp (x - 0x400)
  else s.readMbx m (x - 0x800)

/-- ACTIVE of a port, none while it is DISABLED as in its measurement block (07 R219, 08 R276, 12 PRT_STAT). -/
def State.activeField (s : State) (p : PortId) : Nat :=
  match s.activeSlot p with | some i => if (s.port p).state = .disabled then 3 else slotCode i | none => 3

/-- Pn_BRAKE# is held low: its driver is powered from VAUX (06 R187, 17 R530). -/
def State.brakePin (s : State) (p : PortId) : Bool := (s.port p).brake && s.gov.vaux

/-- PRTn. -/
def State.readPort (s : State) (p : PortId) (x : Nat) : Word :=
  let y := s.port p
  if x = 0x000 then
    fieldsW [(15, bit (!y.containBy.isEmpty)), (14, bit y.hrdyTmo), (13, bit y.extReset), (12, bit y.hrdyLevel), (11, bit y.hrdyQ),
      (10, bit (s.brakePin p)), (8, s.activeField p), (0, portCode y.state)]
  else if x = 0x004 then
    fieldsW [(24, match y.cfg with | some c => if y.mode.isSome then c.vlog2 else 0 | none => 0), (16, y.advDummy), (12, y.profile),
      (11, bit y.addr4), (8, match y.mode with | some m => modeIndex m | none => 7), (0, y.fport)]
  else if x = 0x008 then fieldsW [(16, y.trackers.countP (·.overdue)), (0, y.trackers.length)]
  else if x = 0x00C then
    fieldsW [(16, (s.pond.extents.filter fun (_, e) => e.port == p).length), (0, s.pond.countGranules fun g => g.ownedBy p)]
  else
    [y.cntVerdict, y.cntTransient, y.cntDeadline, y.cntOverflow, y.cntAbsorb, y.cntCancel, y.cntPass, y.cntPond, y.cntEcc, y.cntHostReset,
      y.cntRelease].getD (if 0x040 ≤ x then (x - 0x040) / 4 else 11) 0

/-! ### Reads (12 R384, R385, R388, R391) -/

/-- The port of a PRT block. -/
def prtOf (blk : Nat) : Option PortId := if h : 0x20 ≤ blk ∧ blk < 0x40 then some ⟨blk - 0x20, by omega⟩ else none

/-- The word at an aligned address: an alias reads its register, and a reserved address reads zero. -/
def State.readReg (s : State) (a : Nat) : Word :=
  let blk := a / 0x4000
  let y := a % 0x4000 / 4 * 4
  let x := y % 0x1000
  match blk with
  | 0x00 => s.readSys x
  | 0x01 => s.readEvt x
  | 0x02 => s.readGov x
  | 0x03 => s.readLnk x
  | 0x04 => s.readFan x
  | 0x05 => s.readDge x
  | 0x06 => s.readPke x
  | 0x07 => s.readOperand y
  | 0x08 => s.readTmp x
  | 0x09 => s.readLcd x
  | 0x0A => s.readLog x
  | 0x0B => s.log.window y
  | 0x0C => s.readMbx .owner x
  | 0x0D => memWord s.mbx.owner.req x
  | 0x0E => memWord s.mbx.owner.rsp x
  | 0x0F => s.readObs .obs0 x
  | 0x10 => s.readObs .obs1 x
  | 0x11 => s.readObs .obs2 x
  | b => match prtOf b with | some p => s.readPort p x | none => 0

/-- The words of one read of several, with the log's window as it stands at the request (12 R388, 16 R512). -/
def State.readWords (s : State) (a n : Nat) : List Word := (List.range n).map fun i => s.readReg (a + 4 * i)

/-- A domain in demand reaches On; the stones of one that does take blocks (17 R513 to R515). -/
def State.domainUp (s : State) (d : Nat) : State :=
  if s.demand d then (s.powerDomain d).dispatch else s

/-- The domain of the hardware behind a register block, beyond AONB and AONM (17 R514). -/
def blockDomain (blk : Nat) : Option Nat :=
  if blk = 0x05 then some 4
  else if blk = 0x06 ∨ blk = 0x07 then some 3
  else if blk = 0x0A ∨ blk = 0x0B then some 21
  else if 0x0C ≤ blk ∧ blk ≤ 0x11 then some 2
  else (prtOf blk).map fun p => 11 + p.val / 4

/-- A register access wakes the domain behind its block: the device wakes for one that needs SEC, and a domain in demand reaches On; one without demand is On for the access alone (12 R392, 17 R519; log 33). -/
def State.wakeFor (s : State) (a : Nat) : State :=
  match blockDomain (a / 0x4000) with
  | some 2 => s.wakeUp
  | some d => s.domainUp d
  | none => s

/-- What a read leaves behind: the block's domain awake, and BASE moved on when it takes the window's last word (12 R392, 16 R512). -/
def State.afterRead (s : State) (a n : Nat) : State :=
  let t := (List.range n).foldl (fun u i => u.wakeFor (a + 4 * i)) s
  if (List.range n).any fun i => a + 4 * i == 0x02FFFC then { t with log := t.log.advanced } else t

/-- LOG_WINDOW_READ: a master reads words of the log window from an offset (12 R402, 16 R512). -/
def execLogWindowRead (m : Master) (offset count : Nat) (s : State) : Result :=
  let a := 0x02C000 + offset
  if offset % 4 ≠ 0 ∨ count = 0 ∨ 0x4000 < offset + 4 * count ∨ s.dark then .next s
  else .next ((s.afterRead a count).emit (.logWords m (s.readWords a count)))

/-! ### Writes, field by field (12 R386, R393 to R397) -/

/-- How a write reaches a register: at its base address or through an alias. -/
inductive Via where
  | base | set | clear | toggle
deriving DecidableEq, Repr

/-- The alias of a quarter of a block (12 R385). -/
def viaOf (quarter : Nat) : Via :=
  match quarter with | 0 => .base | 1 => .set | 2 => .clear | _ => .toggle

/-- The value that a write gives a field of class RW, RWH or RWP (12 R386). -/
def Via.value {w : Nat} (v : Via) (old new : BitVec w) : BitVec w :=
  match v with
  | .base => new | .set => old ||| new | .clear => old &&& ~~~new | .toggle => old ^^^ new

/-- A field is written: at the base address always, through an alias only by a 1 in it (12 R393). -/
def Via.writes {w : Nat} (v : Via) (new : BitVec w) : Bool := v == .base || new != 0

/-- The bits of a W1C field that clear (12 R386). -/
def Via.clears (v : Via) (w : Word) : Word :=
  match v with | .base | .clear => w | _ => 0

/-- The bits of a W1S field whose action starts (12 R386). -/
def Via.starts (v : Via) (w : Word) : Word :=
  match v with | .base | .set => w | _ => 0

/-- A write of a CNT field: an alias has no effect (12 R386, R396). -/
def Via.count (v : Via) (old w : Word) : Word := if v = .base then w else old

/-- A word of a buffer of class RW. -/
def Via.buffer (v : Via) (m : Memory) (y : Nat) (w : Word) : Memory := memSetWord m y (v.value (memWord m y) w)

/-- EVT: clearing a status bit clears its alert latch (16 R502). -/
def State.writeEvt (s : State) (v : Via) (x : Nat) (w : Word) : State :=
  let e := s.evt
  let k := x / 4 % 32
  let f : Events :=
    if x < 0x080 then
      let c := ~~~(placed 1024 k (v.clears w))
      { e with stat := e.stat &&& c, latch := e.latch &&& c }
    else if x < 0x100 then { e with mask := setWordAt e.mask k (v.value (wordAt e.mask k) w) }
    else if x < 0x180 then
      let d := defaultWord ownDefault k
      { e with ownDiff := setWordAt e.ownDiff k (v.value (wordAt e.ownDiff k ^^^ d) w ^^^ d) }
    else if x < 0x200 then
      let d := defaultWord alertDefault k
      { e with alertDiff := setWordAt e.alertDiff k (v.value (wordAt e.alertDiff k ^^^ d) w ^^^ d) }
    else if x = 0x208 then { e with raised := v.count e.raised w }
    else e
  { s with evt := f }

/-- A port's counter is written. -/
def LinkPort.setCounter (p : LinkPort) (v : Via) (x : Nat) (w : Word) : LinkPort :=
  if h : x < 0x10 then { p with cntLaneErr := p.cntLaneErr.set (x / 4) (v.count p.cntLaneErr[x / 4] w) }
  else if h : x < 0x20 then { p with cntLaneFlt := p.cntLaneFlt.set ((x - 0x10) / 4) (v.count p.cntLaneFlt[(x - 0x10) / 4] w) }
  else match linkCounter x with
    | some i => { p with cnt := p.cnt.set i (v.count p.cnt[i] w) }
    | none => p

/-- LNK. -/
def State.writeLnk (s : State) (v : Via) (x : Nat) (w : Word) : State :=
  let k := s.link
  let f : Link :=
    if x < 0x100 then k
    else if x < 0x200 then { k with la := k.la.setCounter v (x - 0x100) w }
    else if x < 0x300 then { k with lb := k.lb.setCounter v (x - 0x200) w }
    else if x = 0x300 then { k with cntTagDup := v.count k.cntTagDup w }
    else if x = 0x304 then { k with cntStale := v.count k.cntStale w }
    else if x = 0x308 then { k with cntEvtDrop := v.count k.cntEvtDrop w }
    else if x = 0x30C then { k with cntDenied := v.count k.cntDenied w }
    else if x = 0x310 then { k with cntBulkDrop := v.count k.cntBulkDrop w }
    else k
  { s with link := f }

/-- FAN_SEND: POSTERR clears, and a written KIND sends (12 FAN_SEND, R397). -/
def State.writeSend (s : State) (v : Via) (w : Word) : State :=
  let t := if (v.clears w).getLsbD 5 then { s with fan := { s.fan with sendPosterr := false } } else s
  let new : BitVec 4 := w.extractLsb' 0 4
  if v.writes new then
    match (v.value (BitVec.ofNat 4 t.fan.sendKind) new).toNat with
    | 2 => t.postSend 2
    | 3 => t.postSend 3
    | 4 => t.postSend 4
    | _ => if t.fan.sendBusy then { t with fan := { t.fan with sendPosterr := true } } else t
  else t

/-- FAN, but for what master 14 alone writes. -/
def State.writeFan (s : State) (v : Via) (x : Nat) (w : Word) : State :=
  let f := s.fan
  if x = 0x008 then { s with fan := { f with resNew := f.resNew && !(v.clears w).getLsbD 20 } }
  else if x = 0x00C then { s with fan := { f with cntRefused := v.count f.cntRefused w } }
  else s

/-- The actions of W1S bits, in ascending bit order. -/
def doActions (w : Word) (acts : List (State → State)) (s : State) : State :=
  acts.zipIdx.foldl (fun t (f, i) => if w.getLsbD i then f t else t) s

/-- DGE_CTXn (10 R325). -/
def State.writeCtx (s : State) (v : Via) (n : Fin 4) (y : Nat) (w : Word) : State :=
  let k := winCtx n
  if y = 0x00 then doActions (v.starts w) [fun t => t.dgeStart n, fun t => t.dgeFinal n, fun t => t.dgeFree n] s
  else if y = 0x04 then
    s.modCtx k fun c => { c with cfgAlg := (v.value (BitVec.ofNat 2 c.cfgAlg) (w.extractLsb' 0 2)).toNat }
  else if y = 0x08 then
    s.modCtx k fun c => { c with cfgLen := c.cfgLen / 2 ^ 32 * 2 ^ 32 + (v.value (BitVec.ofNat 32 c.cfgLen) w).toNat }
  else if y = 0x0C then
    s.modCtx k fun c => { c with
      cfgLen := (v.value (BitVec.ofNat 16 (c.cfgLen / 2 ^ 32)) (w.extractLsb' 0 16)).toNat * 2 ^ 32 + c.cfgLen % 2 ^ 32 }
  else if y = 0x10 then (if v.writes w then s.dgeData n (v.value 0 w) else s)
  else if y = 0x14 then
    let b := v.clears w
    s.modCtx k fun c => { c with posterr := c.posterr && !b.getLsbD 9, short := c.short && !b.getLsbD 8, trunc := c.trunc && !b.getLsbD 7 }
  else s

/-- DGE. -/
def State.writeDge (s : State) (v : Via) (x : Nat) (w : Word) : State :=
  if x = 0x004 then
    let t := { s with dge := { s.dge with tag := v.value s.dge.tag (w.extractLsb' 16 16) } }
    if (v.starts w).getLsbD 0 then t.dgeAlloc else t
  else if x = 0x00C then { s with dge := { s.dge with cntFull := v.count s.dge.cntFull w } }
  else if h : 0x100 ≤ x ∧ x < 0x300 then s.writeCtx v ⟨(x - 0x100) / 0x80, by omega⟩ ((x - 0x100) % 0x80) w
  else s

/-- The bits of PKE_CMD that are not reserved. -/
def cmdMask : Word := 0x003F1FFF

/-- A posted register of the PKE block: discarded while BUSY (09 R311, 12 R397). -/
def State.postPke (s : State) (v : Via) (w : Word) (f : Pke → Pke) : State :=
  let busy := s.pke.status == 1 || s.pke.status == 3
  if !v.writes w then s
  else if busy then { s with pke := { s.pke with posterr := true } }
  else { s with pke := f s.pke }

/-- PKE. -/
def State.writePke (s : State) (v : Via) (x : Nat) (w : Word) : State :=
  let k := s.pke
  if x = 0x004 then s.postPke v (if v = .base then w else w &&& cmdMask) fun k => { k with cmd := v.value k.cmd w &&& cmdMask }
  else if x = 0x008 then s.postPke v w fun k => { k with len0 := v.value k.len0 w }
  else if x = 0x00C then s.postPke v w fun k => { k with len1 := v.value k.len1 w }
  else if x = 0x010 then s.postPke v w fun k => { k with arg := v.value k.arg w }
  else if x = 0x014 then doActions (v.starts w) [State.pkeRequest, State.pkeGo, State.pkeAbort, State.pkeRelease] s
  else if x = 0x018 then { s with pke := { k with posterr := k.posterr && !(v.clears w).getLsbD 8 } }
  else if x = 0x020 then { s with pke := { k with cntDone := v.count k.cntDone w } }
  else if x = 0x024 then { s with pke := { k with cntAbort := v.count k.cntAbort w } }
  else if x = 0x028 then { s with pke := { k with cntFault := v.count k.cntFault w } }
  else s

/-- A word of the operand window (09 R309). -/
def State.writeOperand (s : State) (y : Nat) (w : Word) : State :=
  match s.pke.windowCore with
  | some c =>
    let x := s.pke.core c
    { s with pke := s.pke.setCore c { x with mem := memSetWord x.mem y w } }
  | none => s

/-- TMP. -/
def State.writeTmp (s : State) (v : Via) (x : Nat) (w : Word) : State :=
  let c := v.clears w
  if x = 0x000 then { s with mon := { s.mon with pinAlarm := s.mon.pinAlarm &&& ~~~(c.extractLsb' 8 8) } }
  else if x = 0x004 then { s with mon := { s.mon with env := s.mon.env &&& ~~~(c.extractLsb' 0 11) } }
  else s

/-- LOG. -/
def State.writeLog (s : State) (v : Via) (x : Nat) (w : Word) : State :=
  let l := s.log
  let c := v.clears w
  if x = 0x000 then { s with log := { l with wfault := l.wfault && !c.getLsbD 31, hwlost := l.hwlost && !c.getLsbD 30 } }
  else if x = 0x00C then
    { s with log := { l with
        base := v.value l.base (w.extractLsb' 0 16)
        advance := (v.value (BitVec.ofBool l.advance) (w.extractLsb' 16 1)).getLsbD 0 } }
  else s

/-- DOORBELL and RSP_ACK of a mailbox. -/
def State.writeMbx (s : State) (v : Via) (m : MbxId) (x : Nat) (w : Word) : State :=
  let go := (v.starts w).getLsbD 0
  if x = 0 && go then s.ringMbox m
  else if x = 8 && go then s.ackMbox m
  else s

/-- An observer block. -/
def State.writeObs (s : State) (v : Via) (m : MbxId) (x : Nat) (w : Word) : State :=
  if x < 0x400 then
    let b := s.mbox m
    s.setMbox m { b with req := v.buffer b.req x w }
  else if x < 0x800 then s
  else s.writeMbx v m (x - 0x800) w

/-- PRTn. -/
def Port.write (y : Port) (v : Via) (x : Nat) (w : Word) : Port :=
  if x = 0x000 then { y with extReset := y.extReset && !(v.clears w).getLsbD 13 }
  else if x = 0x040 then { y with cntVerdict := v.count y.cntVerdict w }
  else if x = 0x044 then { y with cntTransient := v.count y.cntTransient w }
  else if x = 0x048 then { y with cntDeadline := v.count y.cntDeadline w }
  else if x = 0x04C then { y with cntOverflow := v.count y.cntOverflow w }
  else if x = 0x050 then { y with cntAbsorb := v.count y.cntAbsorb w }
  else if x = 0x054 then { y with cntCancel := v.count y.cntCancel w }
  else if x = 0x058 then { y with cntPass := v.count y.cntPass w }
  else if x = 0x05C then { y with cntPond := v.count y.cntPond w }
  else if x = 0x060 then { y with cntEcc := v.count y.cntEcc w }
  else if x = 0x064 then { y with cntHostReset := v.count y.cntHostReset w }
  else if x = 0x068 then { y with cntRelease := v.count y.cntRelease w }
  else y

/-- What a permitted write of a word does. -/
def State.putReg (s : State) (a : Nat) (w : Word) : State :=
  let blk := a / 0x4000
  let y := a % 0x4000
  let x := y % 0x1000
  let v := viaOf (y / 0x1000)
  match blk with
  | 0x00 => if x = 0x018 then { s with sys := { s.sys with cause := s.sys.cause &&& ~~~((v.clears w).extractLsb' 0 7) } } else s
  | 0x01 => s.writeEvt v x w
  | 0x03 => s.writeLnk v x w
  | 0x04 => s.writeFan v x w
  | 0x05 => s.writeDge v x w
  | 0x06 => s.writePke v x w
  | 0x07 => s.writeOperand y w
  | 0x08 => s.writeTmp v x w
  | 0x0A => s.writeLog v x w
  | 0x0C => s.writeMbx v .owner x w
  | 0x0D => s.setMbox .owner { s.mbx.owner with req := v.buffer s.mbx.owner.req x w }
  | b => match prtOf b with | some p => s.modPort p fun z => z.write v x w | none => s

/-! ### Who may write (12 R389, 11 R351) -/

/-- The observer mailbox of a block. -/
def obsBlock : Nat → Option (Master × MbxId)
  | 0x0F => some (.m0, .obs0) | 0x10 => some (.m14, .obs1) | 0x11 => some (.m15, .obs2) | _ => none

/-- The address is FAN_SEND, or a word of FAN_MSG. -/
def fanOwn (a : Nat) : Bool :=
  let x := a % 0x1000
  a / 0x4000 == 0x04 && (x == 0x004 || decide (0x100 ≤ x ∧ x < 0x200))

/-- A master writes FAN_SEND or FAN_MSG. -/
def State.writeOwnFan (s : State) (a : Nat) (w : Word) : State :=
  let x := a % 0x1000
  let v := viaOf (a % 0x4000 / 0x1000)
  if x = 0x004 then s.writeSend v w else { s with fan := { s.fan with msg := v.buffer s.fan.msg (x - 0x100) w } }

/-- A master writes a word: the state it leaves, and whether the write is taken (OK) or refused (DENIED) (12 R389, R403). -/
def State.writeReg (s : State) (m : Master) (a : Nat) (w : Word) : State × Bool :=
  let owner := s.fan.owner == some m
  if !s.takesWrites m then (s, false)
  else if fanOwn a then (if m = .m14 then (s.writeOwnFan a w, true) else (s, owner))
  else
    match obsBlock (a / 0x4000) with
    | some (k, b) =>
      if owner then (s, true)
      else if m = k then ((s.wakeFor a).writeObs (viaOf (a % 0x4000 / 0x1000)) b (a % 0x1000) w, true)
      else (s, false)
    | none => if owner then ((s.wakeFor a).putReg a w, true) else (s, false)

/-- A write of this word writes LOG_WIN.BASE. -/
def writesBase (addr : Nat) (w : Word) : Bool :=
  addr / 0x4000 == 0x0A && addr % 0x1000 == 0x00C && (viaOf (addr % 0x4000 / 0x1000)).writes (w.extractLsb' 0 16)

/-- The window's last word is read in the cycle of a write: BASE moves on, unless the write has written BASE, and then the advance is lost and HWLOST set (12 R393, R395). `adv` is ADVANCE before the cycle. -/
def Log.advanceIn (l : Log) (adv wrote : Bool) : Log :=
  if !adv then l else if wrote then { l with hwlost := true } else { l with base := l.base + 512 }

/-- REGISTER_WRITE: a master writes one aligned word; `w.lastWord` says that the log window's last word is read in the same cycle (12 R384 to R397). Every other collision of R393 is the order of two commands (log 12). -/
def execRegisterWrite (m : Master) (addr : Nat) (w : RegWord) (s : State) : Result :=
  if addr % 4 ≠ 0 ∨ 0x1000000 ≤ addr ∨ s.dark then .next s
  else
    let t := (s.writeReg m addr w.word).1
    if w.lastWord then .next { t with log := t.log.advanceIn s.log.advance (s.fan.owner == some m && writesBase addr w.word) } else .next t

end Sys2Proof.Machine
end

