-- ==== Sys2Proof/Machine/I3c.lean ====
section
/-! DEFINITION. The I3C target: its address and endpoint ID, MCTP control commands, and private transfers as master 14 (08 R266, R267, 11 R374, 17 R521). -/

namespace Sys2Proof.Machine

open Sys2Proof

/-- I3C_DYNAMIC_ADDRESS: ENTDAA or SETDASA assigns the address, and the I3C transport's connection is reset (08 R266, R267). -/
def execI3cDynamicAddress (addr : BitVec 7) (s : State) : Result :=
  if s.i3cUp then
    let t := s.dropArrivals.resetTr .i3c
    .next { t with i3c := { t.i3c with addr := some addr } }
  else .next s

/-- An MCTP control response, message type 0x00 (08 R267). It goes out whether the miller's firmware runs or not, since R267 does not say which part of the device answers (DESIGN CHOICE log 127). -/
def State.mctpAnswer (s : State) (cmd : Nat) (fields : List Byte) : State :=
  if s.i3cPrivate then s.mctpSend 0x00 (Config.mctpBytes cmd fields) else s.i3cMatch

/-- MCTP_SET_ENDPOINT_ID: the endpoint ID is set, and the I3C transport's connection is reset (08 R266, R267). -/
def execMctpSetEndpointId (eid : Byte) (s : State) : Result :=
  if s.i3cPrivate then
    let t := s.dropArrivals.resetTr .i3c
    .next (({ t with i3c := { t.i3c with eid } }).mctpAnswer 1 [eid])
  else .next s.i3cMatch

/-- MCTP_GET_ENDPOINT_ID (08 R267). -/
def execMctpGetEndpointId (s : State) : Result := .next (s.mctpAnswer 2 [s.i3c.eid])

/-- MCTP_GET_VERSION_SUPPORT (08 R267). -/
def execMctpGetVersionSupport (s : State) : Result := .next (s.mctpAnswer 4 [])

/-- MCTP_GET_MESSAGE_TYPE_SUPPORT: the message types of R266 (08 R266, R267). -/
def execMctpGetMessageTypeSupport (s : State) : Result := .next (s.mctpAnswer 5 [0x05, 0x06])

/-- Words written by master 14 at ascending addresses; one beyond the register space writes nothing. -/
def State.i3cWrites (s : State) : Nat → List Word → State
  | _, [] => s
  | a, w :: ws => State.i3cWrites (if a < 0x1000000 then (s.writeReg .m14 a w).1 else s) (a + 4) ws

/-- I3C_PRIVATE_WRITE: `addr` is the number that the transfer's three address bytes spell, least significant first; whole words follow, up to 256 bytes, written as master 14 (11 R374, 12 R384, R389). -/
def execI3cPrivateWrite (addr : Nat) (words : List Word) (s : State) : Result :=
  if !s.i3cPrivate then .next s.i3cMatch
  else if addr % 4 ≠ 0 then .next s
  else .next (s.i3cWrites addr (words.take 64))

/-- A word for a read over I3C; what lies beyond the register space is not stated, a free value (log 5). -/
def State.i3cWord (s : State) (a i : Nat) : Word :=
  if a < 0x1000000 then s.readReg a else BitVec.ofNat 32 (leNat ((s.skipFree (4 * i)).freeBytes 4))

/-- I3C_PRIVATE_READ: the private write of three address bytes, which spell `addr`, and after the repeated start the read of `count` bytes, 256 at most, as master 14. A word that is read in part is read (11 R374, 12 R388). -/
def execI3cPrivateRead (addr count : Nat) (s : State) : Result :=
  if !s.i3cPrivate then .next s.i3cMatch
  else if addr % 4 ≠ 0 then .next s
  else
    let k := min count 256
    let n := (k + 3) / 4
    let bs := (List.range n).flatMap fun i => leBytes 4 (s.i3cWord (addr + 4 * i) i).toNat
    .next (((s.afterRead addr n).skipFree (4 * n)).emit (.i3cBytes (bs.take k)))

end Sys2Proof.Machine
end

