-- ==== Sys2Proof/Machine/Link.lean ====
section
/-! DEFINITION. The Ecorn link: training and lanes, frames, acknowledgement and replay, credits and forwarding (11 R335 to R367). -/

namespace Sys2Proof.Machine

open Sys2Proof

/-! ### Lanes and training (11 R337 to R345) -/

/-- The lanes that carry the block stream, for the lanes usable at both ends (11 R342). -/
def chosenLanes (m : BitVec 4) : BitVec 4 :=
  if m = 0b1111#4 then m
  else if m &&& 0b0011#4 = 0b0011#4 then 0b0011#4
  else if m &&& 0b1100#4 = 0b1100#4 then 0b1100#4
  else m &&& (0 - m)

/-- The node through which the owner's frames pass lies behind this port (11 R370). -/
def State.facesOwner (s : State) (l : LinkId) : Bool :=
  match s.fan.owner with
  | some .m0 => s.portTo 0 == l
  | some .m15 => s.portTo 15 == l
  | _ => false

/-- Frames that wait in the FWD pools of the other port are discarded, and their credits come free (11 R345, R360). -/
def LinkPort.dropFwd (x : LinkPort) : LinkPort :=
  let k := fun vc : Bool => ((x.fwd.filter fun f => f.vc == vc).map Frame.cost).sum
  if x.fwd.isEmpty then x else (({ x with fwd := [] }).free 1 (k false)).free 3 (k true)

/-- What a port that goes down loses: its replay buffer and every frame that waits to leave through it are discarded and counted (11 R345). -/
def State.linkStops (s : State) (l : LinkId) : State :=
  let y := s.lport (otherLink l)
  let n := (s.lport l).replay.length + (s.lport l).txq.length + y.fwd.length
  (s.modLport l fun x =>
    LinkPort.count { x with
      tstate := 0, peerRole := 0, inService := 0, width := 0, failedTries := 0, replay := [], txq := [], ackDue := false,
      nakSent := false, vc0 := [] } 13 n).setLport (otherLink l) y.dropFwd

/-- The records that wait for an owner behind a port that went down are dropped (11 R370). -/
def State.ownerLost (s : State) (l : LinkId) : State := if s.facesOwner l then s.advanceEvt.evtDropped s.evtWaiting else s

/-- A port goes down (11 R345, R370). -/
def State.linkGoesDown (s : State) (l : LinkId) : State := ((s.linkStops l).linkEvent l 1).ownerLost l

/-- Both ports lose a supply that they share: each that is not down goes down, their events in ascending source (11 R340, 16 R498, 17 R531). -/
def State.linksLost (s : State) : State :=
  let ls := [LinkId.la, .lb].filter fun l => (s.lport l).tstate != 0
  let t := ls.foldl (fun u l => u.linkEvent l 1) (ls.foldl State.linkStops s)
  ls.foldl State.ownerLost t

/-- Retire lanes until the next power-on reset (11 R343). -/
def State.retireLanes (s : State) (l : LinkId) (m : BitVec 4) : State :=
  let new := m &&& ~~~(s.lport l).retired
  let t := s.modLport l fun x => { x with retired := x.retired ||| new }
  (List.range 4).foldl (fun u i => if new.getLsbD i then u.linkEvent l 3 else u) t

/-- A lane fault: the port retrains, and a lane with more than 4 transients in the last 60 s is retired by it (11 R343). -/
def State.laneFaults (s : State) (l : LinkId) (i : Fin 4) : State :=
  let x := s.lport l
  if x.tstate ≠ 6 ∨ !x.inService.getLsbD i.val then s
  else
    let old := recent s.now sixtySeconds x.transients[i]
    let t := s.setLport l { x with
      cntLaneFlt := x.cntLaneFlt.set i (x.cntLaneFlt[i] + 1), laneErrs := x.laneErrs.set i [],
      transients := x.transients.set i (s.now :: old) }
    (if 4 < old.length then t.retireLanes l (BitVec.ofNat 4 (2 ^ i.val)) else t).retrain l

/-- Resend every held frame from the oldest; one replayed 4 times makes the port retrain (11 R358). -/
def State.resend (s : State) (l : LinkId) : State :=
  let x := s.lport l
  let t := s.setLport l (({ x with replay := x.replay.map fun r : Replay => { r with sends := r.sends + 1 } }).count 7 x.replay.length)
  let u := t.resendAll l x.replay
  if x.replay.any fun r => decide (3 ≤ r.sends) then u.retrain l else u

/-- A failed attempt; the third in a row takes the port down (11 R340). -/
def State.trainFails (s : State) (l : LinkId) : State :=
  if (s.lport l).failedTries = 2 then s.linkGoesDown l
  else s.modLport l fun x => { x with tstate := 1, failedTries := x.failedTries + 1 }

/-- A port becomes ACTIVE on these lanes. After having been down its credit counters and hop numbers start anew; after a retrain every held frame is replayed (11 R340, R342, R344, R345, R361; log 11). -/
def State.trained (s : State) (l : LinkId) (lanes : BitVec 4) (peerIsDevice : Bool) : State :=
  let x := s.lport l
  let w := popcount lanes
  let again := x.width != 0
  let y : LinkPort := { x with
    tstate := 6, peerRole := if peerIsDevice then 1 else 2, inService := lanes, width := w, failedTries := 0, blocks := 0,
    laneErrs := Vector.replicate 4 [] }
  let z : LinkPort :=
    if again then y
    else { y with
      txSeq := 0, rxSeq := 0, g := Vector.ofFn fun i : Fin 4 => BitVec.ofNat 8 (poolSize i), used := Vector.replicate 4 0,
      c := Vector.replicate 4 0, glast := Vector.replicate 4 0, creditDue := true }
  let t := (s.setLport l z).linkEvent l 0
  let u := if w = x.width then t else t.linkEvent l 2
  if again then
    (u.resendAll l x.replay).modLport l fun k => k.count 7 x.replay.length
  else u

/-- A link port's LNK domain (17 R514). -/
def lnkDomain : LinkId → Nat
  | .la => 19 | .lb => 20

/-- A port is ACTIVE, and its LNK domain and the transaction layer have power (17 R514, R528). -/
def State.lnkOn (s : State) (l : LinkId) : Bool := (s.lport l).tstate == 6 && !s.dark

/-- LINK_TRAIN: one training attempt of a port that is not ACTIVE, whole: its LNK domain reaches On, then from DETECT to ACTIVE, or to its failure. Lanes that train have had an inverted pair corrected. In a retrain the lanes that fail LOCK or EQUALIZE are retired. No frame starts before the first CREDIT: G_last is zero until then (11 R339 to R345, R361, 17 R514, R515, R518, R531). -/
def execLinkTrain (l : LinkId) (energy : Bool) (goodLanes peerLanes : BitVec 4) (peerIsDevice : Bool) (s : State) : Result :=
  if (s.lport l).tstate = 6 ∨ s.gov.state = .deep ∨ s.dark ∨ s.gov.porstLow then .next s
  else
    let up := energy && s.gov.vddl && s.gov.vddlh && s.gov.refclk
    let a := (s.powerDomain (lnkDomain l)).modLport l fun x => { x with energy }
    let tried := ~~~(s.lport l).retired
    if !up then .next ((a.trainBlocks l tried 0 false).trainFails l)
    else
      let b := if (s.lport l).width = 0 then a else a.retireLanes l (~~~goodLanes)
      let mine := goodLanes &&& ~~~(b.lport l).retired
      let c := b.trainBlocks l tried mine true
      if mine = 0 then .next (c.trainFails l)
      else if mine &&& peerLanes = 0 then .next (c.linkGoesDown l)
      else .next (c.trained l (chosenLanes (mine &&& peerLanes)) peerIsDevice)

/-- LINK_DOWN_RETRY: 1 s after the last, a down port starts an attempt; none in DEEP (11 R340, 17 R518). -/
def execLinkDownRetry (l : LinkId) (s : State) : Result :=
  if (s.lport l).tstate = 0 ∧ s.gov.state ≠ .deep ∧ !s.dark then .next (s.modLport l fun x => { x with tstate := 1 })
  else .next s

/-- LANE_FAULT (11 R343). -/
def execLaneFault (l : LinkId) (lane : Fin 4) (s : State) : Result := s.powered <| .next (s.laneFaults l lane)

/-- LINK_PORT_DOWN: a port that is ACTIVE, retrains or trains goes down (11 R340, R342, R345). -/
def execLinkPortDown (l : LinkId) (s : State) : Result := s.powered <|
  if (s.lport l).tstate = 0 then .next s else .next (s.linkGoesDown l)

/-- SKIP_ALIGN_INSERT: 4,096 more blocks have gone out on each lane: SKIP, and ALIGN with every fourth (11 R337 to R339). -/
def execSkipAlignInsert (l : LinkId) (s : State) : Result :=
  let x := s.lport l
  if !s.lnkOn l then .next s
  else
    let n := (x.blocks + 4096) % 16384
    let t := (s.setLport l { x with blocks := n }).emit (skipOut l x.inService)
    .next (if n = 0 then t.emit (alignOut l x.inService) else t)

/-- The control block types (11 R339). -/
def blockKnown (k : Byte) : Bool :=
  k == 0x1E || k == 0x2D || k == 0x4B || k == 0x55 || k == 0x66 || k == 0x78 || k == 0x99

/-- The block is a lane error: its sync header is invalid, or it is a control block of an unknown type (11 R336, R339). -/
def laneError (sync : BitVec 2) (kind : Byte) : Bool :=
  if sync = 0b01#2 then false else if sync = 0b10#2 then !blockKnown kind else true

/-- LANE_BLOCK_RECEIVE: SKIP and ALIGN leave the receiver aligned and change nothing else; a lane error is counted, and the seventeenth within 1 ms is a lane fault (11 R336, R338, R339, R343, R383). -/
def execLaneBlockReceive (l : LinkId) (lane : Fin 4) (sync : BitVec 2) (kind : Byte) (_bits : BitVec 56) (s : State) : Result :=
  let x := s.lport l
  if !s.lnkOn l ∨ !x.inService.getLsbD lane.val ∨ !laneError sync kind then .next s
  else
    let errs := s.now :: recent s.now 1000000 x.laneErrs[lane]
    let t := s.setLport l { x with
      cntLaneErr := x.cntLaneErr.set lane (x.cntLaneErr[lane] + 1), laneErrs := x.laneErrs.set lane errs }
    .next (if 16 < errs.length then t.laneFaults l lane else t)

/-! ### Starting frames (11 R356, R361 to R363, R366) -/

/-- VC0 bytes started in the last 640 ns. -/
def LinkPort.vc0Used (x : LinkPort) (now : Nat) : Nat := ((x.vc0.filter fun e => decide (now < e.1 + 640)).map Prod.snd).sum

/-- A frame's turn may come now: it has credit, and is within the VC0 limit (11 R361, R363). -/
def State.inTurn (s : State) (l : LinkId) (f : Frame) : Bool :=
  let x := s.lport l
  s.lnkOn l && x.hasCredit (poolOf f.vc (!s.chargesTerm l f)) f.cost && (f.vc || decide (x.vc0Used s.now + f.padded ≤ 2048))

/-- The replay buffer can hold a frame (11 R356). -/
def LinkPort.canHold (x : LinkPort) (f : Frame) : Bool := decide (x.held + f.padded ≤ 16384)

/-- The port may start a frame now: replay room, credit and the VC0 limit (11 R356, R361, R363). -/
def State.mayStart (s : State) (l : LinkId) (f : Frame) : Bool := s.inTurn l f && (s.lport l).canHold f

/-- The last frame started on a channel was a forwarded one. -/
def LinkPort.lastFwd (x : LinkPort) (vc : Bool) : Bool := if vc then x.lastFwd1 else x.lastFwd0

/-- A port starts a frame: its next HSEQ, its credits charged, a copy in the replay buffer (11 R356, R361, R363). -/
def State.startFrame (s : State) (l : LinkId) (f : Frame) (stomped forwarded : Bool) : State :=
  let i := poolOf f.vc (!s.chargesTerm l f)
  let x := s.lport l
  (s.setLport l { x with
    c := x.c.set i (x.c[i] + BitVec.ofNat 8 f.cost), txSeq := (x.txSeq + 1) % 4096
    lastFwd0 := if f.vc then x.lastFwd0 else forwarded
    lastFwd1 := if f.vc then forwarded else x.lastFwd1
    replay := x.replay ++ [{ hseq := x.txSeq, frame := f, stomped, sends := 0 }],
    vc0 := if f.vc then x.vc0 else (s.now, f.padded) :: x.vc0.filter fun e => decide (s.now < e.1 + 640) }).sendBlocks l
    (frameBlocks x.txSeq f stomped)

/-- The frame of a source whose turn on a channel may come: the oldest there. -/
def State.candidate (s : State) (l : LinkId) (fs : List Frame) (vc : Bool) : Option Frame :=
  match fs.find? fun f => f.vc == vc with
  | some f => if s.inTurn l f then some f else none
  | none => none

/-- The frame whose turn it is on a channel, and whether it is a forwarded one: the two sources alternate (11 R363). -/
def State.pickVc (s : State) (l : LinkId) (vc : Bool) : Option (Frame × Bool) :=
  match s.candidate l (s.lport l).txq vc, s.candidate l (s.lport (otherLink l)).fwd vc with
  | some f, none => some (f, false)
  | none, some g => some (g, true)
  | some f, some g => if (s.lport l).lastFwd vc then some (f, false) else some (g, true)
  | none, none => none

/-- What a port starts next: VC0 before VC1; while the replay buffer cannot hold the frame whose turn it is, no frame starts (11 R356, R363). -/
def State.pick (s : State) (l : LinkId) : Option (Frame × Bool) :=
  match (s.pickVc l false).or (s.pickVc l true) with
  | some r => if (s.lport l).canHold r.1 then some r else none
  | none => none

/-- The frame leaves: a forwarded one frees its FWD credits on the port it came in by (11 R360, R366). -/
def State.sendPicked (s : State) (l : LinkId) (f : Frame) (forwarded : Bool) : State :=
  let t := s.startFrame l f false forwarded
  if forwarded then
    t.modLport (otherLink l) fun y => ({ y with fwd := y.fwd.erase f }).free (poolOf f.vc true) f.cost
  else t.modLport l fun x => { x with txq := x.txq.erase f }

/-- FRAME_TRANSMIT: a port starts the frame whose turn it is, when credit, the replay buffer and the VC0 limit permit (11 R356, R361, R363). -/
def execFrameTransmit (l : LinkId) (s : State) : Result :=
  match s.pick l with
  | some (f, fwd) => .next (s.sendPicked l f fwd)
  | none => .next s

/-- FRAME_FORWARD: the frame received on this port whose turn it is leaves the other port (11 R363, R365 to R367). -/
def execFrameForward (l : LinkId) (s : State) : Result :=
  match s.pick (otherLink l) with
  | some (f, true) => .next (s.sendPicked (otherLink l) f true)
  | _ => .next s

/-! ### Receiving frames (11 R349, R357, R359, R360, R362, R365, R368) -/

/-- The receiver sends NAK once and discards frames until the expected number arrives (11 R357). -/
def State.sendNak (s : State) (l : LinkId) : State :=
  let x := s.lport l
  (s.setLport l (({ x with nakSent := true, ackDue := false }).count 5)).sendBlocks l [ackBlock ((x.rxSeq + 4095) % 4096) true]

/-- The frame with the expected number is accepted (11 R357). -/
def LinkPort.accepted (x : LinkPort) : LinkPort := { x with rxSeq := (x.rxSeq + 1) % 4096, ackDue := true, nakSent := false }

/-- A frame is addressed here: to this node, or an ENUM frame (11 R360, R365). -/
def State.isHere (s : State) (f : Frame) : Bool := f.type == 8 || (s.sys.node != 0 && f.dest == s.sys.node)

/-- The pool that a received frame is charged to. -/
def State.rxPool (s : State) (f : Frame) : Fin 4 := poolOf f.vc (!s.isHere f)

/-- A frame in transit is cut through: the outgoing port is idle and no wider (11 R366). -/
def State.cutsThrough (s : State) (l : LinkId) (f : Frame) : Bool :=
  let o := otherLink l
  !s.isHere f && !(decide (9 ≤ f.dest) && decide (f.dest ≤ 14)) && s.mayStart o f && (s.lport o).txq.isEmpty && (s.lport l).fwd.isEmpty
    && decide ((s.lport o).width ≤ (s.lport l).width)

/-- A frame whose CRC fails leaves stomped when it was being cut through (11 R359). -/
def State.stompOn (s : State) (l : LinkId) (f : Frame) : State :=
  if s.cutsThrough l f then (s.startFrame (otherLink l) f true true).modLport (otherLink l) fun y => y.count 4 else s

/-- A VC0 frame that a device serves: not a response or EVT, and of a subtype or kind that R371 or R375 has for devices (log 30). -/
def Frame.served (f : Frame) : Bool :=
  let k := f.argB % 16
  if f.type == 8 then k == 1 || k == 2 || k == 3
  else if f.type == 9 then k == 2 || k == 3 || k == 4
  else f.type == 1 || f.type == 3 || f.type == 7

/-- A good frame addressed here, its credits charged: kept for the transaction layer; a type that no device receives, and a repeated request, is discarded (11 R350, R360, R368). -/
def State.keepHere (s : State) (l : LinkId) (x : LinkPort) (f : Frame) : State :=
  let i := s.rxPool f
  if f.vc then s.setLport l { x with term1 := x.term1 ++ [f] }
  else if !f.served then s.setLport l (x.free i f.cost)
  else if f.isRequest && x.serving.contains f.ident then
    let t := s.setLport l (x.free i f.cost)
    { t with link := { t.link with cntTagDup := t.link.cntTagDup + 1 } }
  else s.setLport l { x with term0 := x.term0 ++ [f], serving := if f.isRequest then f.ident :: x.serving else x.serving }

/-- A good frame addressed elsewhere, its credits charged: kept to leave the other port, or discarded as no-route (11 R365). -/
def State.keepFwd (s : State) (l : LinkId) (x : LinkPort) (f : Frame) : State :=
  let o := otherLink l
  if (9 ≤ f.dest ∧ f.dest ≤ 14) ∨ !(s.lport o).up then
    (s.setLport l (x.free (s.rxPool f) f.cost)).modLport o fun y => y.count 12
  else s.setLport l { x with fwd := x.fwd ++ [f] }

/-- A frame with the expected number and a good CRC (11 R349, R362). -/
def State.frameGood (s : State) (l : LinkId) (bs : List Byte) : State :=
  let f := frameOf bs
  let x := (s.lport l).accepted
  match x.charge (s.rxPool f) f.cost with
  | none => (s.setLport l (x.count 10)).linkEvent l 5
  | some y =>
    if !formatOk bs then s.setLport l ((y.free (s.rxPool f) f.cost).count 11)
    else if s.isHere f then s.keepHere l y f
    else s.keepFwd l y f

/-- FRAME_RECEIVE: a frame arrives with its hop number (11 R348, R349, R357 to R360, R362, R365, R368). A number of the 2,048 before the expected one is one already accepted. -/
def execFrameReceive (l : LinkId) (hseq : Nat) (bytes : List Byte) (s : State) : Result :=
  let x := s.lport l
  let d := (hseq + 4096 - x.rxSeq) % 4096
  let f := frameOf bytes
  if !s.lnkOn l then .next s
  else if 2048 ≤ d then .next (s.modLport l fun y => y.count 9)
  else if d ≠ 0 then (if x.nakSent then .next s else .next (s.sendNak l))
  else if !hcrcOk bytes then .next ((s.modLport l fun y => y.count 1).sendNak l)
  else if crcOk bytes then .next (s.frameGood l bytes)
  else if crcStomped bytes then
    let t := s.stompOn l f
    let y := ((t.lport l).accepted).count 3
    match y.charge (s.rxPool f) f.cost with
    | some z => .next (t.setLport l (z.free (s.rxPool f) f.cost))
    | none => .next ((t.setLport l (y.count 10)).linkEvent l 5)
  else .next (((s.stompOn l f).modLport l fun y => y.count 2).sendNak l)

/-! ### ACK, NAK, replay and credits (11 R357, R358, R361, R362) -/

/-- The frames of the replay buffer that an ASEQ does not cover. -/
def LinkPort.uncovered (x : LinkPort) (aseq : Nat) : List Replay :=
  x.replay.filter fun r => decide (2048 ≤ (aseq + 4096 - r.hseq) % 4096)

/-- ACK_RECEIVE: an ACK frees the frames it covers; with NAK set the others are resent (11 R356, R358). -/
def execAckReceive (l : LinkId) (aseq : Nat) (nak : Bool) (s : State) : Result :=
  let x := s.lport l
  if !s.lnkOn l then .next s
  else
    let y := { x with replay := x.uncovered aseq }
    if nak then .next ((s.setLport l (y.count 6)).resend l) else .next (s.setLport l y)

/-- ACK_TIMER: while an accepted frame is not acknowledged, the receiver sends ACK (11 R357). -/
def execAckTimer (l : LinkId) (s : State) : Result :=
  let x := s.lport l
  if !s.lnkOn l ∨ !x.ackDue then .next s
  else .next ((s.setLport l { x with ackDue := false }).sendBlocks l [ackBlock ((x.rxSeq + 4095) % 4096) false])

/-- REPLAY_TIMEOUT: 2 µs without an ACK that covers the oldest held frame (11 R358). -/
def execReplayTimeout (l : LinkId) (s : State) : Result :=
  let x := s.lport l
  if !s.lnkOn l ∨ x.replay.isEmpty then .next s
  else .next ((s.setLport l (x.count 8)).resend l)

/-- CREDIT_RECEIVE: G_last of each pool (11 R361). -/
def execCreditReceive (l : LinkId) (v0term v0fwd v1term v1fwd : Byte) (s : State) : Result :=
  if !s.lnkOn l then .next s
  else .next (s.modLport l fun x => { x with glast := #v[v0term, v0fwd, v1term, v1fwd] })

/-- CREDIT_SEND: the receiver sends its G values, after a change or 1 µs (11 R362). -/
def execCreditSend (l : LinkId) (s : State) : Result :=
  let x := s.lport l
  if !s.lnkOn l then .next s
  else .next ((s.setLport l { x with creditDue := false }).sendBlocks l [creditBlock x.g])

end Sys2Proof.Machine
end

