-- ==== Sys2Proof/Machine/Power.lean ====
section
/-! DEFINITION. The governor: power states, domains, supplies and the crystal (17 R513 to R531). -/

namespace Sys2Proof.Machine

open Sys2Proof

/-- Domains without demand go to their idle state (17 R514). -/
def State.settleDomains (s : State) : State :=
  s.settle (List.range 24)

/-- A power state is entered (17 R516, R518). -/
def State.enterPower (s : State) (p : PowerState) : State :=
  ({ s with gov := { s.gov with state := p }, mil := { s.mil with asleep := true } }).settleDomains

/-- DEEP stops the three PLLs (17 R522). -/
def Gov.stopPlls (g : Gov) : Gov := { g with corePll := false, pkePll := false, millerPll := false }

/-- POWER_STATE_ENTRY: one state deeper, once its conditions and those of the states above it have held; an entry whose hold time ends in the cycle of a wake that met it goes no further (17 R516 to R518, R520, 14 R465). -/
def execPowerStateEntry (s : State) : Result :=
  if s.dark then .next s
  else if s.gov.wokenAt = some s.now then .next { s with gov := { s.gov with wokenAt := none } }
  else if !s.dozeOk then .next s
  else
    match s.gov.state with
    | .active => .next (s.enterPower .doze)
    | .doze => if s.parkOk then .next (s.enterPower .park) else .next s
    | .park =>
      if s.parkOk && s.deepOk then
        let t := (s.event 876).endDebug.enterPower .deep
        .next { t with gov := t.gov.stopPlls }
      else .next s
    | .deep | .backup => .next s

/-- WAKE: a wake source returns the governor to ACTIVE; out of DEEP the PLLs lock again (17 R519, R520, R523; log 33). -/
def execWake (s : State) : Result := .next s.wakeUp

/-- DOMAIN_POWER_UP: a domain in demand reaches On; the stones of one that does take blocks (17 R513 to R515). -/
def execDomainPowerUp (d : Fin 24) (s : State) : Result := if s.dark then .next s else .next (s.domainUp d)

/-- SUPPLY_LOSS: rail 0 VDDL, 1 VDDLH, 2 VIO_HOME, 3 VBAT, 4 VBAT below 2.2 V while it is present, and 5 VAUX, a power-on reset whatever PORST# does; the sub-code of event 865 tells the first two apart; VDDLH feeds the REFCLK receiver (17 R528). On backup power the loss of VBAT takes all power from the AONB (17 R529, R531, 15 R493, 16 R504, R506). -/
def execSupplyLoss (rail : Fin 6) (s : State) : Result :=
  if s.aonb.backup then
    (if rail.val = 3 ∧ !s.aonb.lostPower then
      .next { s with gov := ({ s.gov with vbat := false }).fallen, aonb := s.aonb.unpowered s.now, mon := s.mon.unpowered }
    else .next s)
  else
    match rail.val with
    | 0 => .next ((({ s with gov := { s.gov with vddl := false } }).linksLost).event 865)
    | 1 => .next ((({ s with gov := { s.gov with vddlh := false, refclk := false } }).linksLost).event 865 [1])
    | 2 => .next (({ s with gov := { s.gov with vioHome := false } }).event 864)
    | 3 => .next (({ s with gov := { s.gov with vbat := false } }).event 866)
    | 4 => .next (if s.gov.vbat then s.event 866 else s)
    | _ => .next (s.powerOn true)

/-- CRYSTAL_PRESENT: the time base runs from the crystal (15 R478, 17 R525). -/
def execCrystalPresent (s : State) : Result :=
  .next { s with gov := { s.gov with crystal := true }, aonb := { s.aonb with approx := false } }

end Sys2Proof.Machine
end

