-- ==== Sys2Proof/Machine/Tamper.lean ====
section
/-! DEFINITION. The tamper pins, the monitors, the alarm combiner and the AONB's alarms on backup power (15 R473 to R491). -/

namespace Sys2Proof.Machine

open Sys2Proof

/-! ### Detection (15 R474 to R480, 12 TMP) -/

/-- TMP_ENV bit of a monitor (12 TMP_ENV). -/
def envBit (m : Nat) : Option Nat :=
  if 16 ≤ m ∧ m ≤ 25 then some (m - 16) else if 32 ≤ m ∧ m ≤ 48 then some 10 else none

/-- The status bit of a monitor, in TMP_PINS.ALARM or TMP_ENV, is set; monitor 26 has none (12 TMP). -/
def Monitors.status (x : Monitors) (m : Nat) : Bool :=
  if m ≤ 7 then x.pinAlarm.getLsbD m
  else match envBit m with | some i => x.env.getLsbD i | none => false

/-- Set a monitor's status bit (15 R476, 12 TMP_ENV). -/
def Monitors.setStatus (x : Monitors) (m : Nat) : Monitors :=
  if m ≤ 7 then { x with pinAlarm := x.pinAlarm ||| BitVec.ofNat 8 (2 ^ m) }
  else match envBit m with | some i => { x with env := x.env ||| BitVec.ofNat 11 (2 ^ i) } | none => x

/-- A monitor's condition comes or goes (15 R483). -/
def Monitors.setPresent (x : Monitors) (m : Nat) (on : Bool) : Monitors :=
  let b : BitVec 64 := BitVec.ofNat 64 (2 ^ m)
  { x with present := if on then x.present ||| b else x.present &&& ~~~b }

/-- The AONB's response to an alarm on backup power: the seal key goes, an entry is written while one is free, and the class is latched; an AONB without power does nothing (15 R490). -/
def State.backupAlarmAct (s : State) (m : Nat) (paired : Bool) : State :=
  let c := monClass m paired
  let a := s.aonb
  if a.lostPower then s else
  { s with aonb := { a with
      sealKey := none, sealState := 0, processed := false
      evidence := if a.evidence.length < 16 then a.evidence ++ [{ tick := s.tick, monitor := m, cls := c }] else a.evidence
      latched := a.latched ||| BitVec.ofNat 8 (2 ^ c) } }

/-- A monitor fires: on main power its status bit is set and the combiner gets it; on backup power the AONB acts alone (15 R476, R480, R485, R490). -/
def State.detect (s : State) (m : Nat) (paired persists : Bool) : State :=
  if s.aonb.backup then s.backupAlarmAct m paired
  else
    let x := (s.mon.setStatus m).setPresent m persists
    { s with mon := { x with detected := x.detected ++ [(m, (x.acts m).2)] } }

/-- The condition of a level monitor now: it fires when it comes (15 R477 to R479). -/
def State.level (s : State) (m : Nat) (on : Bool) : State :=
  if on then (if s.mon.present.getLsbD m then s else s.detect m false true)
  else { s with mon := s.mon.setPresent m false }

/-- A pin's sample is one that alarms (15 R474, R475): none for a pin that samples nothing. -/
def State.pinAlarms (s : State) (level : BitVec 8) (i : Fin 8) : Option Bool :=
  let b := s.mon.pins[i]
  if s.pinDisabled i then none
  else if pinMode b = 1 then some (!level.getLsbD i.val)
  else if pinMode b = 2 then some (level.getLsbD i.val)
  else if pinMode b = 3 ∧ s.pairOn i ∧ i.val % 2 = 1 then
    some (level.getLsbD i.val != (s.mon.lfsr[i.val / 2]'(by omega)).getLsbD 0)
  else none

/-- One pin's sample: FILTER alarming samples in a row fire its monitor, once until a sample does not alarm (15 R474 to R476). -/
def State.samplePin (level : BitVec 8) (s : State) (i : Fin 8) : State :=
  match s.pinAlarms level i with
  | none => { s with mon := { s.mon with runs := s.mon.runs.set i 0 }.setPresent i.val false }
  | some bad =>
    let n := if bad then min (s.mon.runs[i] + 1) 17 else 0
    let b := level.getLsbD i.val
    let old := s.mon.pinLevel.getLsbD i.val
    let x := { s.mon with
      runs := s.mon.runs.set i n
      pinLevel := if b == old then s.mon.pinLevel else s.mon.pinLevel ^^^ BitVec.ofNat 8 (2 ^ i.val) }
    if bad && decide (pinFilter s.mon.pins[i] ≤ n) && !x.present.getLsbD i.val then
      ({ s with mon := x.setPresent i.val true }).detect i.val (s.pairOn i) true
    else { s with mon := if bad then x else x.setPresent i.val false }

/-- TAMPER_PIN_SAMPLE: every 32 ticks each static pin and mesh pair is sampled, and each pair's LFSR moves on (15 R474 to R476, R490). -/
def execTamperPinSample (level : BitVec 8) (s : State) : Result :=
  let t := (List.finRange 8).foldl (State.samplePin level) s
  .next { t with mon := { t.mon with lfsr := t.mon.lfsr.map Config.lfsrNext } }

/-- VDD or VDDM falls below its threshold: every release latch is cleared at once; VDD takes the power of the PKE cores with it (06 R188, 17 R528). -/
def State.vddMoves (s : State) : State :=
  let low := s.mon.present.getLsbD 16 || s.mon.present.getLsbD 18
  let t : State := { s with gov := { s.gov with
    vdd := !s.mon.present.getLsbD 16, vddm := !s.mon.present.getLsbD 18, vddLost := s.gov.vddLost || s.mon.present.getLsbD 16 } }
  if low then t.mapPorts fun _ x => x.assertBrake t.now else t

/-- VOLTAGE_MONITOR_TRIP: a rail crosses its threshold, either way, or a glitch is seen; on backup power the AONB's own glitch detector alone is there (06 R188, 15 R477, R490, 17 R531). -/
def execVoltageMonitorTrip (m : Fin 64) (present : Bool) (s : State) : Result :=
  if m.val < 16 ∨ 20 < m.val ∨ (s.aonb.backup ∧ m.val ≠ 20) then .next s
  else if m.val = 20 then .next (if present then s.detect 20 false false else { s with mon := s.mon.setPresent 20 false })
  else if m.val = 16 ∨ m.val = 18 then .next (s.level m.val present).vddMoves
  else .next (s.level m.val present)

/-- The crystal fails: the time base is the AONB oscillator (15 R478, 17 R525). -/
def State.crystalFails (s : State) : State :=
  { s with aonb := { s.aonb with approx := true }, gov := { s.gov with crystal := false } }

/-- The PLLs of a mask lose their lock (15 R478, 17 R523). -/
def Gov.unlock (g : Gov) (m : BitVec 3) : Gov :=
  { g with corePll := g.corePll && !m.getLsbD 0, pkePll := g.pkePll && !m.getLsbD 1, millerPll := g.millerPll && !m.getLsbD 2 }

/-- The PLLs lock: not in DEEP, which stops them, and not without REFCLK (15 R478, 17 R522, R523). -/
def Gov.lockAgain (g : Gov) : Gov := if g.state = .deep ∨ !g.refclk then g else { g with corePll := true, pkePll := true, millerPll := true }

/-- REFCLK is back: the PLLs lock again outside DEEP, unless the core clock's monitor finds them out of lock (17 R522, R523). -/
def Gov.lockWhere (g : Gov) (lost : Bool) : Gov := if lost then g else g.lockAgain

/-- CLOCK_MONITOR_TRIP: a clock fails or returns. Without the crystal the time base is the AONB oscillator; without REFCLK the link ports retrain, and on its return the PLLs lock again; the core clock's monitor tells which PLLs are out of lock (15 R473, R478, R490, 17 R523, R525). -/
def execClockMonitorTrip (m : Fin 64) (trip : ClockTrip) (s : State) : Result :=
  let present := trip.present
  if m.val = 21 then
    let t := if s.aonb.backup then (if present then s.backupAlarmAct 21 false else s) else s.level 21 present
    .next (if present then t.crystalFails else t)
  else if s.aonb.backup then .next s
  else if m.val = 22 then
    let t := s.level 22 present
    let u := { t with gov := { t.gov with refclk := !present && t.gov.vddlh } }
    .next (if present then (u.retrain .la).retrain .lb else { u with gov := u.gov.lockWhere (u.mon.present.getLsbD 23) })
  else if m.val = 23 then
    let t := s.level 23 present
    .next { t with gov := if present then t.gov.unlock trip.plls else t.gov.lockAgain }
  else .next s

/-- TEMPERATURE_SAMPLE: the four sensors against TLOW and THIGH; an alarm's condition ends 5 °C inside its threshold (15 R479). -/
def execTemperatureSample (t0 t1 t2 t3 : BitVec 12) (s : State) : Result :=
  if s.aonb.backup then .next s
  else
    let ts := [t0.toInt, t1.toInt, t2.toInt, t3.toInt]
    let lo := s.mon.tlow
    let hi := s.mon.thigh
    let a := { s with mon := { s.mon with temps := #v[t0, t1, t2, t3] } }
    let b := if ts.any fun t => decide (t < lo) then a.level 24 true
      else if ts.all fun t => decide (lo + 40 ≤ t) then a.level 24 false else a
    .next (if ts.any fun t => decide (hi < t) then b.level 25 true
      else if ts.all fun t => decide (t ≤ hi - 40) then b.level 25 false else b)

/-- INVALID_STATE_DETECT: the two copies of a state machine disagree, or hold an unused code; the condition does not persist (15 R480, R483). -/
def execInvalidStateDetect (m : Fin 64) (s : State) : Result :=
  if m.val < 32 ∨ 48 < m.val ∨ s.aonb.backup then .next s else .next (s.detect m.val false false)

/-! ### The combiner (15 R473, R485, R486) -/

/-- Inherent response of a monitor but for a device reset (15 R473). -/
def State.inherent (env : RomEnv) (s : State) (m : Nat) : State :=
  if m = 42 then
    ([0, 1] : List (Fin 2)).foldl (fun (t : State) c =>
      match (s.pke.core c).state, (s.pke.core c).req with
      | .millerOp, some r | .ownerOp, some r => t.pkeFaults c r
      | _, _ => t) s
  else if m = 43 then s.retrain .la
  else if m = 44 then s.retrain .lb
  else if m = 45 ∧ !(s.actsOf 45).getLsbD 4 ∧ !(s.actsOf 45).getLsbD 5 then s.limitedRestart .alarm env
  else s

/-- Steps 3 and 4: records and increments, then the inherent responses (15 R473, R485, R489). -/
def State.alarmRecords (s : State) (env : RomEnv) (ds : List (Nat × BitVec 32)) (u : Actions) (mask : BitVec 32) : State :=
  ds.foldl (fun (t : State) e => t.inherent env e.1) (s.alarmLogs ds u mask)

/-- ALARM_COMBINE: the alarms detected together act as one; any alarm ends DEEP. A RESET is pending from here, as is the inherent one of a low VDD or VDDM, and begins with DEVICE_RESET_BEGIN; an alarm detected before that is combined first (15 R473, R481 to R489, 06 R206, 17 R519). -/
def execAlarmCombine (env : RomEnv) (s : State) : Result :=
  let ds := sortMon s.mon.detected
  if ds.isEmpty || s.aonb.backup then .next s
  else
    let s1 := if s.gov.state = .deep then s.wakeUp else s
    let s0 := { s1 with mon := { s1.mon with detected := [] } }
    let u := s.unionActs ds
    let mask := s.unionMask ds
    let t := (s0.alarmFirst ds u).alarmRecords env ds u mask
    let supply := ds.any fun e => e.1 == 16 || e.1 == 18
    .next { t with mon := { t.mon with resetDue := t.mon.resetDue || u.getLsbD 5 || supply } }

/-- ALARM_CONTAIN_CLEAR: the condition has been absent for 10 ms and the owner has cleared the status bit (15 R483). A CONTAIN under R463 stays until the device reset. -/
def execAlarmContainClear (m : Fin 64) (s : State) : Result :=
  if s.mon.present.getLsbD m.val || s.mon.status m.val then .next s
  else .next (s.mapPorts fun _ x => { x with containBy := x.containBy.filter fun k => k != m.val })

/-- BACKUP_ALARM: a tamper pin, the AONB's glitch detector or its clock monitor, which finds the crystal gone, fires on backup power (15 R478, R490, R491, R496, 17 R525). -/
def execBackupAlarm (m : Fin 64) (s : State) : Result :=
  if !s.aonb.backup then .next s
  else if h : m.val < 8 then
    let i : Fin 8 := ⟨m.val, h⟩
    if s.pinDisabled i ∨ pinMode s.mon.pins[i] = 0 ∨ (pinMode s.mon.pins[i] = 3 ∧ !(s.pairOn i && i.val % 2 == 1)) then .next s
    else .next (s.backupAlarmAct m.val (s.pairOn i))
  else if m.val = 20 then .next (s.backupAlarmAct 20 false)
  else if m.val = 21 then .next (s.backupAlarmAct 21 false).crystalFails
  else .next s

end Sys2Proof.Machine
end

