-- ==== Sys2Proof/Machine/Tap.lean ====
section
/-! DEFINITION. The TAP: debug instructions, debug accesses and boundary scan (14 R461 to R469). -/

namespace Sys2Proof.Machine

open Sys2Proof

/-- The TAP is powered, and TRST# does not hold it in reset (14 R471, 17 R514, R528, 18 R538). -/
def State.tapOn (s : State) : Bool := !s.dark && s.dbg.trstHigh

/-- The TAP offers by the life cycle: not before the ROM has sensed the state (14 R444, R460, R467, R470, R471; log 104). -/
def State.tapUp (s : State) : Bool := s.tapOn && !s.gov.romPending

/-- Blank or Test (14 R467). -/
def State.tapOpen (s : State) : Bool := s.tapUp && (s.life.state == .blank || s.life.state == .test)

/-- Blank, Test or Production: DBG_CHAL and DBG_TOKEN are offered (14 R467). -/
def State.tapDebug (s : State) : Bool := s.tapUp && (s.life.state != .locked && s.life.state != .endOfLife)

/-- Every state but End of life: SAMPLE/PRELOAD and DBG_STAT are offered (14 R467). -/
def State.tapStat (s : State) : Bool := s.tapUp && s.life.state != .endOfLife

/-- The result that DBG_STAT reports. -/
def State.tapResult (s : State) (code : Nat) : State := { s with dbg := { s.dbg with lastResult := code % 16 } }

/-- A result whose code R469 does not give: a free value (log 5). -/
def State.tapFree (s : State) : State := (s.tapResult (Config.freeByte s.fresh).toNat).skipFree 1

/-- The bits of a register, least significant first. -/
def bitsOf {w : Nat} (v : BitVec w) : List Bool := (List.range w).map v.getLsbD

/-- An instruction is shifted in: one that is not offered selects BYPASS. What the boundary-scan instructions drove is driven no more (14 R467, 17 R513). -/
def State.select (s : State) (op : BitVec 8) (offered : Bool) : State :=
  ({ s with dbg := { s.dbg with ir := if offered then op else 0xFF, drive := 0 } }).dbgSettle

/-- IDCODE (14 R467). -/
def tapIdcode : Word := 0x132405F3

/-- In BACKUP, and in reset, no instruction is served; one that is not offered leaves BYPASS selected, whose register captures 0 (14 R467, R471, 18 R538; log 104). -/
def State.bypass (s : State) : State := if s.tapOn then (s.select 0xFF false).emit (.tap [false]) else s

/-- DBG_CHAL: a nonce is issued for LEVEL, and nonce and serial are captured (14 R461, R462, R467). R467 gives NONCE ‖ serial and not which end of the 320 bits is bit 0: the serial stands at [63:0] and the nonce above it (DESIGN CHOICE log 89). -/
def execDbgChal (level : BitVec 8) (s : State) : Result :=
  if !s.tapDebug then .next s.bypass
  else if !s.levelOk level.toNat then .next ((s.select 0x10 true).tapResult 0x06)
  else if s.drbg.failed then .next (s.select 0x10 true).tapFree
  else
    let r := (s.select 0x10 true).issueNonce
    let c : BitVec 320 := r.1 ++ s.sys.serial
    .next (({ r.2 with dbg := { r.2.dbg with chal := c } }).emit (.tap (bitsOf c)))

/-- DBG_TOKEN: a token is presented; where an ending event falls in the same cycle no session opens, the level stays and the nonce is used up (14 R460 to R463, R465, R467, R469). -/
def execDbgToken (level : BitVec 8) (pubkey : List Byte) (sig : TokenSig) (s0 : State) : Result :=
  if !s0.tapDebug then .next s0.bypass
  else
    let s := s0.select 0x11 true
    let zero := zeros (slice pubkey 0 97 ++ slice sig.bytes 0 96) 0 193
    if s.levelOk level.toNat && !needsToken s.life.state level.toNat && !zero then .next s.tokenTurned.tapFree
    else
      match s.presentToken level.toNat (slice pubkey 0 97) (slice sig.bytes 0 96) sig.engineFault with
      | (t, some 0) => .next (if sig.ended then s.openUndone level.toNat |>.tapFree else t)
      | (t, some _) => .next t
      | (_, none) => .next s.tokenTurned.tapFree

/-- DBG_STAT: level, session open and last result; the close bit reads 0 (14 R467). -/
def State.dbgStat (s : State) : Word :=
  BitVec.ofNat 32 (s.dbg.level + 4 * bit s.dbg.session.isSome + 16 * s.dbg.lastResult)

/-- DBG_STAT_CLOSE: DBG_STAT is captured and shifted out, and the close bit ends the session (14 R465, R467). -/
def execDbgStatClose (s : State) : Result :=
  if s.tapStat then .next ((s.select 0x12 true).endDebug.emit (.tap (bitsOf s.dbgStat))) else .next s.bypass

/-! ### DBG_ACCESS (14 R468) -/

/-- The level that a space asks for; none for a space that does not exist. -/
def spaceLevel (n : Nat) : Option Nat :=
  if n ≤ 1 then some 1 else if n ≤ 3 then some 2 else none

/-- The result of an access: status, address and data; DATA of what reads nothing is a free value (log 5). -/
def State.accResult (s : State) (status : Nat) (addr : Word) (data : Option Word) : State :=
  let d : Word := data.getD (BitVec.ofNat 32 (leNat (s.freeBytes 4)))
  let t := { s with dbg := { s.dbg with accStatus := status, accAddr := addr, accData := d } }
  if data.isSome then t else t.skipFree 4

/-- A word of the event trace: record i, the newest first, at 32 × i. -/
def Events.traceWord (e : Events) (a : Nat) : Option Word :=
  match e.trace[a / 32]? with
  | some r => some (BitVec.ofNat 32 (field r.toBytes (a % 32 / 4 * 4) 4))
  | none => none

/-- Run control of the miller: what waited while it was halted goes on once it is resumed (13 R409, 11 R377, 14 R468; log 59). -/
def State.runControl (s : State) (w : Word) : State :=
  let h := if w.getLsbD 0 then true else s.mil.dbgHalt
  let t := { s with mil := { s.mil with dbgHalt := if w.getLsbD 2 then false else h } }
  if t.serves && !s.serves then (if t.fan.due && t.mil.loaded then t.openWindow else t).acceptAll else t

/-- A read of a space. -/
def State.tapRead (s : State) (space : Nat) (addr : Word) : State :=
  let a := addr.toNat
  match space with
  | 0 =>
    if a < 0x1000000 ∧ a % 4 = 0 then (s.afterRead a 1).accResult 0 addr (some (s.readReg a)) else s.accResult 3 addr none
  | 1 => s.accResult (if (s.evt.traceWord a).isSome then 0 else 3) addr (s.evt.traceWord a)
  | 2 => s.accResult 0 addr (some (memWord s.mil.ram (a / 4 * 4)))
  | _ => if a = 4 then s.accResult 0 addr (some (BitVec.ofNat 32 (bit s.mil.dbgHalt))) else s.accResult 3 addr none

/-- A write of a space: spaces 0 and 1 are read only. -/
def State.tapWrite (s : State) (space : Nat) (addr data : Word) : State :=
  match space with
  | 2 => ({ s with mil := { s.mil with ram := memSetWord s.mil.ram (addr.toNat / 4 * 4) data } }).accResult 0 addr none
  | 3 => if addr = 0 then (s.runControl data).accResult 0 addr none else s.accResult 3 addr none
  | _ => s.accResult 2 addr none

/-- The 72 bits that Capture-DR returns: the previous operation. -/
def Debug.capture (d : Debug) : List Bool :=
  bitsOf d.accData ++ bitsOf d.accAddr ++ bitsOf (0#2) ++ bitsOf (BitVec.ofNat 4 d.accStatus) ++ bitsOf (0#2)

/-- DBG_ACCESS: one access in a space that the session's level grants (14 R468). -/
def execDbgAccess (write : Bool) (space : BitVec 4) (addr data : Word) (s : State) : Result :=
  match s.dbg.session with
  | none => .next s.bypass
  | some n =>
    if !s.tapUp then .next s.bypass
    else
      let t := (s.select 0x20 true).emit (.tap s.dbg.capture)
      match spaceLevel space.toNat with
      | none => .next (t.accResult 3 addr none)
      | some k =>
        if n < k then .next (t.accResult 2 addr none)
        else if write then .next (t.tapWrite space.toNat addr data)
        else .next (t.tapRead space.toNat addr)

/-! ### Boundary scan (14 R467) -/

/-- EXTEST: the boundary-scan register drives the balls; Blank and Test alone (14 R467). -/
def execExtest (scan : List Bool) (s : State) : Result :=
  if s.tapOpen then
    let t := s.select 0x00 true
    .next (({ t with dbg := { t.dbg with scan, drive := 1 } }).emit (.tap s.dbg.scan))
  else .next s.bypass

/-- A scan under IDCODE, which every state offers (14 R467). -/
def State.tapIdentify (s : State) : State := (s.select 0x02 true).emit (.tap (bitsOf tapIdcode))

/-- TRST# moves: the TAP's reset selects IDCODE and leaves the outputs to their functions, and it stays in reset while TRST# is low (18 R538; log 130). -/
def State.trst (s : State) (high : Bool) : State :=
  let t := s.select 0x02 true
  { t with dbg := { t.dbg with trstHigh := high } }

/-- What came before: TRST#, or a scan under an instruction without a row: IDCODE in every state, DBG_STAT, its close bit 0, or BYPASS (14 R467, 18 R538; log 130). -/
def State.tapFirst (s : State) (f : TapFirst) : State :=
  if s.dark then s
  else
    match f with
    | .nothing => s
    | .hold => s.trst false
    | .reset => (s.trst true).tapIdentify
    | .idcode => if s.tapOn then s.tapIdentify else s
    | .stat => if s.tapStat then (s.select 0x12 true).emit (.tap (bitsOf s.dbgStat)) else s.bypass
    | .bypass => s.bypass

/-- SAMPLE_PRELOAD: the balls are sampled, or the register is preloaded; the functional outputs stay (14 R467). -/
def execSamplePreload (scan : List Bool) (use : TapScan) (s : State) : Result :=
  let f := s.tapFirst use.first
  if f.tapStat then
    let a := f.select 0x01 true
    let t := { a with dbg := { a.dbg with scan } }
    .next (if use.load then t else t.emit (.tap scan))
  else .next f.bypass

/-- CLAMP: the preloaded values stay on the outputs, and the bypass register is scanned, which captures 0 (14 R467; log 104). -/
def execClamp (s : State) : Result :=
  if s.tapOpen then
    let t := s.select 0x03 true
    .next (({ t with dbg := { t.dbg with drive := 2 } }).emit (.tap [false]))
  else .next s.bypass

/-- HIGHZ: the outputs are tri-stated, and the bypass register is scanned, which captures 0 (14 R467; log 104). -/
def execHighz (s : State) : Result :=
  if s.tapOpen then
    let t := s.select 0x04 true
    .next (({ t with dbg := { t.dbg with drive := 3 } }).emit (.tap [false]))
  else .next s.bypass

end Sys2Proof.Machine
end

