-- ==== Sys2Proof/Machine/Transact.lean ====
section
/-! DEFINITION. The link's transaction layer: register access, bulk data, event frames and enumeration (11 R350 to R355, R368 to R372). -/

namespace Sys2Proof.Machine

open Sys2Proof

/-! ### Register access (11 R350 to R354) -/

/-- A frame whose fields break R350 is discarded and counted as a format error (log 30). -/
def State.badFields (s : State) (l : LinkId) : State := s.modLport l fun x => x.count 11

/-- REG_RD: the words read, or RANGE (11 R351, R353, R354, 12 R388). -/
def execRegRd (l : LinkId) (s : State) : Result :=
  match s.takeFrame l 1 none with
  | none => .next s
  | some (f, t) =>
    let n := f.argB
    if n = 0 ∨ 64 < n ∨ !f.payload.isEmpty ∨ f.argA % 4 ≠ 0 then .next (t.badFields l)
    else if 0x1000000 < f.argA + 4 * n then .next (t.respond f 2 0x02 f.argA n [])
    else .next ((t.afterRead f.argA n).respond f 2 0x00 f.argA n ((t.readWords f.argA n).flatMap fun w => leBytes 4 w.toNat))

/-- The words of a payload, in ascending address order. -/
def wordsOf (bs : List Byte) : List Word := (List.range (bs.length / 4)).map fun i => BitVec.ofNat 32 (field bs (4 * i) 4)

/-- Words written at ascending addresses, each as a write of its own (11 R352). -/
def State.writeWords (s : State) (m : Master) : Nat → List Word → State
  | _, [] => s
  | a, w :: ws => State.writeWords (s.writeReg m a w).1 m (a + 4) ws

/-- Every word of the access may be written by the master (11 R351, 12 R389). -/
def State.mayWrite (s : State) (m : Master) (a n : Nat) : Bool := (List.range n).all fun i => (s.writeReg m (a + 4 * i) 0).2

/-- A REG_WR within range: DENIED writes nothing (11 R351, R383). -/
def State.frameWrite (s : State) (f : Frame) : State :=
  let ws := wordsOf f.payload
  let denied : State := ({ s with link := { s.link with cntDenied := s.link.cntDenied + 1 } }).respond f 4 0x01 f.argA f.argB []
  match masterOf f.src with
  | some .m14 | none => denied
  | some m => if s.mayWrite m f.argA ws.length then (s.writeWords m f.argA ws).respond f 4 0x00 f.argA f.argB [] else denied

/-- REG_WR: the words are written in ascending order, or RANGE or DENIED and nothing is written (11 R351, R352, R354). -/
def execRegWr (l : LinkId) (s : State) : Result :=
  match s.takeFrame l 3 none with
  | none => .next s
  | some (f, t) =>
    if f.payload.isEmpty ∨ f.argA % 4 ≠ 0 ∨ f.argB ≠ 0 then .next (t.badFields l)
    else if 0x1000000 < f.argA + f.payload.length then .next (t.respond f 4 0x02 f.argA f.argB [])
    else .next (t.frameWrite f)

/-! ### Bulk data (11 R355, 07 R228, R231) -/

/-- BULK: the oldest frame of VC1 delivers bytes to the open transfer, and the stones hash them as they come in (04 R148); one for no open transfer is discarded and counted, and one that the hopper has no room for waits in the pool (07 R228, R230, R231, 11 R355). -/
def execBulk (l : LinkId) (s : State) : Result :=
  match (s.lport l).take1 with
  | none => .next s
  | some (f, x) =>
    if s.dark || !s.hop.takes f.argB f.argA f.payload then .next s
    else
      let t := s.setLport l x
      match t.bulkIn f.argB f.argA f.payload with
      | some u => .next (u.hashWork 3 (.link l) ((f.payload.length + 127) / 128))
      | none => .next (t.countBulk 1)

/-! ### Event frames (11 R369, R370) -/

/-- The node of the owner, when it is a link master. -/
def State.ownerNode (s : State) : Option Nat :=
  match s.fan.owner with
  | some .m0 => some 0
  | some .m15 => some 15
  | _ => none

/-- An EVT frame (11 R350, R369). -/
def State.evtFrame (s : State) (dest tag epoch : Nat) (r : Record) : Frame :=
  { type := 6, dest, src := s.sys.node, vc := false, bcast := false, epoch, tag, status := 0, argA := 0, argB := 0, payload := r.toBytes }

/-- EVT_FRAME_SEND: the oldest event routed to a link owner goes out under the next tag, while fewer than 32 wait for an EVT_ACK (11 R369, 16 R501). -/
def execEvtFrameSend (s : State) : Result := s.powered <|
  match s.evt.toOwner, s.ownerNode with
  | r :: rest, some n =>
    if 32 ≤ s.evt.unacked.length then .next s
    else
      let e := s.evt
      let t := { s with evt := { e with toOwner := rest, unacked := e.unacked ++ [(e.nextTag, e.epoch, r)], nextTag := (e.nextTag + 1) % 1024 } }
      .next (t.sendOwn (t.evtFrame n e.nextTag e.epoch r))
  | _, _ => .next s

/-- EVT_RESEND: each event frame not acknowledged goes out again under its tag and epoch (11 R369). -/
def execEvtResend (s : State) : Result := s.powered <|
  match s.ownerNode with
  | some n => .next (s.evt.unacked.foldl (fun (t : State) e => t.sendOwn (t.evtFrame n e.1 e.2.1 e.2.2)) s)
  | none => .next s

/-- EVT_ACK: it retires the frame of its tag and epoch, and any other is dropped and counted (11 R369, R383). -/
def execEvtAck (l : LinkId) (s : State) : Result :=
  match s.takeFrame l 7 none with
  | none => .next s
  | some (f, t) =>
    let hit := fun e : Nat × Nat × Record => e.1 == f.tag && e.2.1 == f.epoch
    if t.evt.unacked.any hit then .next { t with evt := { t.evt with unacked := t.evt.unacked.filter fun e => !hit e } }
    else .next { t with link := { t.link with cntStale := t.link.cntStale + 1 } }

/-! ### Enumeration (11 R365, R371, R372) -/

/-- An ENUM frame out of a port that is ACTIVE. DEST, TAG and EPOCH of a hop-to-hop frame, and SRC of a device without a node ID, are free values (log 5). -/
def State.sendEnum (s : State) (l : LinkId) (sub arg : Nat) (overflow bcast : Bool) : State :=
  let x := s.lport l
  if x.tstate ≠ 6 then s
  else
    let tag := Config.freeTag s.fresh
    let hop := (Config.freeByte s.fresh).toNat
    let f : Frame :=
      { type := 8, dest := hop % 16, src := if s.sys.node = 0 then hop / 16 else s.sys.node, vc := false, bcast, epoch := tag.2.toNat,
        tag := tag.1.toNat, status := 0, argA := arg, argB := sub + 16 * bit overflow, payload := [] }
    (s.setLport l { x with txq := x.txq ++ [f] }).skipFree 1

/-- A port is ACTIVE with another device behind it (11 R371). -/
def State.deviceOn (s : State) (l : LinkId) : Bool := (s.lport l).tstate == 6 && (s.lport l).peerRole == 1

/-- Chain count and overflow are recorded, and a window opens if there is no owner (11 R371, R377). -/
def State.chainIs (s : State) (count : Nat) (overflow : Bool) : State :=
  let t := { s with sys := { s.sys with count := count % 16, overflow } }
  (if overflow then t.event 657 else t).openWindow

/-- procedure assign; ASSIGN of 9 also says that LA faces node 8 (11 R360, R371). -/
def State.assign (s : State) (n : Nat) : State :=
  let a := s.setNode (if n ≤ 8 then n else 0)
  let t := { a with sys := { a.sys with ninth := n == 9 } }
  if n ≤ 8 ∧ t.deviceOn .lb then t.sendEnum .lb 2 (n + 1) false false
  else
    let count := if n ≤ 8 then n else 8
    let ovf := decide (8 < n)
    (((t.sendEnum .la 3 count ovf true).sendEnum .lb 3 count ovf true)).chainIs count ovf

/-- ENUM_SEEK: it travels to the LA end, where the device takes node 1 (11 R371). -/
def execEnumSeek (l : LinkId) (s : State) : Result :=
  match s.takeFrame l 8 (some 1) with
  | none => .next s
  | some (_, t) => if l = .lb ∧ t.deviceOn .la then .next (t.sendEnum .la 1 0 false false) else .next (t.assign 1)

/-- ENUM_ASSIGN: on LA it gives the node ID; on LB it is a format error (11 R371, R383). -/
def execEnumAssign (l : LinkId) (s : State) : Result :=
  match s.takeFrame l 8 (some 2) with
  | none => .next s
  | some (f, t) => if l = .la then .next (t.assign f.argA) else .next (t.modLport l fun x => x.count 11)

/-- ENUM_DONE: the chain's count is recorded, a window opens if there is no owner, and it passes on with its COUNT, OVERFLOW and BCAST (11 R371). -/
def execEnumDone (l : LinkId) (s : State) : Result :=
  match s.takeFrame l 8 (some 3) with
  | none => .next s
  | some (f, t) => .next ((t.chainIs f.argA (f.argB.testBit 4)).sendEnum (otherLink l) 3 f.argA (f.argB.testBit 4) f.bcast)

end Sys2Proof.Machine
end

