-- ==== Sys2Proof/Machine/Dispatch.lean ====
section
/-! DEFINITION. The dispatch: one arm per command, each one call of its meaning. -/

namespace Sys2Proof.Machine

open Sys2Proof

/-- The effect of a command on everything but the queue. -/
def exec (i : Instr) (s : State) : Host.Outcome State Fault Refusal :=
  match i with
  | .powerOnReset => Sys2Proof.Machine.execPowerOnReset s
  | .romStart env => Sys2Proof.Machine.execRomStart env s
  | .deviceResetBegin cause => Sys2Proof.Machine.execDeviceResetBegin cause s
  | .millerRestartBegin cause env => Sys2Proof.Machine.execMillerRestartBegin cause env s
  | .millerWatchdogExpiry env => Sys2Proof.Machine.execMillerWatchdogExpiry env s
  | .portResetBegin p => Sys2Proof.Machine.execPortResetBegin p s
  | .millerStartArming => Sys2Proof.Machine.execMillerStartArming s
  | .portArmBegin p cs0 cs1 => Sys2Proof.Machine.execPortArmBegin p cs0 cs1 s
  | .mapVerifyDone p engineFault => Sys2Proof.Machine.execMapVerifyDone p engineFault s
  | .mapEngineRetry p => Sys2Proof.Machine.execMapEngineRetry p s
  | .sluiceCaptureRead p data => Sys2Proof.Machine.execSluiceCaptureRead p data s
  | .granuleFill p data ecc => Sys2Proof.Machine.execGranuleFill p data ecc s
  | .leafTableLoad p data => Sys2Proof.Machine.execLeafTableLoad p data s
  | .measurementRootCompare p => Sys2Proof.Machine.execMeasurementRootCompare p s
  | .brakeMinElapsed p => Sys2Proof.Machine.execBrakeMinElapsed p s
  | .settleElapsed p => Sys2Proof.Machine.execSettleElapsed p s
  | .portRelease => Sys2Proof.Machine.execPortRelease s
  | .hostResetSensed p => Sys2Proof.Machine.execHostResetSensed p s
  | .hrdyQualified p => Sys2Proof.Machine.execHrdyQualified p s
  | .hrdyDropped p => Sys2Proof.Machine.execHrdyDropped p s
  | .hrdyTimeout p => Sys2Proof.Machine.execHrdyTimeout p s
  | .vioPgOutOfRange g => Sys2Proof.Machine.execVioPgOutOfRange g s
  | .vioPgRestored g back => Sys2Proof.Machine.execVioPgRestored g back s
  | .hostTransaction t => Sys2Proof.Machine.execHostTransaction t s
  | .modeEntryWipExpiry p => Sys2Proof.Machine.execModeEntryWipExpiry p s
  | .hrstPulse p lowSamples => Sys2Proof.Machine.execHrstPulse p lowSamples s
  | .virtualDeviceReset p => Sys2Proof.Machine.execVirtualDeviceReset p s
  | .virtualDeviceRecovery p => Sys2Proof.Machine.execVirtualDeviceRecovery p s
  | .heldCommandIssue p => Sys2Proof.Machine.execHeldCommandIssue p s
  | .absorbWelClear p => Sys2Proof.Machine.execAbsorbWelClear p s
  | .statusPoll p partWip => Sys2Proof.Machine.execStatusPoll p partWip s
  | .absorbEmulationExpiry p => Sys2Proof.Machine.execAbsorbEmulationExpiry p s
  | .suspendIssue p => Sys2Proof.Machine.execSuspendIssue p s
  | .suspendLatencyExpiry p => Sys2Proof.Machine.execSuspendLatencyExpiry p s
  | .heldResumeIssue p => Sys2Proof.Machine.execHeldResumeIssue p s
  | .completionRead p data => Sys2Proof.Machine.execCompletionRead p data s
  | .epochVerdict p stone => Sys2Proof.Machine.execEpochVerdict p stone s
  | .epochDeadline p => Sys2Proof.Machine.execEpochDeadline p s
  | .verdictRereadDone p katPass first second => Sys2Proof.Machine.execVerdictRereadDone p katPass first second s
  | .verdictClassify p settingsOk retestPass => Sys2Proof.Machine.execVerdictClassify p settingsOk retestPass s
  | .containmentEnd p => Sys2Proof.Machine.execContainmentEnd p s
  | .scrubGranule data ecc tree => Sys2Proof.Machine.execScrubGranule data ecc tree s
  | .granuleRefillDone g data ecc stone => Sys2Proof.Machine.execGranuleRefillDone g data ecc stone s
  | .stoneBlockComplete n meanNs => Sys2Proof.Machine.execStoneBlockComplete n meanNs s
  | .blockAgePromote => Sys2Proof.Machine.execBlockAgePromote s
  | .stoneTimeout n retestPass => Sys2Proof.Machine.execStoneTimeout n retestPass s
  | .stoneKat n pass retestPass => Sys2Proof.Machine.execStoneKat n pass retestPass s
  | .standbyMeasurement p slot img => Sys2Proof.Machine.execStandbyMeasurement p slot img s
  | .substituteFillDone p img => Sys2Proof.Machine.execSubstituteFillDone p img s
  | .substTmoExpiry p => Sys2Proof.Machine.execSubstTmoExpiry p s
  | .repairAttempt p slot source readback stone => Sys2Proof.Machine.execRepairAttempt p slot source readback stone s
  | .hopperProgramComplete block => Sys2Proof.Machine.execHopperProgramComplete block s
  | .getInfo => Sys2Proof.Machine.execGetInfo s
  | .slotStatus => Sys2Proof.Machine.execSlotStatus s
  | .configRead => Sys2Proof.Machine.execConfigRead s
  | .mapRead => Sys2Proof.Machine.execMapRead s
  | .fwStatus => Sys2Proof.Machine.execFwStatus s
  | .transferStatus => Sys2Proof.Machine.execTransferStatus s
  | .spdmMsg => Sys2Proof.Machine.execSpdmMsg s
  | .authNonce => Sys2Proof.Machine.execAuthNonce s
  | .objLoad => Sys2Proof.Machine.execObjLoad s
  | .objClear => Sys2Proof.Machine.execObjClear s
  | .sealData => Sys2Proof.Machine.execSealData s
  | .unsealData => Sys2Proof.Machine.execUnsealData s
  | .bulkData => Sys2Proof.Machine.execBulkData s
  | .transferAbort => Sys2Proof.Machine.execTransferAbort s
  | .stageOpen settingsOk => Sys2Proof.Machine.execStageOpen settingsOk s
  | .stageClose settingsOk => Sys2Proof.Machine.execStageClose settingsOk s
  | .stageAbort settingsOk => Sys2Proof.Machine.execStageAbort settingsOk s
  | .portReset => Sys2Proof.Machine.execPortReset s
  | .deviceReset => Sys2Proof.Machine.execDeviceReset s
  | .deferredResetTimer => Sys2Proof.Machine.execDeferredResetTimer s
  | .millerRestart env => Sys2Proof.Machine.execMillerRestart env s
  | .fwBegin => Sys2Proof.Machine.execFwBegin s
  | .fwCommit readback => Sys2Proof.Machine.execFwCommit readback s
  | .fwActivate env => Sys2Proof.Machine.execFwActivate env s
  | .fwFloorRaise stuck => Sys2Proof.Machine.execFwFloorRaise stuck s
  | .debugChallenge => Sys2Proof.Machine.execDebugChallenge s
  | .debugOpen => Sys2Proof.Machine.execDebugOpen s
  | .debugD2AccessOpen => Sys2Proof.Machine.execDebugD2AccessOpen s
  | .debugClose => Sys2Proof.Machine.execDebugClose s
  | .imageBegin => Sys2Proof.Machine.execImageBegin s
  | .slotCommit settingsOk => Sys2Proof.Machine.execSlotCommit settingsOk s
  | .slotSwitch settingsOk => Sys2Proof.Machine.execSlotSwitch settingsOk s
  | .portConfig settingsOk => Sys2Proof.Machine.execPortConfig settingsOk s
  | .sluiceStore settingsOk => Sys2Proof.Machine.execSluiceStore settingsOk s
  | .graphStore settingsOk => Sys2Proof.Machine.execGraphStore settingsOk s
  | .devConfig settingsOk => Sys2Proof.Machine.execDevConfig settingsOk s
  | .rollbackRaise stuck => Sys2Proof.Machine.execRollbackRaise stuck s
  | .tamperConfig settingsOk => Sys2Proof.Machine.execTamperConfig settingsOk s
  | .sourceDisable stuck => Sys2Proof.Machine.execSourceDisable stuck s
  | .keyProgram stuck => Sys2Proof.Machine.execKeyProgram stuck s
  | .keyRevoke stuck => Sys2Proof.Machine.execKeyRevoke stuck s
  | .lcTransition stuck => Sys2Proof.Machine.execLcTransition stuck s
  | .lcRepair stuck => Sys2Proof.Machine.execLcRepair stuck s
  | .mailboxDoorbell m => Sys2Proof.Machine.execMailboxDoorbell m s
  | .mailboxResponse m => Sys2Proof.Machine.execMailboxResponse m s
  | .mailboxRspAck m => Sys2Proof.Machine.execMailboxRspAck m s
  | .getVersion t => Sys2Proof.Machine.execGetVersion t s
  | .getCapabilities t caps => Sys2Proof.Machine.execGetCapabilities t caps s
  | .negotiateAlgorithms t offer => Sys2Proof.Machine.execNegotiateAlgorithms t offer s
  | .getDigests t => Sys2Proof.Machine.execGetDigests t s
  | .getCertificate t slot offset length => Sys2Proof.Machine.execGetCertificate t slot offset length s
  | .challenge t slot nonce => Sys2Proof.Machine.execChallenge t slot nonce s
  | .getMeasurements t index sign nonce => Sys2Proof.Machine.execGetMeasurements t index sign nonce s
  | .keyExchange t slot exchange => Sys2Proof.Machine.execKeyExchange t slot exchange s
  | .finish t verifyData => Sys2Proof.Machine.execFinish t verifyData s
  | .endSession t => Sys2Proof.Machine.execEndSession t s
  | .chunkSend t seq last data => Sys2Proof.Machine.execChunkSend t seq last data s
  | .chunkGet t seq => Sys2Proof.Machine.execChunkGet t seq s
  | .spdmUnsupportedRequest t code => Sys2Proof.Machine.execSpdmUnsupportedRequest t code s
  | .securedMessage t sessionId data => Sys2Proof.Machine.execSecuredMessage t sessionId data s
  | .i3cDynamicAddress addr => Sys2Proof.Machine.execI3cDynamicAddress addr s
  | .mctpSetEndpointId eid => Sys2Proof.Machine.execMctpSetEndpointId eid s
  | .mctpGetEndpointId => Sys2Proof.Machine.execMctpGetEndpointId s
  | .mctpGetVersionSupport => Sys2Proof.Machine.execMctpGetVersionSupport s
  | .mctpGetMessageTypeSupport => Sys2Proof.Machine.execMctpGetMessageTypeSupport s
  | .i3cPrivateWrite addr words => Sys2Proof.Machine.execI3cPrivateWrite addr words s
  | .i3cPrivateRead addr count => Sys2Proof.Machine.execI3cPrivateRead addr count s
  | .drbgReseed => Sys2Proof.Machine.execDrbgReseed s
  | .entropyHealthFail => Sys2Proof.Machine.execEntropyHealthFail s
  | .pkeRequest => Sys2Proof.Machine.execPkeRequest s
  | .pkeGo => Sys2Proof.Machine.execPkeGo s
  | .pkeAbort => Sys2Proof.Machine.execPkeAbort s
  | .pkeRelease => Sys2Proof.Machine.execPkeRelease s
  | .pkeMillerRequest cmd len0 len1 arg inputs => Sys2Proof.Machine.execPkeMillerRequest cmd len0 len1 arg inputs s
  | .pkeOperationComplete c e => Sys2Proof.Machine.execPkeOperationComplete c e s
  | .pkeKatComplete c pass => Sys2Proof.Machine.execPkeKatComplete c pass s
  | .pkeGrantTimeout c => Sys2Proof.Machine.execPkeGrantTimeout c s
  | .pkeRecoveryEnd c => Sys2Proof.Machine.execPkeRecoveryEnd c s
  | .pkePowerUpKat c pass => Sys2Proof.Machine.execPkePowerUpKat c pass s
  | .dgeAlloc => Sys2Proof.Machine.execDgeAlloc s
  | .dgeStart n => Sys2Proof.Machine.execDgeStart n s
  | .dgeData n w => Sys2Proof.Machine.execDgeData n w s
  | .dgeFinal n => Sys2Proof.Machine.execDgeFinal n s
  | .dgeFree n => Sys2Proof.Machine.execDgeFree n s
  | .digestFinalizeDone n => Sys2Proof.Machine.execDigestFinalizeDone n s
  | .hssLmsVerify message pubkey sig => Sys2Proof.Machine.execHssLmsVerify message pubkey sig s
  | .linkTrain l energy goodLanes peerLanes peerIsDevice => Sys2Proof.Machine.execLinkTrain l energy goodLanes peerLanes peerIsDevice s
  | .linkDownRetry l => Sys2Proof.Machine.execLinkDownRetry l s
  | .laneFault l lane => Sys2Proof.Machine.execLaneFault l lane s
  | .linkPortDown l => Sys2Proof.Machine.execLinkPortDown l s
  | .frameReceive l hseq bytes => Sys2Proof.Machine.execFrameReceive l hseq bytes s
  | .frameTransmit l => Sys2Proof.Machine.execFrameTransmit l s
  | .frameForward l => Sys2Proof.Machine.execFrameForward l s
  | .ackReceive l aseq nak => Sys2Proof.Machine.execAckReceive l aseq nak s
  | .ackTimer l => Sys2Proof.Machine.execAckTimer l s
  | .replayTimeout l => Sys2Proof.Machine.execReplayTimeout l s
  | .creditReceive l v0term v0fwd v1term v1fwd => Sys2Proof.Machine.execCreditReceive l v0term v0fwd v1term v1fwd s
  | .creditSend l => Sys2Proof.Machine.execCreditSend l s
  | .regRd l => Sys2Proof.Machine.execRegRd l s
  | .regWr l => Sys2Proof.Machine.execRegWr l s
  | .bulk l => Sys2Proof.Machine.execBulk l s
  | .evtFrameSend => Sys2Proof.Machine.execEvtFrameSend s
  | .evtResend => Sys2Proof.Machine.execEvtResend s
  | .evtAck l => Sys2Proof.Machine.execEvtAck l s
  | .enumSeek l => Sys2Proof.Machine.execEnumSeek l s
  | .enumAssign l => Sys2Proof.Machine.execEnumAssign l s
  | .enumDone l => Sys2Proof.Machine.execEnumDone l s
  | .firstWindowTimer => Sys2Proof.Machine.execFirstWindowTimer s
  | .claim l engineFault => Sys2Proof.Machine.execClaim l engineFault s
  | .renew l => Sys2Proof.Machine.execRenew l s
  | .yieldOwner l => Sys2Proof.Machine.execYieldOwner l s
  | .fanSendClaim engineFault => Sys2Proof.Machine.execFanSendClaim engineFault s
  | .fanSendRenew => Sys2Proof.Machine.execFanSendRenew s
  | .fanSendYield => Sys2Proof.Machine.execFanSendYield s
  | .electionWindowExpiry => Sys2Proof.Machine.execElectionWindowExpiry s
  | .directedOfferExpiry => Sys2Proof.Machine.execDirectedOfferExpiry s
  | .leaseExpiry => Sys2Proof.Machine.execLeaseExpiry s
  | .registerWrite m addr w => Sys2Proof.Machine.execRegisterWrite m addr w s
  | .logWindowRead m offset count => Sys2Proof.Machine.execLogWindowRead m offset count s
  | .logRecordCommit readbackOk => Sys2Proof.Machine.execLogRecordCommit readbackOk s
  | .tamperPinSample level => Sys2Proof.Machine.execTamperPinSample level s
  | .voltageMonitorTrip m present => Sys2Proof.Machine.execVoltageMonitorTrip m present s
  | .clockMonitorTrip m trip => Sys2Proof.Machine.execClockMonitorTrip m trip s
  | .temperatureSample t0 t1 t2 t3 => Sys2Proof.Machine.execTemperatureSample t0 t1 t2 t3 s
  | .invalidStateDetect m => Sys2Proof.Machine.execInvalidStateDetect m s
  | .alarmCombine env => Sys2Proof.Machine.execAlarmCombine env s
  | .alarmContainClear m => Sys2Proof.Machine.execAlarmContainClear m s
  | .backupAlarm m => Sys2Proof.Machine.execBackupAlarm m s
  | .powerStateEntry => Sys2Proof.Machine.execPowerStateEntry s
  | .wake => Sys2Proof.Machine.execWake s
  | .domainPowerUp d => Sys2Proof.Machine.execDomainPowerUp d s
  | .supplyLoss rail => Sys2Proof.Machine.execSupplyLoss rail s
  | .dbgChal level => Sys2Proof.Machine.execDbgChal level s
  | .dbgToken level pubkey sig => Sys2Proof.Machine.execDbgToken level pubkey sig s
  | .dbgStatClose => Sys2Proof.Machine.execDbgStatClose s
  | .dbgAccess write space addr data => Sys2Proof.Machine.execDbgAccess write space addr data s
  | .extest scan => Sys2Proof.Machine.execExtest scan s
  | .samplePreload scan use => Sys2Proof.Machine.execSamplePreload scan use s
  | .clamp => Sys2Proof.Machine.execClamp s
  | .highz => Sys2Proof.Machine.execHighz s
  | .porstFalls => Sys2Proof.Machine.execPorstFalls s
  | .skipAlignInsert l => Sys2Proof.Machine.execSkipAlignInsert l s
  | .laneBlockReceive l lane sync kind bits => Sys2Proof.Machine.execLaneBlockReceive l lane sync kind bits s
  | .crystalPresent => Sys2Proof.Machine.execCrystalPresent s

end Sys2Proof.Machine
end

