-- ==== Sys2Proof/Safety.lean ====
section
/-! DEFINITION. What counts as a safe state of the block. -/

namespace Sys2Proof.Machine

open Sys2Proof

/-- A port in a state other than SERVICE or SUBSTITUTE holds its host in reset (06 R189). -/
def Port.braked (x : Port) : Bool :=
  x.brake || x.state == .service || x.state == .substitute

/-- Every port that is not serving holds its host in reset. -/
def State.hostsHeld (s : State) : Prop := ∀ p : PortId, (s.port p).braked = true

end Sys2Proof.Machine
end

