-- ==== Sys2Proof/Certificates/Slice0/Obligations.lean ====
section
/-! DEFINITION. The statements for the provers. A free value (log 5) and an uninterpreted function (log 4) stand for every value; a statement that rests on a log entry names it. -/

namespace Sys2Proof.Machine

open Sys2Proof

/-! ### Words the statements share -/

/-- The command completes in this state with a next state of which `P` holds. -/
def Completes (i : Instr) (s : State) (P : State → Prop) : Prop := ∃ t, exec i s = .next t ∧ P t

/-- Every port but one is as before. -/
def othersKept (p : PortId) (s t : State) : Prop := ∀ q : PortId, q ≠ p → t.port q = s.port q

/-- Of the whole state, at most the ports, the events and the log differ. -/
def onlyPorts (s t : State) : Prop := t = { s with ports := t.ports, evt := t.evt, log := t.log }

/-- The event of a source stands in its status register (16 R498), where the source is assigned. -/
def raised (t : State) (src : Nat) : Prop := t.evt.stat.getLsbD src = true

/-- The host can talk to the virtual device: the port serves, nothing resets or recovers, 1S-1S-1S, awake (02 R61, R63, R77). -/
def hostReady (x : Port) : Prop :=
  x.state = .service ∧ x.brake = false ∧ x.vdResetDue = false ∧ x.recoveringVd = false ∧ x.wipMode = false ∧ x.mode = some .s111
    ∧ x.rstEnable = false ∧ x.dpd = false ∧ x.wip = false

/-- The command is none that a sluice entry names and no part of a mode entry (02 R60, 05 R165), and the decoder knows it in this class (02 R40). -/
def hostDecodes (s : State) (t : HostTxn) (q : Sfdp) (cls : Option Nat) : Prop :=
  (s.port t.port).matchEntry t.op = none ∧ s.seqStep t = .none ∧ (s.port t.port).part = some q ∧ partKnows q false t.op = cls

/-- The miller executes this command from this mailbox (13 R408). -/
def executes (s : State) (m : MbxId) (r : Request) (cmd : Nat) : Prop := s.executing = some (m, r) ∧ r.cmd = cmd

/-- The request has this answer (13 R405). -/
def answered (t : State) (m : MbxId) (r : Request) (a : Response) : Prop := ∃ k, (t.mbox m).accepted = some { r with result := some a, effect := k }

/-- What leaves when the device sends an SPDM message on a transport: bytes, or over I3C an in-band interrupt and MCTP packets of message type 0x05, 0x06 for a secured one (08 R266, R267, R272). -/
def spdmSent (s : State) (t : Transport) (secured : Bool) (msg : List Byte) : List Out :=
  match t with
  | .i3c => [Out.ibi, Out.mctp (s.mctpPackets (if secured then 0x06 else 0x05) msg)]
  | t => [Out.spdm t msg]

/-- The device answered with this SPDM message, or with ERROR LargeResponse where the message is longer than the requester takes (08 R271). -/
def saysSpdm (s u : State) (t : Transport) (msg : List Byte) : Prop :=
  u.out = s.out ++ spdmSent s t false
    (if (u.tr t).dataSize ≠ 0 ∧ (u.tr t).dataSize < msg.length then (u.tr t).error 0x0F else msg)

/-- The device answered in its session, sealed under the keys and the sequence number that stood when the request came (08 R272). -/
def saysInSession (s u : State) (t : Transport) (msg : List Byte) : Prop :=
  u.out = s.out ++ spdmSent s t true (Config.securedSeal (s.tr t).keys (s.tr t).seqOut
    (if (s.tr t).dataSize ≠ 0 ∧ (s.tr t).dataSize < msg.length then (s.tr t).error 0x0F else msg))

/-- An SPDM message has its turn as it arrives: SPDM is up on its transport, the device is not in DEEP, and no accepted mailbox request comes before it (13 R408). -/
def spdmHeard (s : State) (t : Transport) : Prop := s.spdmUp t = true ∧ s.gov.state ≠ .deep ∧ s.mil.asleep = false ∧ s.mbx.order = []

/-- A transport takes requests: they have their turn, and no response of it waits for its signature. -/
def spdmTakes (s : State) (t : Transport) : Prop := spdmHeard s t ∧ (s.tr t).signing = none

/-- A negotiated connection of a device that has an identity. -/
def spdmOpen (s : State) (t : Transport) : Prop := spdmTakes s t ∧ s.noIdentity = false ∧ (s.tr t).phase = .negotiated

/-- A response waits for the signature that its request at the engine makes (08 R275). -/
def signs (u : State) (t : Transport) (route : SpdmRoute) (code : Nat) (body : List Byte) (session : Option Nat) : Prop :=
  ∃ job, (u.tr t).signing = some job ∧ job.route = route ∧ job.code = code ∧ job.body = body ∧ job.session = session ∧ job.id ∈ u.pke.jobs

/-- The device answered a request of a secured session, sealed under its keys, with the header of 13 R405 (13 R413). -/
def saysSealed (s u : State) (t : Transport) (plain : List Byte) (a : Response) : Prop :=
  u.out = s.out ++ spdmSent s t true (Config.securedSeal (s.tr t).keys (s.tr t).seqOut
    (slice plain 0 4 ++ leBytes 2 a.body.length ++ leBytes 1 a.status ++ leBytes 1 a.detail ++ slice plain 8 4 ++ leBytes 4 0 ++ a.body))

/-- Nothing in the engine ends of itself: no running operation is one that R300 to R302 end, and no SPDM response waits for it. -/
def engineCalm (s : State) : Prop :=
  (∀ t : Transport, (s.tr t).signing = none)
    ∧ ∀ (c : Fin 2) (r : PkeReq), (s.pke.core c).req = some r → s.pkeRefuse r.args ((s.pke.core c).state == .ownerOp) = none

/-- First event source of a link port (16 R503). -/
def linkSrc (l : LinkId) : Nat := match l with | .la => 640 | .lb => 648

/-- What leaves when a port sends frames of its replay buffer again, in order from a place of its block stream on: each frame's blocks striped over the in-service lanes (11 R337, R344, R358). -/
def resent (l : LinkId) (inService : BitVec 4) : Nat → List Replay → List Out
  | _, [] => []
  | k, r :: rs =>
    let i := k + Config.idleBlocks (l == .lb) k
    let bs := frameBlocks r.hseq r.frame r.stomped
    Out.link l (striped inService i bs) :: resent l inService (i + bs.length) rs

/-- Of the whole state, at most the link, the events, the log and the outputs differ. -/
def onlyLink (s t : State) : Prop := t = { s with link := t.link, evt := t.evt, log := t.log, out := t.out }

/-- The oldest frame of the VC0 TERM pool of a port is of a type and comes from a node to which a response can leave, none of 9 to 14 (11 R365). -/
def served (s : State) (l : LinkId) (f : Frame) (type : Nat) : Prop :=
  (∃ rest, (s.lport l).term0 = f :: rest) ∧ f.type = type ∧ s.sys.node ≠ 0 ∧ (s.lport (s.portTo f.src)).up = true ∧ (f.src < 9 ∨ 14 < f.src)

/-- A response to a frame waits to leave: SRC and DEST exchanged, TAG and EPOCH echoed (11 R368). -/
def responded (s t : State) (f : Frame) (type status argA argB : Nat) (payload : List Byte) : Prop :=
  (t.lport (s.portTo f.src)).txq = (s.lport (s.portTo f.src)).txq
    ++ [{ type, dest := f.src, src := s.sys.node, vc := false, bcast := false, epoch := f.epoch, tag := f.tag, status, argA, argB, payload }]

/-- The oldest frame of a port is a FANTAIL frame of a kind, from this link master, and a reply can leave. -/
def fanFrom (s : State) (l : LinkId) (f : Frame) (kind : Nat) (m : Master) : Prop :=
  served s l f 9 ∧ f.argB % 16 = kind ∧ masterOf f.src = some m ∧ m ≠ .m14

/-- A FAN_SEND row of this kind is taken: nothing of master 14's is in progress, or a message of this kind that a register write sent (12 FAN_SEND; log 103). -/
def sendOpen (s : State) (kind : Nat) : Prop := s.fan.sendBusy = false ∨ s.fan.sendKind = kind

/-- The message of a FAN_SEND row: what FAN_MSG holds as KIND is written. -/
def sendMsg (s : State) : List Byte := if s.fan.sendBusy then s.fan.sent else memReads s.fan.msg 0 232

/-- A RESULT with this STATUS waits to leave for the sender, under its TAG and EPOCH (11 R375). -/
def resulted (s t : State) (f : Frame) (status : Nat) : Prop :=
  ∃ g ∈ (t.lport (s.portTo f.src)).txq, g.type = 9 ∧ g.argB = 5 ∧ g.dest = f.src ∧ g.src = s.sys.node ∧ g.tag = f.tag ∧ g.epoch = f.epoch
    ∧ g.status = status

/-- A window is open: a fresh NONCE, the next ROUND, 10 ms, no candidates, and the priorities of the stored record (11 R373, R377). -/
def windowOpened (s t : State) : Prop :=
  t.fan.window = true ∧ t.fan.owner = none ∧ t.fan.nonce = s.draw 256 ∧ t.fan.offered = true ∧ t.fan.round = (s.fan.round + 1) % 256
    ∧ t.fan.windowEnd = s.now + 10000000 ∧ t.fan.opened = true ∧ t.fan.cands = [] ∧ t.fan.directed = none ∧ t.fan.prio0 = s.devCfg.prio0
    ∧ t.fan.prio14 = s.devCfg.prio14 ∧ t.fan.prio15 = s.devCfg.prio15

/-- A master is granted ownership: its lease, the next session epoch, and what every ownership change and session ends (11 R377, R382, 13 R412, R417). -/
def granted (s t : State) (m : Master) : Prop :=
  t.fan.owner = some m ∧ t.fan.leaseEnd = t.now + 2000000000 ∧ t.fan.epoch = (s.fan.epoch + 1) % 16 ∧ t.fan.window = false ∧ t.fan.cands = []
    ∧ t.fan.offered = false ∧ t.fan.resNew = true ∧ t.evt.epoch = (s.evt.epoch + 1) % 16 ∧ t.mbx.nonce = none ∧ t.dbg.nonce = none
    ∧ t.mbx.object = [] ∧ (∀ k, (t.mbox k).ready = false ∧ (t.mbox k).ring = false ∧ (t.mbox k).lastSeq = none) ∧ raised t 659

/-- A request of the election is refused: counted, and the owner stays. -/
def refused (s t : State) : Prop := t.fan = { s.fan with cntRefused := s.fan.cntRefused + 1 }

/-- A monitor has fired on main power: its event waits for the combiner, with the mask of its configuration (15 R485). -/
def fired (s t : State) (m : Nat) : Prop := t.mon.detected = s.mon.detected ++ [(m, (s.mon.acts m).2)]

/-- A block that a stone gave back waits for another, or another has taken it (04 R151). -/
def goesOn (t : State) (n : Fin 32) (b : Block) : Prop :=
  { b with exclude := n :: b.exclude } ∈ t.fab.queue
    ∨ ∃ k : Fin 32, k ≠ n ∧ (t.fab.stones[k]).busy = some { b with exclude := n :: b.exclude }

/-- Every bit set in the first is set in the second. -/
def subBits {w : Nat} (a b : BitVec w) : Prop := ∀ i, a.getLsbD i = true → b.getLsbD i = true

/-- The bits of a floor from one version up to another (07 R243, 13 R442). -/
def bitsFrom (w lo hi : Nat) : BitVec w := BitVec.ofNat w ((2 ^ (hi - lo) - 1) * 2 ^ lo)

/-- An intent record that a transition from a state to another has written, under its authorization digest: a blown bit stays (14 R443, R448). -/
def recordOf (x : Intent) (a b : LcState) (auth : BitVec 384) : Intent :=
  { mark := BitVec.allOnes 8
    frm := x.frm ||| BitVec.ofNat 4 (lcCode a)
    tgt := x.tgt ||| BitVec.ofNat 4 (lcCode b)
    auth := x.auth ||| auth }

/-- Every OTP bit that is blown in the first array is blown in the second (14 R443, R444). -/
def otpLe (a b : Otp) : Prop :=
  subBits a.dus b.dus ∧ subBits a.trims b.trims ∧ subBits a.copy1 b.copy1 ∧ subBits a.copy2 b.copy2 ∧ subBits a.copy3 b.copy3
    ∧ (subBits a.intent0.mark b.intent0.mark ∧ subBits a.intent0.frm b.intent0.frm ∧ subBits a.intent0.tgt b.intent0.tgt
        ∧ subBits a.intent0.auth b.intent0.auth)
    ∧ (subBits a.intent1.mark b.intent1.mark ∧ subBits a.intent1.frm b.intent1.frm ∧ subBits a.intent1.tgt b.intent1.tgt
        ∧ subBits a.intent1.auth b.intent1.auth)
    ∧ (subBits a.intent2.mark b.intent2.mark ∧ subBits a.intent2.frm b.intent2.frm ∧ subBits a.intent2.tgt b.intent2.tgt
        ∧ subBits a.intent2.auth b.intent2.auth)
    ∧ (∀ i : Fin 10, subBits a.keys[i] b.keys[i]) ∧ (∀ i : Fin 16, subBits a.floors[i] b.floors[i]) ∧ subBits a.fwFloor b.fwFloor
    ∧ (∀ i : Fin 8, subBits a.evidence[i] b.evidence[i]) ∧ subBits a.fuses b.fuses

/-- The byte memories that registers, commands and the TAP write are in canonical form. -/
def State.buffersWf (s : State) : Prop :=
  (∀ m : MbxId, memWf (s.mbox m).req = true ∧ memWf (s.mbox m).rsp = true) ∧ memWf s.mbx.object = true ∧ memWf s.fan.msg = true
    ∧ memWf s.mil.ram = true

end Sys2Proof.Machine

open Sys2Proof Sys2Proof.Machine

/-! ### The queue, reset and start -/

/-- The model's queue (log 10): the front command runs on the rest, and an empty queue idles. -/
def Obligations.FrontOfQueueRuns : Prop :=
  (∀ (c : Instr) (rest : List Instr) (s : State), step { s with pending := c :: rest } = exec c { s with pending := rest })
    ∧ ∀ s : State, s.pending = [] → step s = .next s

/-- After reset every brake is asserted and every port WAITING (06 R188, R207), nothing is cached, queued or open, and the cause is POR (12 SYS_RESET_CAUSE). Memories list nothing. That the OTP, the home flash and the log array are empty at the model's reset is its own choice (DESIGN CHOICE log 6 and 7). -/
def Obligations.ResetStateIsCleared : Prop :=
  State.reset.pending = [] ∧ (∀ p, (State.reset.port p).state = .waiting ∧ (State.reset.port p).brake = true)
    ∧ State.reset.pond.granules = [] ∧ State.reset.pond.extents = [] ∧ State.reset.mbx = {} ∧ State.reset.fan.owner = none
    ∧ State.reset.link = {} ∧ State.reset.evt.stat = 0 ∧ State.reset.evt.mask = 0 ∧ State.reset.dbg.level = 0 ∧ State.reset.pke.queue = []
    ∧ (∀ n : Fin 16, (State.reset.dge.ctx[n]).state = CtxState.free) ∧ State.reset.drbg.seeded = false ∧ State.reset.mil.running = none
    ∧ State.reset.sys.cause = 1 ∧ (State.reset.fan.prio0, State.reset.fan.prio14, State.reset.fan.prio15) = (192, 64, 128)
    ∧ State.reset.pond.scrubMs = 4000 ∧ State.reset.mbx.object = [] ∧ State.reset.fan.msg = [] ∧ State.reset.mil.ram = []
    ∧ State.reset.otp = {} ∧ State.reset.store = {} ∧ State.reset.log.records = [] ∧ State.reset.log.queue = []

/-- A power-on reset leaves every port WAITING with its brake asserted and every part of the device at its reset value (06 R188, R207, 12 R399, R403), but for what the table of R207 keeps: the log array, the OTP, the home flash with its firmware slots, the serial number, and the AONB, which holds its seal key while VBAT or VAUX holds and has lost it otherwise; the queue goes on (log 10). When a POWER_ON_RESET stands for a loss of VAUX is the model's choice (DESIGN CHOICE log 15), and the first one after such a loss is the rise of VAUX, which ends BACKUP (17 R519, R529). PORST_FALLS asserts every brake at once (06 R188); that it changes no port's state and nothing else but the pin is the model's choice (DESIGN CHOICE log 102). A device reset, whatever started it, does what its column of 06 R207 says: brakes and ports as at power-on; millpond, contexts, engine, mailboxes, DRBG and sequencer cleared; the stones are to be tested of a domain that comes out of Off (04 R152); ownership ended with an election due (11 R381); debug ended; its own cause bit set (12 R399); event status, masks and routing at reset values; and the node ID, the trained link lanes and forwarding, the log array, the OTP, the home flash and the AONB kept; alarms detected by then are settled first, and where a RESET of theirs waits every queued record is committed first (15 R485, R486; the model's reading, DEDUCED log 62). Alarms' CONTAIN stays, that of R463 ends (14 R463, 15 R483). The ROM decodes the life cycle by the bit-by-bit vote of the three copies (14 R446), holds every port of a Locked or ended device ISOLATED and braked (04 R117), and runs only in a reset, with REFCLK, VDD and VDDM present (06 R560, 17 R524); a start that follows a loss of VAUX finds them, and VAUX, back (the model's reading, DEDUCED log 32). -/
def Obligations.ResetsClearTheirColumns : Prop :=
  ((∀ s : State, Completes .powerOnReset s fun t =>
    (∀ p, (t.port p).state = .waiting ∧ (t.port p).brake = true
      ∧ t.port p = { ({} : Port) with
            brakeAt := s.now, hrdyLevel := (s.port p).hrdyLevel, hcsLow := (s.port p).hcsLow, poison := (t.port p).poison, hdqs := (t.port p).hdqs,
            held := (t.port p).held, held2 := (s.port p).held2, suspendDue := (t.port p).suspendDue, resumeDue := (t.port p).resumeDue,
            partResetDue := (s.port p).partResetDue || (s.port p).partBusy,
            remap := if (s.port p).hcsLow then (s.port p).remap else (false, 0) }
      ∧ ((t.port p).poison = true ↔ (s.port p).poison = true ∨ ((s.port p).hcsLow = true ∧ (s.port p).brake = false))
      ∧ (∀ h, (s.port p).held = some h → (t.port p).held = some h)
      ∧ ((s.port p).held = none → (s.port p).devOp = none → (t.port p).held = none))
    ∧ t.pond = {} ∧ t.fab = {} ∧ t.link = {} ∧ t.fan = {} ∧ t.mbx = {} ∧ t.pke = {} ∧ t.dge = {} ∧ t.hop = {} ∧ t.idn = {} ∧ t.drbg = {}
    ∧ t.dbg = { ({} : Debug) with trstHigh := s.dbg.trstHigh } ∧ t.evt = {} ∧ t.rel = {} ∧ t.life = s.life ∧ t.i3c = {} ∧ t.spdm = Vector.replicate 5 {} ∧ t.sys = { serial := s.sys.serial }
    ∧ t.mil = { fw0 := s.mil.fw0.cut, fw1 := s.mil.fw1.cut, preferFw1 := s.mil.preferFw1 }
    ∧ t.gov.romPending = true ∧ t.gov.porstLow = s.gov.porstLow ∧ t.mon.env = 0 ∧ t.mon.detected = []
    ∧ t.gov.state = (if s.gov.vaux && s.gov.vauxLost s.now && s.gov.vbat then .backup else .active)
    ∧ t.gov.vaux = !(s.gov.vaux && s.gov.vauxLost s.now)
    ∧ (s.gov.vaux = true → s.gov.vauxLost s.now = false → t.aonb = s.aonb) ∧ (s.gov.vaux = false → t.aonb = { s.aonb with backup := false })
    ∧ (s.gov.vaux = true → s.gov.vauxLost s.now = true → t.aonb.backup = true)
    ∧ (s.gov.vbat = true → t.aonb.sealKey = s.aonb.sealKey)
    ∧ (s.gov.vaux = true → s.gov.vauxLost s.now = true → s.gov.vbat = false → t.aonb.sealKey = none ∧ t.aonb.lostPower = true)
    ∧ (s.dbg.session = none → s.dbg.d2Opening = false →
        t.log = { s.log with wfault := false, hwlost := false, base := 0, advance := false } ∧ t.out = s.out)
    ∧ t.otp = s.otp ∧ t.store = s.store ∧ t.pending = s.pending ∧ t.now = s.now)
  ∧ (∀ s : State, s.gov.vauxLost s.now = false ↔
      s.gov.porstLow = true ∧ s.gov.porstDone = false ∧ s.now ≤ s.gov.porstAt + 10000)
  ∧ ∀ s : State, Completes .porstFalls s fun t =>
    (∀ p, (t.port p).brake = true ∧ (t.port p).state = (s.port p).state) ∧ t.gov.porstLow = true
      ∧ t = { s with ports := t.ports, gov := { s.gov with porstLow := true, porstAt := s.now, porstDone := false } })
  ∧ (∀ (cause : DevCause) (s : State), s.aonb.backup = false → Completes (.deviceResetBegin cause) s fun t =>
    (∀ p, (t.port p).state = .waiting ∧ (t.port p).brake = true) ∧ t.mon.detected = [] ∧ t.mon.resetDue = false
      ∧ t.sys.cause = (match cause with | .alarm => 2 | .command => 4 | .supply => 8) ∧ t.gov.romPending = true
      ∧ (t.dbg.drive = 0 ∧ t.dbg.session = none) ∧ t.store = s.store ∧ t.pending = s.pending)
  ∧ (∀ (cause : DevCause) (s : State), s.aonb.backup = false → s.mon.detected = [] → Completes (.deviceResetBegin cause) s fun t =>
    (∀ p, (t.port p).state = .waiting ∧ (t.port p).brake = true ∧ (t.port p).containBy = (s.port p).containBy.filter (· < 64) ∧ (t.port p).trackers = [] ∧ (t.port p).failures = []
      ∧ (t.port p).transients = [] ∧ (t.port p).table = [] ∧ (t.port p).mode = none ∧ (t.port p).cntVerdict = 0)
    ∧ t.fab = { ({} : Fabric) with stones := t.fab.stones }
    ∧ (∀ n : Fin 32, t.fab.stones[n] = { ({} : Stone) with katDue := decide (n.val < 16) && ((s.fab.stones[n]).katDue || s.domain 4 != .on) })
    ∧ t.pond = {} ∧ t.mbx = {} ∧ t.pke = {} ∧ t.dge = {} ∧ t.hop = {} ∧ t.idn = {} ∧ t.drbg = {} ∧ t.rel = {}
    ∧ t.fan.owner = none ∧ t.fan.due = true ∧ t.fan.epoch = 0 ∧ t.fan.window = false ∧ t.sys.node = s.sys.node ∧ t.dbg.level = 0
    ∧ t.dbg.session = none ∧ t.dbg.nonce = none
    ∧ t.sys.cause = (match cause with | .alarm => 2 | .command => 4 | .supply => 8)
    ∧ t.evt.stat = 0 ∧ t.evt.mask = 0 ∧ t.evt.ownDiff = 0 ∧ t.evt.alertDiff = 0 ∧ t.evt.latch = 0 ∧ t.evt.unacked = [] ∧ t.evt.toOwner = []
    ∧ t.evt.epoch = (s.evt.epoch + 1) % 16 ∧ t.evt.nextTag = 0
    ∧ (∀ l : LinkId, (t.lport l).tstate = (s.lport l).tstate ∧ (t.lport l).fwd = (s.lport l).fwd ∧ (t.lport l).replay = (s.lport l).replay
        ∧ (t.lport l).term0 = [] ∧ (t.lport l).term1 = [] ∧ (t.lport l).serving = [] ∧ (t.lport l).cnt = (s.lport l).cnt)
    ∧ t.mil.running = none ∧ t.mil.ram = [] ∧ t.gov.romPending = true ∧ t.mon.resetDue = false
    ∧ (s.mon.resetDue = false → t.log.records = s.log.records)
    ∧ (s.mon.resetDue = true → s.dbg.session = none → s.dbg.d2Opening = false → s.evtWaiting = 0 → s.log.found + s.log.queue.length < 4096
        → s.log.race + s.log.queue.length < 65536 → t.log.queue = [])
    ∧ t.otp = s.otp ∧ t.store = s.store ∧ t.aonb = s.aonb ∧ t.pending = s.pending)
  ∧ (∀ (cause : DevCause) (s : State), s.aonb.backup = true → exec (.deviceResetBegin cause) s = .next s)
  ∧ ((∀ (env : RomEnv) (s : State), s.gov.romPending = true → (s.gov.vaux = true → s.gov.refclk = true ∧ s.gov.vdd = true ∧ s.gov.vddm = true) →
    Completes (.romStart env) s fun t =>
      t.gov.romPending = false ∧ t.life.code = s.otp.vote ∧ t.life.state = decodeLc s.otp.vote ∧ t.life.written = none
      ∧ t.store.ports = (if decodeLc s.otp.vote = .endOfLife then Vector.replicate 32 {} else s.store.ports)
      ∧ (decodeLc s.otp.vote = .locked ∨ decodeLc s.otp.vote = .endOfLife → ∀ p, (t.port p).state = .isolated ∧ (t.port p).brake = true))
  ∧ ∀ (env : RomEnv) (s : State), (s.gov.romPending = false ∨ (s.gov.vaux = true ∧ (s.gov.refclk = false ∨ s.gov.vdd = false ∨ s.gov.vddm = false))) →
      exec (.romStart env) s = .next s)

/-- A miller restart leaves every port in SERVICE, SUBSTITUTE, CONTAINED, MEASURED or FAILED as it is (06 R207, R209, 04 R118), sets its cause bit (12 R399), and clears the nonces and the engine's sealed key slot as it begins; one that cannot start changes nothing (06 R211). Every other start completes with its own effect: a power-on reset and a device reset put every port to WAITING, braked (06 R207), a fall of PORST# asserts every brake (06 R188), each port keeping its state (the model's choice, DESIGN CHOICE log 102), and the ROM of a pending reset runs and decodes the life cycle (14 R446). -/
def Obligations.MillerRestartKeepsServingPorts : Prop :=
  (∀ (env : RomEnv) (s : State), s.millerUp = true →
    Completes (.millerRestartBegin .command env) s fun t =>
      (∀ p, (s.port p).state ∉ [PortState.arming, .measuring, .recovering] → t.port p = s.port p)
      ∧ t.sys.cause = s.sys.cause ||| 0x10 ∧ raised t 934 ∧ t.mbx.nonce = none ∧ t.dbg.nonce = none ∧ t.mil.ram = []
      ∧ t.otp = s.otp ∧ t.store = s.store ∧ t.link = s.link ∧ t.rel = s.rel)
  ∧ (∀ (cause : RestartCause) (env : RomEnv) (s : State), s.millerUp = false → exec (.millerRestartBegin cause env) s = .next s)
  ∧ (∀ (env : RomEnv) (s : State), s.millerUp = false → exec (.millerWatchdogExpiry env) s = .next s)
  ∧ (∀ (env : RomEnv) (s : State), s.millerUp = true → Completes (.millerWatchdogExpiry env) s fun t =>
      raised t 935 ∧ (∀ p, (s.port p).state ∉ [PortState.arming, .measuring, .recovering] → t.port p = s.port p)
      ∧ (4 ≤ (recent s.now 60000000000 s.mil.restarts).length → t.mil.running = none ∧ t.sys.stage = .stopped ∧ raised t 933)
      ∧ ((recent s.now 60000000000 s.mil.restarts).length < 4 → t.sys.cause = s.sys.cause ||| 0x20))
  ∧ (∀ s : State, Completes .powerOnReset s fun t => (∀ p, (t.port p).state = .waiting ∧ (t.port p).brake = true) ∧ t.sys.cause = 1 ∧ t.otp = s.otp)
  ∧ (∀ s : State, Completes .porstFalls s fun t => ∀ p, (t.port p).brake = true ∧ (t.port p).state = (s.port p).state)
  ∧ (∀ (cause : DevCause) (s : State), s.aonb.backup = false → Completes (.deviceResetBegin cause) s fun t =>
      (∀ p, (t.port p).state = .waiting ∧ (t.port p).brake = true) ∧ t.fan.owner = none ∧ t.otp = s.settleAlarms.otp)
  ∧ ∀ (env : RomEnv) (s : State), s.gov.romPending = true → s.gov.refclk = true → s.gov.vdd = true → s.gov.vddm = true →
      Completes (.romStart env) s fun t => t.gov.romPending = false ∧ t.life.state = decodeLc s.otp.vote

/-! ### Arming -/

/-- The miller's start loads the settings store before any port arms: ports without an enabled configuration become DISABLED (04 R117), the stored graph goes into the sequencer, whose records judge the BRAKE_MIN and SETTLE that have run so far (06 R191, R201), and one with a field fault or a cycle withholds its ports with the graph event (06 R199), the tamper record goes into the monitors or their defaults hold (15 R494), SCRUB_MS and AUTH_HYBRID come from the device record (13 R431), whose layout fault raises SETTINGS_UNREADABLE (13 R433), and a window that waited opens (11 R377, R381). A record that names other edges than the old one starts its SETTLE anew (log 100), and a stored item with no valid copy counts as unreadable (13 R433). It does nothing while the miller does not run or has loaded them, and while VIO_HOME is out every read of an item fails (17 R531). -/
def Obligations.MillerStartLoadsStores : Prop :=
  (∀ s : State, s.serves = true → s.mil.loaded = false →
    Completes .millerStartArming s fun t =>
      t.mil.loaded = true
      ∧ (∀ c, c = ((s.homeRead s.store.device).bind readDev).getD devDefault → t.mil.authHybrid = c.authHybrid ∧ t.pond.scrubMs = c.scrubMs)
      ∧ (∀ p : PortId, t.port p = { s.port p with
            state := if (s.port p).state = .waiting ∧ (match s.storedCfg p with | none => true | some none => false | some (some c) => !c.enable) = true
              then .disabled else (s.port p).state,
            brakeMinDone := (s.port p).brakeMinDone && decide ((s.port p).brakeAt + (t.rel.records[p]).brakeMinMs * 1000000 ≤ s.now),
            edgesAt := if (t.rel.records[p]).sameEdges s.rel.records[p] then (s.port p).edgesAt else none,
            settleDone := (t.rel.records[p]).sameEdges s.rel.records[p] && (s.port p).settleDone && (match (s.port p).edgesAt with
              | some u => decide (u + (t.rel.records[p]).settleMs * 1000000 ≤ s.now)
              | none => false) })
      ∧ (∀ bs, s.homeRead s.store.device = some bs → readDev bs = none → raised t 941)
      ∧ (s.store.graph.stored = false → t.rel = {})
      ∧ (s.store.graph.stored = true → s.homeRead s.store.graph = none → t.rel.withheld = BitVec.allOnes 32 ∧ raised t 940 ∧ raised t 941)
      ∧ (s.store.device.stored = true → s.homeRead s.store.device = none → raised t 941)
      ∧ (∀ (p : PortId) (i : SlotId) (x : Item), x = (match i with | .a => (s.pstore p).recA | .b => (s.pstore p).recB | .g => (s.pstore p).recG) →
          x.stored = true → s.homeRead x = none → raised t 941)
      ∧ (∀ bs, s.homeRead s.store.graph = some bs → graphFieldsOk bs = true →
          t.rel = { records := relRecs bs, withheld := cyclePorts (relRecs bs) } ∧ (cyclePorts (relRecs bs) ≠ 0 → raised t 940))
      ∧ (∀ bs, s.homeRead s.store.graph = some bs → graphFieldsOk bs = false → t.rel.withheld = BitVec.allOnes 32 ∧ raised t 940)
      ∧ t.mon = (match s.homeRead s.store.tamper with
          | some bs => if tamperCfgOk bs && tamperFloorsOk bs then s.mon.load bs else s.mon.defaults
          | none => s.mon.defaults)
      ∧ (s.fan.due = true → s.fan.owner = none → s.fan.window = false → s.life.state ≠ .endOfLife →
          t.fan.window = true ∧ t.fan.due = false ∧ t.fan.offered = true ∧ t.fan.cands = [] ∧ t.fan.windowEnd = s.now + windowNs
            ∧ t.fan.round = (s.fan.round + 1) % 256)
      ∧ (s.fan.due = false → t.fan = s.fan)
      ∧ t.otp = s.otp ∧ t.store = s.store ∧ t.mbx = s.mbx ∧ t.log.records = s.log.records)
  ∧ ∀ s : State, (s.serves = false ∨ s.mil.loaded = true) → exec .millerStartArming s = .next s

/-- Configuration load of an arming (04 R117, 01 R22, 02 R43, R50, R53, R68, R562, 05 R162): it begins only once the miller runs and has loaded the graph, with the tailrace free, and from WAITING in the graph's order, the lower port number first at equal depth (01 R21). A port with no stored configuration is DISABLED, an unreadable one fails, so does one whose supply is out of range or cannot carry its mode, and one that passes the checks of R22, R43, R45 and R162 enters ARMING on the slot that R240 chooses, with its effective table built, its real parts' SFDP held, its status profile selected and N_real programmed into both parts. -/
def Obligations.ConfigurationLoadArmsPort : Prop :=
  (∀ (p : PortId) (x y : Sfdp) (s : State), s.armsNow p = true → (s.port p).state = .waiting → s.storedCfg p = none →
    exec (.portArmBegin p x y) s = .next (s.modPort p fun z => { z with state := .disabled }))
  ∧ (∀ (p : PortId) (x y : Sfdp) (s : State), s.armsNow p = true → (s.port p).state = .waiting → (s.port p).option = none →
      s.storedCfg p = some none →
    Completes (.portArmBegin p x y) s fun t =>
      (t.port p).state = .failed ∧ (t.port p).brake = true ∧ raised t (20 * p.val + 10) ∧ othersKept p s t)
  ∧ (∀ (p : PortId) (x y : Sfdp) (c : PortCfg) (s : State), s.armsNow p = true → s.storedCfg p = some (some c) → c.enable = true →
      s.vioOf p = .out →
    Completes (.portArmBegin p x y) s fun t =>
      (t.port p).state = .failed ∧ (t.port p).brake = true ∧ raised t (868 + p.val / 4) ∧ raised t (20 * p.val + 10) ∧ othersKept p s t)
  ∧ (∀ (p : PortId) (x y : Sfdp) (c : PortCfg) (s : State), s.armsNow p = true → (s.port p).state = .waiting → (s.port p).option = none →
      s.storedCfg p = some (some c) → c.enable = true → s.vioOf p = .v33 → modeClock true c.mode < c.fport →
    Completes (.portArmBegin p x y) s fun t =>
      (t.port p).state = .failed ∧ (t.port p).brake = true ∧ raised t (20 * p.val + 10) ∧ othersKept p s t)
  ∧ (∀ (p : PortId) (x y : Sfdp) (c : PortCfg) (i : SlotId) (pending : Bool) (s : State),
      s.armsNow p = true → (s.port p).state = .waiting → s.storedCfg p = some (some c) → c.enable = true →
      (s.vioOf p = .v18 ∨ (s.vioOf p = .v33 ∧ c.fport ≤ modeClock true c.mode)) → s.armTarget p = .slot i pending →
      (∀ j ∈ c.slots, c.base j + c.v ≤ (if c.cs j then y else x).capacity) →
      (c.addr4 = true ∨ c.base i < 2 ^ 24 ∨ (if c.cs i then y else x).extAddr = true) →
      (checkSluice (s.sluiceBytes p) (partKnows (if c.cs i then y else x)) (decide ((if c.cs i then y else x).page ≤ 4096))).1 = 0 →
    Completes (.portArmBegin p x y) s fun t =>
      (t.port p).state = .arming ∧ (t.port p).source = .slot i ∧ (t.port p).armPending = pending ∧ (t.port p).begun = true
      ∧ (t.port p).cfg = some c
      ∧ (t.port p).sfdp0 = some x ∧ (t.port p).sfdp1 = some y ∧ (t.port p).fport = min c.fport (1000 / (c.cshNs + 1))
      ∧ (t.port p).profile = profileOf c (if c.cs i then y else x)
      ∧ (t.port p).table = effectiveTable (s.sluiceBytes p) ∧ (t.port p).brake = (s.port p).brake
      ∧ (t.port p).real.dummy0 = some (nRealOf x c.fastRead) ∧ (t.port p).real.dummy1 = some (nRealOf y c.fastRead)
      ∧ Out.partDummy p false (nRealOf x c.fastRead) ∈ t.out ∧ Out.partDummy p true (nRealOf y c.fastRead) ∈ t.out
      ∧ (fportOf c < c.fport → raised t (20 * p.val + 11)) ∧ othersKept p s t
      ∧ t = { s with ports := t.ports, evt := t.evt, log := t.log, out := t.out })
  ∧ (∀ (p : PortId) (s : State), (s.port p).state = .waiting → s.armsNow p = true →
      s.millerRuns = true ∧ s.mil.loaded = true ∧ s.armFree p = true
      ∧ ∀ q : PortId, q ≠ p → (s.port q).state = .waiting → s.armFree q = true →
          s.rel.depth p < s.rel.depth q ∨ (s.rel.depth p = s.rel.depth q ∧ p < q))
  ∧ ∀ (p : PortId) (x y : Sfdp) (s : State), s.armsNow p = false → exec (.portArmBegin p x y) s = .next s

/-- Verification of the map of an active slot (04 R117, 03 R113, 01 R22, 04 R119, R128, 07 R559): MAP_OK with an allocation that fits enters MEASURING on that map; MAP_ENGINE waits in ARMING with the event and nothing else; a map with stream regions does not arm while the DRBG has failed; content that does not fit takes the port to FAILED, and so does the failed DRBG (the model's choice, DESIGN CHOICE log 20); any other result fails the slot and the port recovers or fails, braked. While VIO_HOME is out the map cannot be read, and the port goes to FAILED with its event (01 R22, 17 R531). While an alarm's CONTAIN is in force the port keeps its state (15 R482). A map that waited is verified again once its verification would not end as MAP_ENGINE (03 R113, 10 R318). The measurement that then follows makes its captures (05 R167), fills its granules (04 R122), loads its leaf tables (03 R95) and ends in MEASURED when every root matches (04 R117). -/
def Obligations.MapVerificationDecidesArming : Prop :=
  (∀ (p : PortId) (engineFault : Bool) (c : PortCfg) (i : SlotId) (s : State),
      s.millerRuns = true → (s.port p).state = .arming → (s.port p).begun = true → (s.port p).armMap = none → (s.port p).engineWait = false →
      (s.port p).armPending = false → (s.port p).cfg = some c → (s.port p).source = .slot i → (s.storedMap p i).isSome = true →
      (s.port p).containBy = [] → s.gov.vioHome = true →
    Completes (.mapVerifyDone p engineFault) s fun t => othersKept p s t ∧
      match s.verifySlotMap p i c (s.engines engineFault) with
      | (8, _) => t.port p = { s.port p with engineWait := true } ∧ raised t (20 * p.val + 10) ∧ t.pond = s.pond
      | (0, some m) =>
        if s.drbg.failed = true ∧ m.streams ≠ [] then (t.port p).state = .failed ∧ (t.port p).brake = true ∧ raised t (20 * p.val + 10)
        else match (s.pond.freePreload p i).allocArm p m with
          | some pond => (t.port p).state = .measuring ∧ (t.port p).armMap = some m ∧ t.pond = pond ∧ (t.port p).filled = 0
              ∧ (t.port p).loaded = 0 ∧ (t.port p).captures = [] ∧ ((t.port p).tallyKey.isSome = true ↔ m.streams ≠ [])
          | none => (t.port p).state = .failed ∧ (t.port p).brake = true ∧ raised t (20 * p.val + 10)
      | (code, _) => (t.slot p i).state = .failed ∧ (t.slot p i).failCode = code ∧ raised t (20 * p.val + 10)
          ∧ ((t.port p).state = .recovering ∨ (t.port p).state = .failed) ∧ (t.port p).brake = true)
  ∧ (∀ (p : PortId) (engineFault : Bool) (s : State), ((s.port p).containBy ≠ [] ∨ (s.port p).engineWait = true ∨ s.stir.millerRuns = false) →
      exec (.mapVerifyDone p engineFault) s = .next s)
  ∧ (∀ (p : PortId) (engineFault : Bool) (i : SlotId) (s : State), s.millerRuns = true → (s.port p).state = .arming → (s.port p).begun = true →
      (s.port p).armMap = none → (s.port p).engineWait = false → (s.port p).source = .slot i → (s.port p).containBy = [] →
      s.gov.vioHome = false →
    Completes (.mapVerifyDone p engineFault) s fun t =>
      (t.port p).state = .failed ∧ (t.port p).brake = true ∧ raised t (20 * p.val + 10) ∧ t.store = s.store ∧ othersKept p s t)
  ∧ (∀ (p : PortId) (c : PortCfg) (i : SlotId) (s : State), s.dark = false → (s.port p).cfg = some c → (s.port p).source = .slot i →
      (s.verifySlotMap p i c s.engines).1 ≠ 8 →
      exec (.mapEngineRetry p) s = .next (s.modPort p fun y => { y with engineWait := false }))
  ∧ (∀ (p : PortId) (c : PortCfg) (i : SlotId) (s : State), (s.port p).cfg = some c → (s.port p).source = .slot i →
      (s.verifySlotMap p i c s.engines).1 = 8 → exec (.mapEngineRetry p) s = .next s)
  ∧ (∀ (p : PortId) (data : List Byte) (s : State), s.dark = false → s.readsGoOn p = true → (s.port p).captures.length < (s.port p).captureEntries.length →
    Completes (.sluiceCaptureRead p data) s fun t => (t.port p).captures.length = (s.port p).captures.length + 1)
  ∧ (∀ (p : PortId) (data : List Byte) (m : MillMap) (r va n : Nat) (g : Granule) (s : State), s.dark = false →
      (s.port p).armMap = some m → m.granules[(s.port p).filled]? = some (r, va) → s.measuringFlash p = true → (s.port p).captured = true →
      s.pond.granuleAt p va = some (n, g) →
    Completes (.granuleFill p data .ok) s fun t =>
      (t.port p).filled = (s.port p).filled + 1 ∧ tblGet t.pond.granules n = some (g.fill data .pending))
  ∧ (∀ (p : PortId) (data : List Byte) (m : MillMap) (e : Nat × Region) (s : State), s.dark = false →
      (s.port p).armMap = some m → m.streams[(s.port p).loaded]? = some e → s.measuringFlash p = true → (s.port p).captured = true →
    Completes (.leafTableLoad p data) s fun t => (t.port p).loaded = (s.port p).loaded + 1)
  ∧ ∀ (p : PortId) (m : MillMap) (s : State), s.dark = false → (s.port p).armMap = some m → s.measuringFlash p = true → (s.port p).captured = true →
      s.fillWhole p = true → (s.port p).filled = m.granules.length → (s.port p).loaded = m.streams.length → s.mismatch p m = none →
    Completes (.measurementRootCompare p) s fun t => (t.port p).state = .measured ∧ (t.port p).map = some m

/-- The reads of a measurement on a flash slot: the capture of a VSRC 0x02 entry is read with the entry's opcode from address 0 and takes 16 × VDATA bytes (05 R167); a granule read fills, is hashed and PENDING, a corrected error is counted with its event, and an uncorrectable one is a millpond fault that leaves the granule INVALID (04 R122, R127); a leaf table enters the tree store only when its root is ROOT, and its region is remembered otherwise (03 R95). The comparison of roots (03 R94 to R96, 04 R117, R122, 06 R203, 07 R222) takes place only once every granule and table has been read: when every root matches, the granules become VALID together and the port enters MEASURED on the map, its virtual device to be reset; otherwise the failure is reported with its region and the active slot is measured again at half clock, from freed and newly allocated granules, or, at half clock already, retired with FAIL_CODE 0x10. -/
def Obligations.MeasurementFillsAndCompares : Prop :=
  ((∀ (p : PortId) (data : List Byte) (e : SlEntry) (s : State), s.dark = false → (s.port p).captureEntries[(s.port p).captures.length]? = some e →
      s.readsGoOn p = true →
    Completes (.sluiceCaptureRead p data) s fun t =>
      e.vsrc = 2 ∧ (t.port p).captures = (s.port p).captures ++ [slice data 0 (16 * e.vdata)] ∧ (t.port p).state = .measuring ∧ othersKept p s t
      ∧ (∀ c, (s.port p).cfg = some c → ∃ pre mode mhz n d, t.out = s.out ++ pre ++ [Out.devRead p (s.port p).activeCs e.opcode mode mhz n 0 d (16 * e.vdata)])
      ∧ t = { s with ports := t.ports, out := t.out })
  ∧ (∀ (p : PortId) (data : List Byte) (s : State), (s.readsGoOn p = false ∨ (s.port p).captureEntries.length ≤ (s.port p).captures.length) →
      exec (.sluiceCaptureRead p data) s = .next s)
  ∧ (∀ (p : PortId) (data : List Byte) (ecc : Ecc) (m : MillMap) (r va n : Nat) (g : Granule) (s : State), s.dark = false →
      (s.port p).armMap = some m → m.granules[(s.port p).filled]? = some (r, va) → s.measuringFlash p = true → (s.port p).captured = true →
      s.pond.granuleAt p va = some (n, g) →
    Completes (.granuleFill p data ecc) s fun t =>
      (ecc ≠ .uncorrectable → t.pond = s.pond.put n { g with state := .pending, data := data, digest := some (leafDigest data) }
        ∧ (t.port p).filled = (s.port p).filled + 1 ∧ (t.port p).state = .measuring)
      ∧ (ecc = .corrected → (t.port p).cntEcc = (s.port p).cntEcc + 1 ∧ raised t (20 * p.val + 5))
      ∧ (ecc = .uncorrectable → (t.port p).cntPond = (s.port p).cntPond + 1 ∧ raised t (20 * p.val + 4))
      ∧ (ecc = .uncorrectable → s.errHot n = false →
          t.pond.granules = tblSet s.pond.granules n { g with state := .invalid } ∧ (t.port p).filled = (s.port p).filled + 1
          ∧ (t.port p).state = .measuring)
      ∧ othersKept p s t)
  ∧ (∀ (p : PortId) (data : List Byte) (m : MillMap) (k : Nat) (r : Region) (s : State), s.dark = false →
      (s.port p).armMap = some m → m.streams[(s.port p).loaded]? = some (k, r) → s.measuringFlash p = true → (s.port p).captured = true →
    Completes (.leafTableLoad p data) s fun t =>
      (t.port p).loaded = (s.port p).loaded + 1 ∧ (t.port p).state = .measuring ∧ othersKept p s t
      ∧ (treeRoot (tableLeaves r.leafCount data) = r.root →
          t.pond = s.pond.setLeaves p k (tableLeaves r.leafCount data) ∧ (t.port p).badRegion = (s.port p).badRegion)
      ∧ (treeRoot (tableLeaves r.leafCount data) ≠ r.root → t.pond = s.pond ∧ ∃ b, b ≤ k ∧ (t.port p).badRegion = some b)))
  ∧ (∀ (p : PortId) (m : MillMap) (i : SlotId) (s : State), s.dark = false → (s.port p).armMap = some m → s.measuringFlash p = true → (s.port p).captured = true →
      s.fillWhole p = true → (s.port p).filled = m.granules.length → (s.port p).loaded = m.streams.length → (s.port p).armPending = false →
      (s.port p).source = .slot i →
    Completes (.measurementRootCompare p) s fun t => othersKept p s t ∧
      match s.mismatch p m with
      | none => (t.port p).state = .measured ∧ (t.port p).map = some m ∧ (t.port p).armMap = none ∧ (t.port p).vdResetDue = true
          ∧ (t.port p).settleDone = false ∧ t.pond = s.pond.validate p ∧ t.store = s.store
          ∧ (∀ e ∈ t.pond.granules, e.2.ownedBy p = true → e.2.state ≠ .pending)
      | some k => s.stir.millerRuns = true → s.gov.vioHome = true → raised t (20 * p.val + 10)
          ∧ ((s.port p).halfRate = false → ((t.port p).state = .measuring ∧ (t.port p).halfRate = true ∧ (t.port p).filled = 0
                ∧ (t.port p).loaded = 0 ∧ (s.pond.freePort p).allocArm p m = some t.pond) ∨ (t.port p).state = .failed)
          ∧ ((s.port p).halfRate = true → (t.slot p i).state = .retired ∧ (t.slot p i).failCode = 0x10 ∧ (t.slot p i).failRegion = k
              ∧ raised t (20 * p.val + 18) ∧ (t.port p).brake = true))
  ∧ ∀ (p : PortId) (m : MillMap) (s : State), (s.port p).armMap = some m →
      (s.measuringFlash p = false ∨ (s.port p).captured = false ∨ s.fillWhole p = false ∨ (s.port p).filled ≠ m.granules.length
        ∨ (s.port p).loaded ≠ m.streams.length) → exec (.measurementRootCompare p) s = .next s

/-! ### Brakes, release and resets of ports -/

/-- One evaluation of the release sequencer (06 R200 to R202, R189): a MEASURED port whose edges, SETTLE, BRAKE_MIN and virtual device are done, on which no CONTAIN is in force and which nothing withholds (06 R199), is released into SERVICE or SUBSTITUTE while VDD and VDDM hold (06 R188); every other port keeps its state and its brake. All ports are judged on one snapshot. An edge is satisfied exactly as 06 R200 lists, and a port's edges when each of its predecessors' is. That a port with a stream region is withheld while the fabric is lost is the model's choice (DESIGN CHOICE log 19): 04 R153 speaks of ports in service. -/
def Obligations.ReleaseSequencerReleasesReadyPorts : Prop :=
  (∀ s : State, Completes .portRelease s fun t =>
    t = { s with ports := t.ports, out := t.out, gov := { s.gov with dom := t.gov.dom }, fab := t.fab }
    ∧ (∀ p : PortId, (s.port p).state = .measured → s.edgesOk p = true → ((s.port p).settleDone = true ∨ (s.rel.records[p]).settleMs = 0) →
        (s.port p).brakeMinDone = true →
        (s.port p).vdReady = true → (s.port p).vdResetDue = false → (s.port p).containBy = [] → s.rel.withheld.getLsbD p.val = false →
        s.gov.vdd = true → s.gov.vddm = true → (s.fab.lost = false ∨ (s.port p).hasStream = false) →
        (t.port p).brake = false ∧ (t.port p).hrdyQ = false ∧ (t.port p).hrdyTmo = false ∧ (t.port p).releasedAt = s.now
          ∧ (t.port p).mode = some .s111 ∧ (t.port p).cntRelease = (s.port p).cntRelease + 1
          ∧ ((∃ i, (s.port p).source = .slot i) → (t.port p).state = .service)
          ∧ ((s.port p).source = .golden ∨ (s.port p).source = .adapter → (t.port p).state = .substitute))
    ∧ ∀ p : PortId, ((s.port p).state ≠ .measured ∨ s.edgesOk p = false ∨ ((s.port p).settleDone = false ∧ (s.rel.records[p]).settleMs ≠ 0)
        ∨ (s.port p).brakeMinDone = false ∨ (s.port p).vdReady = false ∨ (s.port p).vdResetDue = true ∨ (s.port p).containBy ≠ []
        ∨ s.rel.withheld.getLsbD p.val = true ∨ s.gov.vdd = false ∨ s.gov.vddm = false ∨ (s.fab.lost = true ∧ (s.port p).hasStream = true)) →
        (t.port p).brake = (s.port p).brake ∧ (t.port p).state = (s.port p).state ∧ (t.port p).cntRelease = (s.port p).cntRelease)
  ∧ ((∀ (p q : PortId) (s : State), s.edgeOk p q = true ↔
    (((s.port q).state = .service ∨ (s.port q).state = .substitute) ∧ ((s.rel.records[p]).hrdy.getLsbD q.val = true → (s.port q).hrdyQ = true))
    ∨ (s.port q).state = .disabled
    ∨ ((s.rel.records[p]).skip.getLsbD q.val = true
        ∧ ((s.port q).state = .failed ∨ ((s.rel.records[p]).hrdy.getLsbD q.val = true ∧ (s.port q).hrdyTmo = true))))
  ∧ ∀ (p : PortId) (s : State), s.edgesOk p = true ↔ ∀ q : PortId, (s.rel.records[p]).pred.getLsbD q.val = true → s.edgeOk p q = true)

/-- The timers of a release (06 R191, R201, R205): BRAKE_MIN runs from the latest assertion, SETTLE from the moment the last edge became satisfied in MEASURED; neither touches another port. The sensed host reset sets its indication and raises its event (06 R192); with a commit outstanding it is a port reset (07 R239). HRDY qualifies only since a release (06 R194), and a later fall does not withdraw the qualification but raises the HRDY-dropped event (06 R195). -/
def Obligations.ReleaseTimersAndHostSenses : Prop :=
  ((∀ (p : PortId) (s : State), (s.port p).brake = true →
    exec (.brakeMinElapsed p) s
      = .next { (s.modPort p fun x => { x with brakeMinDone := true }) with
                now := max s.now ((s.port p).brakeAt + (s.rel.records[p]).brakeMinMs * 1000000) })
  ∧ (∀ (p : PortId) (s : State), (s.port p).brake = false → exec (.brakeMinElapsed p) s = .next s)
  ∧ (∀ (p : PortId) (s : State), s.dark = false → (s.port p).state = .measured → s.edgesOk p = true →
    Completes (.settleElapsed p) s fun t =>
      t.port p = { s.port p with settleDone := true, edgesAt := some ((s.port p).edgesAt.getD s.now) } ∧ othersKept p s t
      ∧ t = { s with ports := t.ports, now := max s.now ((s.port p).edgesAt.getD s.now + (s.rel.records[p]).settleMs * 1000000) })
  ∧ ∀ (p : PortId) (s : State), (s.port p).state ≠ .measured ∨ s.edgesOk p = false → exec (.settleElapsed p) s = .next s)
  ∧ ((∀ (p : PortId) (s : State), (s.port p).brake = false → s.commitOutstanding p = false →
    Completes (.hostResetSensed p) s fun t =>
      t.port p = { s.port p with extReset := true, cntHostReset := (s.port p).cntHostReset + 1 } ∧ othersKept p s t ∧ onlyPorts s t
      ∧ raised t (20 * p.val + 12))
  ∧ (∀ (p : PortId) (s : State), (s.port p).brake = false → s.commitOutstanding p = true → (s.port p).state ≠ .isolated →
    Completes (.hostResetSensed p) s fun t =>
      (t.port p).state = .waiting ∧ (t.port p).brake = true ∧ (t.port p).extReset = true ∧ othersKept p s t ∧ raised t (20 * p.val + 12))
  ∧ ∀ (p : PortId) (s : State), (s.port p).brake = true → exec (.hostResetSensed p) s = .next s)
  ∧ ((∀ (p : PortId) (s : State), (s.port p).brake = false →
    exec (.hrdyQualified p) s = .next (s.modPort p fun x => { x with hrdyLevel := true, hrdyQ := true }))
  ∧ (∀ (p : PortId) (s : State), (s.port p).brake = true →
    exec (.hrdyQualified p) s = .next (s.modPort p fun x => { x with hrdyLevel := true }))
  ∧ (∀ (p : PortId) (s : State), (s.port p).brake = false → (s.port p).hrdyQ = true →
    Completes (.hrdyDropped p) s fun t =>
      t.port p = { s.port p with hrdyLevel := false } ∧ raised t (20 * p.val + 12) ∧ othersKept p s t ∧ onlyPorts s t)
  ∧ ∀ (p : PortId) (s : State), ((s.port p).brake = true ∨ (s.port p).hrdyQ = false) →
      exec (.hrdyDropped p) s = .next (s.modPort p fun x => { x with hrdyLevel := false }))

/-- HRDY_TMO non-zero and HRDY not qualified in time: the HRDY-timeout event, of severity Fault, and nothing else of the port changes but that record for R200 (06 R196). -/
def Obligations.HrdyTimeoutRaisesFault : Prop :=
  (∀ (p : PortId) (s : State), (s.port p).brake = false → (s.port p).hrdyQ = false → (s.port p).hrdyTmo = false →
      (s.rel.records[p]).tmo10ms ≠ 0 →
    Completes (.hrdyTimeout p) s fun t =>
      t.port p = { s.port p with hrdyTmo := true } ∧ raised t (20 * p.val + 13) ∧ severity (20 * p.val + 13) = some 2 ∧ othersKept p s t
      ∧ (s.mil.asleep = false → t.gov = s.gov ∧ t.mil = s.mil)
      ∧ t = { s with now := max s.now ((s.port p).releasedAt + (s.rel.records[p]).tmo10ms * 10 * 1000000), ports := t.ports, evt := t.evt, log := t.log, gov := t.gov, mil := t.mil })
  ∧ ∀ (p : PortId) (s : State), ((s.port p).brake = true ∨ (s.port p).hrdyQ = true ∨ (s.rel.records[p]).tmo10ms = 0) →
      exec (.hrdyTimeout p) s = .next s

/-- A port supply out of its range (06 R217): a port of the group in ARMING or MEASURING goes to FAILED, braked, with the supply event and its own, whatever it arms (the model's choice for a recovery option, DESIGN CHOICE log 20); a released one is contained with its brake asserted, a CONTAINED one stays so for its supply too (the model's choice, DESIGN CHOICE log 107), and the other groups keep their ports; the governor's measurement is recorded, and so is the return to a window, of which 10 ms restore the range (12 GOV_SUPPLY, 18 R534). A port reset (06 R213): the brake asserts, the port returns to WAITING, its trackers, re-reads, table, virtual device and allocations go and its staging session ends, and no other port changes; an ISOLATED port stays (04 R117). A reset that the part still owes stays owed (05 R182). It wakes a miller that sleeps (17 R519); its engine group is found in its idle state where no port of the group had demand for it (17 R514; log 33). -/
def Obligations.PortSupplyAndPortReset : Prop :=
  ((∀ (g : Fin 8) (high : Bool) (s : State), s.dark = false → Completes (.vioPgOutOfRange ⟨g, high⟩) s fun t =>
      t.gov.vioPg = s.gov.vioPg.set g .out ∧ t.gov.vioHigh.getLsbD g.val = high ∧ t.gov.vioBack.getLsbD g.val = false
      ∧ (∀ k : Fin 8, k ≠ g → t.gov.vioHigh.getLsbD k.val = s.gov.vioHigh.getLsbD k.val)
      ∧ (∀ p : PortId, p.val / 4 ≠ g.val → t.port p = s.port p)
      ∧ ∀ p : PortId, p.val / 4 = g.val →
          ((s.port p).state = .arming ∨ (s.port p).state = .measuring →
            (t.port p).state = .failed ∧ (t.port p).brake = true ∧ raised t (868 + g.val) ∧ raised t (20 * p.val + 10))
          ∧ ((s.port p).state = .contained → (t.port p).state = .contained ∧ ContainCause.supply ∈ (t.port p).causes)
          ∧ ((s.port p).state = .service ∨ (s.port p).state = .substitute →
            (t.port p).state = .contained ∧ (t.port p).brake = true ∧ ContainCause.supply ∈ (t.port p).causes))
  ∧ (∀ (g : Fin 8) (at33 : Bool) (s : State), Completes (.vioPgRestored g ⟨at33, true⟩) s fun t =>
      t.gov.vioPg = s.gov.vioPg.set g (if at33 then VioState.v33 else VioState.v18) ∧ t.gov.vioHigh.getLsbD g.val = at33
      ∧ t.gov.vioBack.getLsbD g.val = false ∧ (∀ k : Fin 8, k ≠ g → t.gov.vioHigh.getLsbD k.val = s.gov.vioHigh.getLsbD k.val)
      ∧ t = { s with gov := { s.gov with vioPg := t.gov.vioPg, vioHigh := t.gov.vioHigh, vioBack := t.gov.vioBack } })
  ∧ ∀ (g : Fin 8) (at33 : Bool) (s : State), Completes (.vioPgRestored g ⟨at33, false⟩) s fun t =>
      t.gov.vioPg = s.gov.vioPg ∧ (s.gov.vioPg[g] ≠ .out → t = s)
      ∧ (s.gov.vioPg[g] = .out → t.gov.vioHigh.getLsbD g.val = at33 ∧ t.gov.vioBack.getLsbD g.val = true)
      ∧ t = { s with gov := { s.gov with vioHigh := t.gov.vioHigh, vioBack := t.gov.vioBack } })
  ∧ ((∀ (p : PortId) (s : State), s.dark = false → (s.port p).state ≠ .isolated →
    Completes (.portResetBegin p) s fun t =>
      (t.port p).state = .waiting ∧ (t.port p).brake = true ∧ (t.port p).brakeMinDone = false ∧ (t.port p).trackers = []
      ∧ (t.port p).failures = [] ∧ (t.port p).table = [] ∧ (t.port p).staging = none ∧ (t.port p).transients = (s.port p).transients
      ∧ (t.port p).mode = none ∧ (t.port p).fport = 0 ∧ (t.port p).advDummy = 0 ∧ (t.port p).profile = 0 ∧ (t.port p).addr4 = false
      ∧ (t.port p).cntVerdict = (s.port p).cntVerdict ∧ othersKept p s t
      ∧ (∀ e ∈ t.pond.extents, e.2.port ≠ p) ∧ (∀ g ∈ t.pond.granules, g.2.ownedBy p = true → g.2.state = .bad)
      ∧ ((s.port p).partBusy = true ∨ (s.port p).partResetDue = true → (t.port p).partResetDue = true)
      ∧ (∀ d : Fin 24, d.val ≠ 11 + p.val / 4 → t.gov.dom[d] = s.stir.gov.dom[d])
      ∧ t = { s.stir with
          ports := t.ports,
          pond := t.pond,
          gov := { s.stir.gov with dom := t.gov.dom } })
  ∧ ∀ (p : PortId) (s : State), s.dark = false → (s.port p).state = .isolated → exec (.portResetBegin p) s = .next s.stir)

/-- A low pulse of 75 or more 1 ns samples on Pn_HRST# asks for a virtual-device reset (02 R74); the reset returns the host side to 1S-1S-1S with the configured address mode, clears WEL, WIP and the protection error, restores the configured status, ends held and absorbed operations (02 R75, R78), resets the real parts by the configured method and programs N_real into each again (02 R53, R76) and brings them to the address mode that matches (02 R80); the recovery then ends (02 R77, R79). Nothing goes out on the tri-stated tailrace of an ISOLATED port (14 R453). A reset of the parts that a brake alone asks for (05 R182) leaves the virtual device as it is. -/
def Obligations.VirtualDeviceResets : Prop :=
  (∀ (p : PortId) (n : Nat) (s : State), s.dark = false → 75 ≤ n → (s.port p).cfg.isSome = true →
    exec (.hrstPulse p n) s = .next (s.modPort p fun x => { x with vdResetDue := true, vdReady := false, rstEnable := false }))
  ∧ (∀ (p : PortId) (n : Nat) (s : State), n < 75 → exec (.hrstPulse p n) s = .next s)
  ∧ (∀ (p : PortId) (c : PortCfg) (s : State), s.dark = false → s.recoveryCfg p = some c → (s.port p).vdResetDue = true →
      ((s.port p).brake = false ∨ (s.port p).partBusy = false) → (s.port p).state ≠ .isolated →
    Completes (.virtualDeviceReset p) s fun t =>
      (t.port p).mode = some .s111 ∧ (t.port p).addr4 = c.addr4 ∧ (t.port p).wel = false ∧ (t.port p).wip = false ∧ (t.port p).protErr = false
      ∧ (t.port p).sr = c.srInit ∧ (t.port p).extAddr = 0 ∧ (t.port p).held = none ∧ (t.port p).absorbed = none
      ∧ (t.port p).vdResetDue = false ∧ (t.port p).recoveringVd = true ∧ (t.port p).vdReady = false
      ∧ (t.port p).state = (s.port p).state ∧ (t.port p).brake = (s.port p).brake
      ∧ (t.port p).real.mode = .s111 ∧ ((s.port p).cfg = some c → (t.port p).real.addr4 = c.addr4)
      ∧ (∀ x, (s.port p).cfg = some c → (s.port p).sfdp0 = some x →
          (t.port p).real.dummy0 = some (nRealOf x c.fastRead) ∧ Out.partDummy p false (nRealOf x c.fastRead) ∈ t.out)
      ∧ (∀ x, (s.port p).cfg = some c → (s.port p).sfdp1 = some x →
          (t.port p).real.dummy1 = some (nRealOf x c.fastRead) ∧ Out.partDummy p true (nRealOf x c.fastRead) ∈ t.out)
      ∧ (∃ rest, t.out = s.out ++ Out.partReset p c.resetMethod :: rest) ∧ othersKept p s t ∧ t = { s with ports := t.ports, out := t.out })
  ∧ (∀ (p : PortId) (c : PortCfg) (s : State), s.dark = false → s.recoveryCfg p = some c → (s.port p).vdResetDue = false → (s.port p).partResetDue = true →
      ((s.port p).brake = false ∨ (s.port p).partBusy = false) → (s.port p).state ≠ .isolated →
    Completes (.virtualDeviceReset p) s fun t =>
      (t.port p).partResetDue = false ∧ (t.port p).mode = (s.port p).mode ∧ (t.port p).wel = (s.port p).wel ∧ (t.port p).state = (s.port p).state
      ∧ (∃ rest, t.out = s.out ++ Out.partReset p c.resetMethod :: rest) ∧ othersKept p s t ∧ t = { s with ports := t.ports, out := t.out })
  ∧ (∀ (p : PortId) (s : State), (s.port p).state = .isolated → exec (.virtualDeviceReset p) s = .next s)
  ∧ (∀ (p : PortId) (s : State), s.dark = false → (s.port p).recoveringVd = true →
    exec (.virtualDeviceRecovery p) s
      = .next { (s.modPort p fun x => { x with recoveringVd := false, vdReady := true }) with now := max s.now (s.port p).recoverDue })
  ∧ ∀ (p : PortId) (s : State), (s.port p).recoveringVd = false → exec (.virtualDeviceRecovery p) s = .next s

/-! ### Host transactions and the tailrace -/

/-- A transaction touches only its own port, the millpond, the blocks its data brings to the stones, whose domains are settled first (log 33), the events, the log and the outputs; a miller that sleeps is woken by an event that needs it (01 R24; log 106), and one that is awake stays as it is. On a port that does not serve it does nothing but move Pn_HCS# (06 R189), with which a remap that waited for its rise is made (02 R49; log 76). -/
def Obligations.HostTransactionFrame : Prop :=
  (∀ (t : HostTxn) (s u : State), exec (.hostTransaction t) s = .next u →
    othersKept t.port s u
    ∧ (s.mil.asleep = false → u.mil = s.mil ∧ u.gov = { s.gov with dom := u.gov.dom })
    ∧ (u.mil = s.mil ∨ u.mil = { s.mil with asleep := false })
    ∧ u.gov = { s.gov with
        state := u.gov.state,
        dom := u.gov.dom,
        wokenAt := u.gov.wokenAt,
        corePll := u.gov.corePll,
        pkePll := u.gov.pkePll,
        millerPll := u.gov.millerPll }
    ∧ u = { s with
        ports := u.ports,
        pond := u.pond,
        fab := u.fab,
        dge := u.dge,
        evt := u.evt,
        log := u.log,
        out := u.out,
        fresh := u.fresh,
        gov := u.gov,
        mil := u.mil })
  ∧ (∀ (t : HostTxn) (s : State), (s.port t.port).brake = true ∨ ((s.port t.port).state ≠ .service ∧ (s.port t.port).state ≠ .substitute) →
      exec (.hostTransaction t) s = .next (s.modPort t.port fun x => { x with
        hcsLow := t.stays,
        poison := false,
        hdqs := false,
        remap := if t.stays = true ∨ x.brake = false then x.remap
          else match x.cfg, x.source.slotId with | some c, some i => (c.cs i, c.base i) | _, _ => (false, 0) }))

/-- The virtual device's answers (02 R40, R54, 05 R165): 0x06 sets the virtual WEL and is mirrored unless an issue interval holds the tailrace (05 R174), 0x05 reads the virtual status register in every data cycle, and an opcode that nothing names is cancelled with its event. A read inside one VALID granule of a resident-verify region is answered from the millpond, at the offset the address names (01 R15, 04 R126); a read that meets an INVALID granule in its first bytes gives 0xFF in every data cycle and contains the port, braked (04 R126). -/
def Obligations.HostReadsAreAnswered : Prop :=
  ((∀ (t : HostTxn) (q : Sfdp) (s : State), hostReady (s.port t.port) → hostDecodes s t q (some 6) → t.op = 0x06 →
      (s.port t.port).statusRead 0x06 = none →
    Completes (.hostTransaction t) s fun u =>
      (u.port t.port).wel = true ∧ (u.port t.port).state = .service ∧ u.pond = s.pond
      ∧ ((s.port t.port).issuing = false →
          u.out = s.out ++ [Out.tail t.port (!(s.port t.port).activeCs) (s.port t.port).activeCs 0x06 none []])
      ∧ ((s.port t.port).issuing = true → u.out = s.out))
  ∧ (∀ (t : HostTxn) (q : Sfdp) (s : State), hostReady (s.port t.port) → hostDecodes s t q (some 4) → t.op = 0x05 →
      0 < t.clocked →
    Completes (.hostTransaction t) s fun u =>
      u.out = s.out ++ [Out.host t.port (List.replicate t.clocked
        (BitVec.ofNat 8 ((s.port t.port).sr.toNat / 4 * 4 + 2 * bit (s.port t.port).wel + bit (s.port t.port).wip)))]
      ∧ (u.port t.port).wel = (s.port t.port).wel ∧ u.pond = s.pond)
  ∧ ∀ (t : HostTxn) (q : Sfdp) (s : State), hostReady (s.port t.port) → hostDecodes s t q none →
      (s.port t.port).statusRead t.op = none →
    Completes (.hostTransaction t) s fun u =>
      (u.port t.port).cntCancel = (s.port t.port).cntCancel + 1 ∧ raised u (20 * t.port.val + 7) ∧ u.out = s.out
      ∧ (u.port t.port).wel = (s.port t.port).wel ∧ (u.port t.port).held = (s.port t.port).held)
  ∧ ((∀ (t : HostTxn) (q : Sfdp) (m : MillMap) (c : PortCfg) (k n a : Nat) (r : Region) (g : Granule) (s : State),
      hostReady (s.port t.port) → hostDecodes s t q (some 1) → (s.port t.port).statusRead t.op = none →
      (s.port t.port).map = some m → (s.port t.port).cfg = some c → (s.port t.port).virtAddr c.v t.addrBytes t.addr = a → a < c.v →
      m.regionOf a = some (k, r) → r.policy = 1 → 0 < t.clocked → a + t.clocked ≤ r.start + r.len → a % 4096 + t.clocked ≤ 4096 →
      s.pond.granuleAt t.port (a / 4096 * 4096) = some (n, g) → g.state = .valid → t.ecc = .ok → t.op = 0x0B →
      t.addrBytes = knownAddrBytes (s.port t.port) t.op →
    Completes (.hostTransaction t) s fun u =>
      Out.host t.port (slice g.data (a % 4096) t.clocked) ∈ u.out ∧ u.pond = s.pond ∧ (u.port t.port).state = .service
      ∧ (u.port t.port).brake = false)
  ∧ ∀ (t : HostTxn) (q : Sfdp) (m : MillMap) (c : PortCfg) (k n a : Nat) (r : Region) (g : Granule) (s : State),
      hostReady (s.port t.port) → hostDecodes s t q (some 1) → (s.port t.port).statusRead t.op = none →
      (s.port t.port).map = some m → (s.port t.port).cfg = some c → (s.port t.port).virtAddr c.v t.addrBytes t.addr = a → a < c.v →
      m.regionOf a = some (k, r) → r.policy = 1 → 0 < t.clocked → a + t.clocked ≤ r.start + r.len → a % 4096 + t.clocked ≤ 4096 →
      s.pond.granuleAt t.port (a / 4096 * 4096) = some (n, g) → g.state = .invalid → t.ecc = .ok → t.op = 0x0B →
      t.addrBytes = knownAddrBytes (s.port t.port) t.op →
    Completes (.hostTransaction t) s fun u =>
      Out.host t.port (List.replicate t.clocked 0xFF) ∈ u.out ∧ (u.port t.port).state = .contained ∧ (u.port t.port).brake = true
      ∧ (u.port t.port).cntPond = (s.port t.port).cntPond + 1 ∧ raised u (20 * t.port.val + 4) ∧ Out.poison t.port ∈ u.out)

/-- A page program under the defaults of 05 R165: with the virtual WEL clear it only counts (05 R171); where the region check of R169 and R170 passes it is Held and nothing is driven on the tailrace yet (02 R41); where it fails the command is absorbed with its event (02 R57, 05 R184). -/
def Obligations.HeldProgramIsChecked : Prop :=
  (∀ (t : HostTxn) (q : Sfdp) (s : State), hostReady (s.port t.port) → hostDecodes s t q (some 2) →
      (s.port t.port).wel = false →
    Completes (.hostTransaction t) s fun u =>
      (u.port t.port).cntCancel = (s.port t.port).cntCancel + 1 ∧ u.out = s.out ∧ (u.port t.port).held = (s.port t.port).held)
  ∧ ∀ (t : HostTxn) (q : Sfdp) (m : MillMap) (c : PortCfg) (s : State), hostReady (s.port t.port) → hostDecodes s t q (some 2) →
      (s.port t.port).wel = true → (s.port t.port).map = some m → (s.port t.port).cfg = some c → t.addrBytes = knownAddrBytes (s.port t.port) t.op →
      0 < t.addrBytes → t.addr < 256 ^ t.addrBytes → t.partialByte = false → t.sent ≠ [] → (s.port t.port).held = none →
      (s.port t.port).absorbed = none →
    Completes (.hostTransaction t) s fun u =>
      (u.port t.port).wip = true ∧ u.out = s.out
      ∧ ((regionCheck (s.port t.port) m c.v (defaultEntry (s.port t.port) t.op 2 0) ((s.port t.port).virtAddr c.v t.addrBytes t.addr)).ok = true →
          (∃ h, (u.port t.port).held = some h ∧ h.op = t.op ∧ h.cls = 2 ∧ h.phase = .waiting) ∧ (u.port t.port).cntPass = (s.port t.port).cntPass + 1)
      ∧ ((regionCheck (s.port t.port) m c.v (defaultEntry (s.port t.port) t.op 2 0) ((s.port t.port).virtAddr c.v t.addrBytes t.addr)).ok = false →
          (u.port t.port).held = none ∧ (∃ a, (u.port t.port).absorbed = some a ∧ a.cls = 2) ∧ (u.port t.port).welClearDue = true
          ∧ (u.port t.port).cntAbsorb = (s.port t.port).cntAbsorb + 1 ∧ raised u (20 * t.port.val + 6))

/-- What follows a Held command on the tailrace (02 R41, R55, R60, 05 R173 to R175): it is issued after 0x06, its completion clears WEL and WIP, an absorbed one leaves 0x04, and the WIP of a mode entry ends. With the brake asserted a command still in its issue interval goes out first, and the part's WIP 0 then ends the passed operations and leaves the parts' reset of R76 to be made (05 R182). An absorbed operation ends at its typical time: WEL and WIP clear (02 R55, R57), and the profile's indications are set (02 R58). A passed suspend and a passed resume go to the real part on its chip select, without 0x06 (05 R178, R180, R181). -/
def Obligations.HeldAndAbsorbedOperationsEnd : Prop :=
  ((∀ (p : PortId) (h : Held) (s : State), s.dark = false → (s.port p).resetFirst = false → (s.port p).held2 = none → (s.port p).held = some h → h.phase = .waiting →
    Completes (.heldCommandIssue p) s fun t =>
      t.out = s.out ++ [Out.tail p (!h.cs) h.cs 0x06 none [], Out.tail p (!h.cs) h.cs h.op h.addr h.data h.addrBytes h.dummy]
      ∧ (t.port p).held = some { h with phase := .executing } ∧ (t.port p).wip = (s.port p).wip ∧ othersKept p s t
      ∧ t = { s with ports := t.ports, out := t.out })
  ∧ (∀ (p : PortId) (h : Held) (s : State), s.dark = false → (s.port p).brake = false → (s.port p).suspendNext = false → (s.port p).held2 = none → (s.port p).held = some h →
      h.phase = .executing →
    Completes (.statusPoll p false) s fun t =>
      (t.port p).held = none ∧ (h.cls = 2 ∨ h.cls = 3 ∨ h.cls = 5 → (t.port p).wel = false)
      ∧ ((s.port p).absorbed = none → (s.port p).absorbed2 = none → (s.port p).resumeDue.isSome = false → (t.port p).wip = false)
      ∧ othersKept p s t ∧ t = { s with ports := t.ports })
  ∧ (∀ (p : PortId) (s : State), exec (.statusPoll p true) s = .next s)
  ∧ (∀ (p : PortId) (s : State), s.dark = false → (s.port p).brake = true → (s.port p).issuing = false →
    Completes (.statusPoll p false) s fun t =>
      (t.port p).held = none ∧ (t.port p).held2 = none ∧ (t.port p).suspendDue = none ∧ (t.port p).resumeDue = none
      ∧ (t.port p).wel = (s.port p).wel ∧ (t.port p).partResetDue = ((s.port p).partResetDue || (s.port p).held.isSome || (s.port p).held2.isSome) ∧ othersKept p s t
      ∧ t = { s with ports := t.ports })
  ∧ (∀ (p : PortId) (s : State), (s.port p).brake = true → (s.port p).issuing = true → exec (.statusPoll p false) s = .next s)
  ∧ (∀ (p : PortId) (s : State), s.dark = false → (s.port p).welClearDue = true →
    exec (.absorbWelClear p) s
      = .next ((s.modPort p fun x => { x with welClearDue := false }).emit
          (.tail p (!(s.port p).activeCs) (s.port p).activeCs 0x04 none [])))
  ∧ (∀ (p : PortId) (s : State), (s.port p).welClearDue = false → exec (.absorbWelClear p) s = .next s)
  ∧ (∀ (p : PortId) (s : State), s.dark = false → (s.port p).wipMode = true →
    exec (.modeEntryWipExpiry p) s = .next (s.modPort p fun x => { x with wipMode := false, wip := false })))
  ∧ ((∀ (p : PortId) (a : Absorbed) (s : State), s.dark = false → (s.port p).absorbed2 = none → (s.port p).absorbed = some a → a.left = none →
    Completes (.absorbEmulationExpiry p) s fun t =>
      (t.port p).absorbed = none ∧ (a.cls = 2 ∨ a.cls = 3 ∨ a.cls = 5 → (t.port p).wel = false)
      ∧ ((s.port p).profile ≠ 1 → (t.port p).protErr = true) ∧ ((s.port p).profile = 1 → (t.port p).protErr = (s.port p).protErr)
      ∧ t.now = max s.now a.due ∧ othersKept p s t ∧ t = { s with ports := t.ports, now := t.now })
  ∧ (∀ (p : PortId) (a : Absorbed) (d : Nat) (s : State), s.dark = false → (s.port p).absorbed = some a → a.suspDue = some d →
    Completes (.suspendLatencyExpiry p) s fun t =>
      (t.port p).absorbed = some { a with suspDue := none } ∧ t.now = max s.now d ∧ othersKept p s t
      ∧ (a.left.isSome = true → (s.port p).held = none → (s.port p).held2 = none → (s.port p).absorbed2 = none
          → (s.port p).resumeDue.isSome = false → (t.port p).wip = false)))
  ∧ ((∀ (p : PortId) (op : Byte) (h : Held) (s : State), s.dark = false → (s.port p).resetFirst = false → (s.port p).suspendDue = some op → (s.port p).held = some h → h.phase = .executing →
    exec (.suspendIssue p) s
      = .next ((s.modPort p fun x => { x with suspendDue := none, held := some { h with phase := .suspending } }).emit
          (.tail p (!h.cs) h.cs op none [])))
  ∧ (∀ (p : PortId) (op : Byte) (h : Held) (s : State), s.dark = false → (s.port p).resetFirst = false → (s.port p).resumeDue = some op → (s.port p).held = some h →
      (s.port p).held2 = none → h.phase = .suspended →
    Completes (.heldResumeIssue p) s fun t =>
      t.out = s.out ++ [Out.tail p (!h.cs) h.cs op none []] ∧ (t.port p).held = some { h with phase := .executing }
      ∧ (t.port p).resumeDue = none ∧ othersKept p s t ∧ t = { s with ports := t.ports, out := t.out })
  ∧ (∀ (p : PortId) (s : State), (s.port p).suspendDue = none → exec (.suspendIssue p) s = .next s)
  ∧ (∀ (p : PortId) (s : State), (s.port p).resumeDue = none → exec (.heldResumeIssue p) s = .next s)
  ∧ (∀ (p : PortId) (s : State), (s.port p).vdResetDue = true → (s.port p).brake = false → exec (.heldCommandIssue p) s = .next s
      ∧ exec (.suspendIssue p) s = .next s ∧ exec (.heldResumeIssue p) s = .next s)
  ∧ ∀ (p : PortId) (b : Bool) (op : Byte) (h : Held) (s : State), (s.port p).brake = false → (s.port p).suspendDue = some op →
      (s.port p).held2 = none → (s.port p).held = some h → h.phase = .executing → exec (.statusPoll p b) s = .next s)

/-! ### Stream verification, verdicts, containment -/

/-- A completion read extends the first open epoch that is not complete and not paused, no sooner than Pn_HCS# has risen (04 R135, R137); it waits where 02 R556 makes it wait for the brake, and nothing but its port, the outputs and the stones' work changes. The verdict of a complete epoch whose leaf table is not being read again (04 R127, R130, R134, R142, R145): it passes only when the digest that its stone produced is its tree entry and the tallies agree; a pass frees its tracker, and a failure contains a serving port, braked, and waits for its re-reads. An epoch that reaches its deadline counts and raises the deadline event; the port is contained only where its region's DEADLINE_CONTAIN says so (04 R138, R140, 03 R89). -/
def Obligations.EpochsAreVerified : Prop :=
  ((∀ (p : PortId) (data : List Byte) (t : Tracker) (ts : List Tracker) (v s : State), s.dark = false → (s.port p).state = .service ∨ (s.port p).state = .contained →
      (s.port p).hcsLow = false → (s.port p).trackers = t :: ts → t.bytes.length < 65536 → t.paused = none → s.completionTransfer p t data.length = some v →
    Completes (.completionRead p data) s fun u =>
      (∃ t', (u.port p).trackers = t' :: ts ∧ t'.bytes = t.bytes ++ data.take (65536 - t.bytes.length) ∧ t'.tHost = t.tHost
        ∧ t'.region = t.region ∧ t'.leaf = t.leaf ∧ (t.spans = [] → t'.tDev = t.tDev))
      ∧ (u.port p).state = (s.port p).state ∧ othersKept p s u ∧ u.out = v.out
      ∧ u = { s with
          ports := u.ports,
          out := u.out,
          fab := u.fab,
          dge := u.dge,
          gov := { s.gov with dom := u.gov.dom } })
  ∧ (∀ (p : PortId) (data : List Byte) (t : Tracker) (ts : List Tracker) (s : State), (s.port p).trackers = t :: ts → t.bytes.length < 65536 →
      t.paused = none → s.completionTransfer p t data.length = none → exec (.completionRead p data) s = .next s)
  ∧ ∀ (p : PortId) (data : List Byte) (s : State), (((s.port p).state ≠ .service ∧ (s.port p).state ≠ .contained) ∨ (s.port p).hcsLow = true) →
      exec (.completionRead p data) s = .next s)
  ∧ ((∀ (p : PortId) (stone : Fin 32) (bad : Option D256) (t : Tracker) (s : State), s.dark = false → (s.port p).state = .service →
      (s.port p).trackers.find? (s.port p).judged = some t →
    Completes (.epochVerdict p ⟨stone, bad⟩) s fun u => othersKept p s u ∧ u.pond = s.pond
      ∧ (u.port p).trackers.length + 1 = (s.port p).trackers.length
      ∧ (s.pond.leafEntry p t.region t.leaf = some (bad.getD (leafDigest t.bytes)) ∧ t.tHost = t.tDev →
          (u.port p).state = .service ∧ (u.port p).brake = (s.port p).brake ∧ (u.port p).failures = (s.port p).failures)
      ∧ (s.pond.leafEntry p t.region t.leaf ≠ some (bad.getD (leafDigest t.bytes)) ∨ t.tHost ≠ t.tDev →
          (u.port p).state = .contained ∧ (u.port p).brake = true ∧ ContainCause.verdict ∈ (u.port p).causes
          ∧ (u.port p).failures.length = (s.port p).failures.length + 1))
  ∧ ∀ (p : PortId) (stone : Fin 32) (bad : Option D256) (s : State),
      (∀ t ∈ (s.port p).trackers, t.complete = false ∨ (s.port p).reloads.contains t.region = true) →
      exec (.epochVerdict p ⟨stone, bad⟩) s = .next s)
  ∧ ((∀ (p : PortId) (t : Tracker) (s : State), s.dark = false → (s.port p).state = .service → (s.port p).nextDue = some t →
    Completes (.epochDeadline p) s fun u =>
      (u.port p).cntDeadline = (s.port p).cntDeadline + 1 ∧ raised u (20 * p.val + 2) ∧ othersKept p s u ∧ u.now = max s.now t.due
      ∧ ((s.port p).deadlineContains t.region = true → (u.port p).state = .contained ∧ (u.port p).brake = true)
      ∧ ((s.port p).deadlineContains t.region = false → (u.port p).state = .service ∧ (u.port p).brake = (s.port p).brake))
  ∧ ∀ (p : PortId) (s : State), (s.port p).nextDue = none → exec (.epochDeadline p) s = .next s)

/-- The hardware re-reads of a verdict failure give their results and the verdict-failure event, and contain nothing further (04 R145). The miller's classification of a failure whose known-answer test passed (04 R145 to R147), in ascending port number: a re-read that agreed, the first or the second, is a transient, counted with its event; one that did not, or the sixth within 60 s, is permanent, the slot is retired with FAIL_CODE 0x12 and the port recovers, braked, once its settings write stands; one that does not stand leaves the failure waiting, and the copy of the record that it spoils is log 65's. A failure whose known-answer test failed too, while a re-read agreed, is released: it is no transient of the port's. A containment ends in MEASURED, still braked, with the virtual device to be reset, only when no failure, open epoch, alarm, supply or INVALID granule holds the port (04 R117, R126, R140, 06 R203, R217, 15 R483). -/
def Obligations.VerdictsAreClassified : Prop :=
  ((∀ (p : PortId) (kat : Bool) (a b : List Byte) (f : VerdictFail) (rest : List VerdictFail) (s : State), s.dark = false →
      (s.port p).failures = f :: rest → f.done = false →
    Completes (.verdictRereadDone p kat a b) s fun u =>
      (∃ g, (u.port p).failures = g :: rest ∧ g.done = true ∧ g.cause = f.cause ∧ g.katPass = kat ∧ g.time = s.now
        ∧ (g.r1 = true ↔ s.unitDigest p f.cause = some (leafDigest a)) ∧ (g.r1 = true → g.r2 = none)
        ∧ (g.r1 = false → (g.r2 = some true ↔ s.unitDigest p f.cause = some (leafDigest b))))
      ∧ (u.port p).cntVerdict = (s.port p).cntVerdict + 1 ∧ raised u (20 * p.val) ∧ (u.port p).state = (s.port p).state
      ∧ othersKept p s u
      ∧ u = { s.stir with
          ports := u.ports,
          evt := u.evt,
          log := u.log,
          out := u.out,
          fab := u.fab,
          dge := u.dge,
          gov := { s.stir.gov with dom := u.gov.dom } })
  ∧ ∀ (p : PortId) (kat : Bool) (a b : List Byte) (s : State), (s.port p).failures = [] → exec (.verdictRereadDone p kat a b) s = .next s)
  ∧ ((∀ (p : PortId) (retest : Bool) (f : VerdictFail) (rest : List VerdictFail) (i : SlotId) (s : State),
      (s.port p).failures = f :: rest → f.done = true → s.millerRuns = true → (s.port p).state = .contained → s.classTurn p = true →
      s.gov.vioHome = true → f.katPass = true → f.r1 = false → f.r2 = some false → (s.port p).source = .slot i →
    Completes (.verdictClassify p true retest) s fun u =>
      (u.slot p i).state = .retired ∧ (u.slot p i).failCode = 0x12 ∧ raised u (20 * p.val + 18) ∧ (u.port p).brake = true
      ∧ ((u.port p).state = .recovering ∨ (u.port p).state = .failed) ∧ othersKept p s u)
  ∧ (∀ (p : PortId) (retest : Bool) (f : VerdictFail) (rest : List VerdictFail) (i : SlotId) (s : State),
      (s.port p).failures = f :: rest → f.done = true → s.millerRuns = true → (s.port p).state = .contained → s.classTurn p = true →
      s.gov.vioHome = true → f.katPass = true → (s.port p).source = .slot i →
      5 ≤ ((s.port p).transients.filter fun t => decide (f.time < t + 60000000000) && decide (t < f.time)).length →
    Completes (.verdictClassify p true retest) s fun u =>
      (u.slot p i).state = .retired ∧ (u.slot p i).failCode = 0x12 ∧ raised u (20 * p.val + 18) ∧ (u.port p).brake = true)
  ∧ (∀ (p : PortId) (ok retest : Bool) (f : VerdictFail) (rest : List VerdictFail) (s : State),
      (s.port p).failures = f :: rest → f.katPass = true → f.r1 = false → f.r2 = some false → s.gov.vioHome = false →
      exec (.verdictClassify p ok retest) s = .next s)
  ∧ (∀ (p : PortId) (retest : Bool) (f : VerdictFail) (rest : List VerdictFail) (i : SlotId) (s : State),
      (s.port p).failures = f :: rest → f.done = true → s.millerRuns = true → (s.port p).state = .contained → s.classTurn p = true →
      s.gov.vioHome = true → f.katPass = true → f.r1 = false → f.r2 = some false → (s.port p).source = .slot i →
    Completes (.verdictClassify p false retest) s fun u =>
      u.ports = s.ports ∧ (u.slot p i).state = (s.slot p i).state ∧ u = { s with store := u.store })
  ∧ (∀ (p : PortId) (ok retest : Bool) (f : VerdictFail) (rest : List VerdictFail) (s : State),
      (s.port p).failures = f :: rest → f.done = true → s.millerRuns = true → (s.port p).state = .contained → s.classTurn p = true →
      f.katPass = false → (f.r1 = true ∨ f.r2 = some true) →
    Completes (.verdictClassify p ok retest) s fun u =>
      (u.port p).failures = rest ∧ (u.port p).transients = (s.port p).transients ∧ (u.port p).cntTransient = (s.port p).cntTransient
      ∧ ((s.port p).brake = true → (u.port p).brake = true) ∧ raised u (20 * p.val + 1) ∧ u.store = s.store)
  ∧ (∀ (p : PortId) (ok retest : Bool) (f : VerdictFail) (rest : List VerdictFail) (s : State),
      (s.port p).failures = f :: rest → f.done = true → s.millerRuns = true → (s.port p).state = .contained → s.classTurn p = true →
      f.katPass = true → (f.r1 = true ∨ f.r2 = some true) → (s.port p).transients = [] →
    Completes (.verdictClassify p ok retest) s fun u =>
      (u.port p).transients = [f.time] ∧ (u.port p).cntTransient = (s.port p).cntTransient + 1 ∧ (u.port p).failures = rest
      ∧ raised u (20 * p.val + 1) ∧ u.store = s.store ∧ othersKept p s u)
  ∧ (∀ (p q : PortId) (ok retest : Bool) (g : VerdictFail) (gs : List VerdictFail) (s : State), q < p → (s.port q).state = .contained →
      (s.port q).failures = g :: gs → g.done = true → exec (.verdictClassify p ok retest) s = .next s)
  ∧ ∀ (p : PortId) (ok retest : Bool) (s : State), s.millerRuns = false → exec (.verdictClassify p ok retest) s = .next s)
  ∧ ((∀ (p : PortId) (s : State), s.millerRuns = true → s.mayLeave p = true →
    Completes (.containmentEnd p) s fun t =>
      (t.port p).state = .measured ∧ (t.port p).brake = (s.port p).brake ∧ (t.port p).vdResetDue = true ∧ (t.port p).vdReady = false
      ∧ (t.port p).causes = [] ∧ (t.port p).settleDone = false ∧ othersKept p s t ∧ t = { s with ports := t.ports })
  ∧ (∀ (p : PortId) (s : State), (((s.port p).failures ≠ [] ∨ (s.port p).trackers ≠ [] ∨ (s.port p).containBy ≠ []) ∧ (s.port p).causes.contains .lost = false
        ∨ (s.port p).state ≠ .contained ∨ s.millerRuns = false) →
      exec (.containmentEnd p) s = .next s)
  ∧ ∀ (p : PortId) (s : State), (s.port p).state = .contained → (s.port p).causes.contains .lost = true → s.millerRuns = true →
    Completes (.containmentEnd p) s fun t => (t.port p).brake = true ∧ (t.port p).state ≠ .contained ∧ (t.port p).state ≠ .measured ∧ othersKept p s t)

/-- The scrub pass (04 R124, R125): it reads the next granule in ascending number; one whose content still has its digest stays, one whose content does not becomes INVALID, and no other granule changes, or takes the port of an adapter's substitute, braked, to its recovery, for which the miller wakes (01 R24, 07 R253); with no granule to read, the tree store's own words are still checked (04 R124, R127). The refill of an INVALID granule (04 R125, R126), where its read need not wait (02 R556): content for which its stone produces the stored digest makes it VALID; other content is a verdict failure of the port, braked. A stone's rows (04 R149 to R152, 10 R321): a block that completes frees its stone and marks it slow by the mean time of its last blocks, against 80 ns for a block of the SHA-512 family and 64 ns for one of SHA-256 (R150); a known-answer test's blocks run on their own stone in class 1, and a passing one clears what the stone touched; a stone that has not completed its block in time gives it back for another stone to take, and its retest makes this a transient, or with the fifth within 60 s or a failed retest retires it, each with its event; a known-answer test that fails does the same; a stone with no block in flight cannot time out. What a stone's outcome is, its row says (log 2), and a known-answer test's blocks are the model's reading (DEDUCED log 43). -/
def Obligations.ScrubAndStonesRun : Prop :=
  ((∀ (data : List Byte) (n : Nat) (g : Granule) (p : PortId) (s : State), s.dark = false → s.pond.nextScrub = some (n, g) → g.hold = none → g.owner = some p →
      tblGet s.pond.granules n = some g → (s.port p).source ≠ .adapter →
    Completes (.scrubGranule data .ok .ok) s fun t =>
      t.pond.scrubPos = (n + 1) % 12288
      ∧ (g.digest = some (leafDigest data) → t.pond.granules = s.pond.granules)
      ∧ (g.digest ≠ some (leafDigest data) → t.pond.granules = tblSet s.pond.granules n { g with state := .invalid })
      ∧ t = { s with
          pond := t.pond,
          fab := t.fab,
          dge := t.dge,
          gov := { s.gov with dom := t.gov.dom } })
  ∧ (∀ (data : List Byte) (n : Nat) (g : Granule) (p : PortId) (s : State), s.dark = false → s.pond.nextScrub = some (n, g) → g.hold = none →
      g.owner = some p → tblGet s.pond.granules n = some g → (s.port p).source = .adapter → g.digest ≠ some (leafDigest data) →
    Completes (.scrubGranule data .ok .ok) s fun t =>
      (t.port p).brake = true ∧ (t.port p).state ∈ [PortState.contained, .recovering, .failed] ∧ t.mil.asleep = false ∧ othersKept p s t)
  ∧ (∀ (data : List Byte) (ecc : Ecc) (s : State), s.pond.nextScrub = none → exec (.scrubGranule data ecc .ok) s = .next s)
  ∧ ∀ (data : List Byte) (ecc : Ecc) (p : PortId) (s : State), s.dark = false → s.pond.nextScrub = none →
    Completes (.scrubGranule data ecc (.corrected p)) s fun t =>
      (t.port p).cntEcc = (s.port p).cntEcc + 1 ∧ raised t (20 * p.val + 5) ∧ t.pond = s.pond ∧ othersKept p s t)
  ∧ ((∀ (n : Fin 12288) (data : List Byte) (stone : Fin 32) (bad : Option D256) (g : Granule) (d : D256) (p : PortId) (v s : State), s.dark = false →
      tblGet s.pond.granules n.val = some g → g.owner = some p → g.state = .invalid → g.digest = some d →
      ((s.port p).state = .measuring → s.armFree p = true) →
      s.devRead p (s.port p).activeCs ((s.port p).activeBase + g.va) 4096 (s.port p).halfRate = some v →
    Completes (.granuleRefillDone n data .ok ⟨stone, bad⟩) s fun t => othersKept p s t
      ∧ (d = bad.getD (leafDigest data) → t.pond.granules = tblSet s.pond.granules n.val { g with state := .valid, data := data })
      ∧ (d ≠ bad.getD (leafDigest data) → (s.port p).granuleFailing n.val = false → (s.port p).state = .service →
          t.pond = s.pond ∧ (t.port p).state = .contained ∧ (t.port p).brake = true
          ∧ (t.port p).failures.length = (s.port p).failures.length + 1))
  ∧ (∀ (n : Fin 12288) (data : List Byte) (ecc : Ecc) (stone : Fin 32) (bad : Option D256) (g : Granule) (p : PortId) (s : State),
      tblGet s.pond.granules n.val = some g → g.owner = some p →
      s.devRead p (s.port p).activeCs ((s.port p).activeBase + g.va) 4096 (s.port p).halfRate = none →
      exec (.granuleRefillDone n data ecc ⟨stone, bad⟩) s = .next s)
  ∧ ∀ (n : Fin 12288) (data : List Byte) (ecc : Ecc) (stone : Fin 32) (bad : Option D256) (s : State), tblGet s.pond.granules n.val = none →
      exec (.granuleRefillDone n data ecc ⟨stone, bad⟩) s = .next s)
  ∧ ((∀ (n : Fin 32) (mean : Nat) (s : State), (s.fab.stones[n]).inService = true → s.fab.queue = [] → s.dark = false →
    Completes (.stoneBlockComplete n mean) s fun t =>
      (t.fab.stones[n]).busy = none ∧ (t.fab.stones[n]).slow = slowMean (s.fab.stones[n]).history mean
      ∧ (slowMean (s.fab.stones[n]).history mean = true → (s.fab.stones[n]).slow = false → raised t 737)
      ∧ t = { s with fab := t.fab, evt := t.evt, log := t.log })
  ∧ (∀ (k mean : Nat), 0 < k → (slowMean (List.replicate k false) mean = true ↔ 100 < mean)
      ∧ (slowMean (List.replicate k true) mean = true ↔ 80 < mean))
  ∧ (∀ (n : Fin 32) (retest : Bool) (s : State), (s.fab.stones[n]).inService = true → s.stoneOn n = true → s.dark = false →
      s.fab.queue = [] → (s.fab.stones[n]).busy = none →
    Completes (.stoneKat n true retest) s fun t =>
      (t.fab.stones[n]).touched = [] ∧ (t.fab.stones[n]).inService = true
      ∧ (∃ b, (t.fab.stones[n]).busy = some b ∧ b.src = BlockSource.stone n ∧ b.cls = 1) ∧ (∃ b, t.fab.queue = [b] ∧ b.src = BlockSource.stone n)
      ∧ t = { s with fab := t.fab })
  ∧ (∀ (n : Fin 32) (s : State), (s.fab.stones[n]).inService = true → s.stoneOn n = true → s.dark = false →
      s.fab.queue = [] → (s.fab.stones[n]).busy = none →
    Completes (.stoneKat n false false) s fun t => (t.fab.stones[n]).inService = false ∧ raised t (704 + n.val))
  ∧ (∀ (n : Fin 32) (b : Block) (s : State), (s.fab.stones[n]).inService = true → s.dark = false → s.fab.queue = [] →
      (s.fab.stones[n]).busy = some b → b.src ≠ BlockSource.stone n → b.n = 1 →
      (recent s.now 60000000000 (s.fab.stones[n]).transients).length ≤ 4 →
    Completes (.stoneTimeout n true) s fun t =>
      (t.fab.stones[n]).inService = true ∧ s.now ∈ (t.fab.stones[n]).transients ∧ raised t 736 ∧ goesOn t n b)
  ∧ (∀ (n : Fin 32) (b : Block) (retest : Bool) (s : State), (s.fab.stones[n]).inService = true → s.dark = false → s.fab.queue = [] →
      (s.fab.stones[n]).busy = some b → b.src ≠ BlockSource.stone n → b.n = 1 →
      (retest = false ∨ 4 < (recent s.now 60000000000 (s.fab.stones[n]).transients).length) →
    Completes (.stoneTimeout n retest) s fun t =>
      (t.fab.stones[n]).inService = false ∧ (t.fab.stones[n]).busy = none ∧ raised t (704 + n.val) ∧ goesOn t n b)
  ∧ (∀ (n : Fin 32) (retest : Bool) (s : State), (s.fab.stones[n]).inService = false ∨ (s.fab.stones[n]).busy = none →
      exec (.stoneTimeout n retest) s = .next s)
  ∧ (∀ (b : Block) (due : Nat) (s : State), s.dark = false → s.fab.queue = [b] → 1 < b.cls → due = b.born + 1000000 → (∀ n : Fin 32, s.stoneOn n = false) →
    Completes .blockAgePromote s fun t =>
      t.fab.queue = [{ b with cls := b.cls - 1, born := max s.now due }] ∧ t.now = max s.now due)
  ∧ ∀ (s : State), s.fab.queue = [] → exec .blockAgePromote s = .next s)

/-! ### Slots, the hopper, substitution and repair -/

/-- The content's check of a slot as the device judges it: each region's root, and for an image from the hopper its digest (07 R220, R235). A programmed and confirmed image block sets its bit of the completeness bitmap, and no other (07 R228, R231), and waits while 07 R233 forbids its writes; with no transfer open nothing happens. A repair attempt from a golden substitute (07 R221, R254, R255): the slot's map item takes the served map; a slot whose read-back passes R235's steps becomes READY, one whose does not stays RETIRED with its code and one more attempt counted, and the third failure raises its event. A leaf of the active slot that differs from its tree entry ends the attempt as a verdict failure (07 R254), and that one more attempt is counted then is the model's choice (DESIGN CHOICE log 87). Nothing is written while 07 R233 forbids it. -/
def Obligations.SlotsAreMeasuredAndRepaired : Prop :=
  ((∀ (p : PortId) (i : SlotId) (img : SlotImage) (engineFault settingsOk : Bool) (c : PortCfg) (s : State), (s.slot p i).state = .committed →
      s.stores settingsOk = true →
      s.millerRuns = true → (s.port p).state = .service → s.cfgInForce p = some c → c.preload = false →
    Completes (.standbyMeasurement p i ⟨img, engineFault, settingsOk⟩) s fun t =>
      othersKept p s t ∧ (t.port p).state = .service ∧ (t.port p).brake = (s.port p).brake ∧
      match s.verifySlotMap p i c (s.engines engineFault) with
      | (8, _) => t = s
      | (0, some m) =>
        (s.slotReads p c i (measuredRanges m (s.intakeFor p i) (s.slot p i).hopperImage) = none → t = s)
        ∧ (s.slotReads p c i (measuredRanges m (s.intakeFor p i) (s.slot p i).hopperImage) ≠ none →
          match s.measureSlot p i m img with
          | none => (t.slot p i).state = .ready ∧ (t.slot p i).failCode = 0 ∧ (t.slot p i).failRegion = 0xFF ∧ raised t (20 * p.val + 14)
          | some (code, region) => (t.slot p i).state = .failed ∧ (t.slot p i).failCode = code ∧ (t.slot p i).failRegion = region
              ∧ raised t (20 * p.val + 16))
      | (code, _) => (t.slot p i).state = .failed ∧ (t.slot p i).failCode = code ∧ raised t (20 * p.val + 16))
  ∧ (∀ (p : PortId) (i : SlotId) (img : SlotImage) (engineFault settingsOk : Bool) (s : State), (s.slot p i).state ≠ .committed →
      exec (.standbyMeasurement p i ⟨img, engineFault, settingsOk⟩) s = .next s)
  ∧ ∀ (p : PortId) (i : SlotId) (img : SlotImage) (engineFault settingsOk : Bool) (s : State), s.stores settingsOk = false →
      exec (.standbyMeasurement p i ⟨img, engineFault, settingsOk⟩) s = .next s
      ∨ exec (.standbyMeasurement p i ⟨img, engineFault, settingsOk⟩) s = .next (s.slotWriteFails p i settingsOk))
  ∧ ((∀ (b : Nat) (x : Transfer) (s : State), s.dark = false → s.hop.current = some x → x.arrived b = true → b ∉ x.complete → s.writesHeld x = false →
    Completes (.hopperProgramComplete b) s fun t =>
      (∃ y, t.hop.current = some y ∧ y = { x with complete := x.complete ++ [b], written := y.written, erased := y.erased })
      ∧ t.hop.suspended = s.hop.suspended ∧ t = { s with hop := t.hop, ports := t.ports, out := t.out })
  ∧ (∀ (b : Nat) (x : Transfer) (s : State), s.hop.current = some x → (x.arrived b = false ∨ s.writesHeld x = true) →
      exec (.hopperProgramComplete b) s = .next s)
  ∧ ∀ (b : Nat) (s : State), s.hop.current = none → exec (.hopperProgramComplete b) s = .next s)
  ∧ ((∀ (p : PortId) (i : SlotId) (source readback : SlotImage) (stone : Fin 32) (engineFault settingsOk : Bool) (c : PortCfg) (m : MillMap) (s : State),
      s.cfgInForce p = some c → (s.port p).map = some m → (s.port p).source = .golden → c.autoRepair = true → i ≠ .g →
      (s.slot p i).state = .retired → (s.slot p i).tries < 3 → s.stores settingsOk = true → s.millerRuns = true → (s.port p).state = .substitute → (s.port p).intake = [] →
      s.repairReaches p c i m = true →
    Completes (.repairAttempt p i source ⟨readback, engineFault, settingsOk⟩ stone) s fun t =>
      (t.port p).state = .substitute ∧ (t.port p).brake = (s.port p).brake ∧ othersKept p s t ∧ t.pond = s.pond
      ∧ (((t.pstore p).map i).read) = some m.bytes ∧
      match verifyMap s.otp m.bytes p c.v c.hybrid (s.engines engineFault) with
      | (8, _) => (t.slot p i).state = .repairing
      | (0, some n) =>
        (checkContent n readback (fun _ => none) = none →
          ((s.slot p i).hopperImage = false ∨ Config.sha384 (imageOf readback) = n.imageDigest) →
          (t.slot p i).state = .ready ∧ (t.slot p i).failCode = 0 ∧ (t.slot p i).failRegion = 0xFF
          ∧ ((t.slot p i).switchPending = ((s.slot p i).switchPending || c.autoReturn)) ∧ raised t (20 * p.val + 15))
        ∧ (checkContent n readback (fun _ => none) = none → (s.slot p i).hopperImage = true →
            Config.sha384 (imageOf readback) ≠ n.imageDigest →
          (t.slot p i).state = .retired ∧ (t.slot p i).tries = (s.slot p i).tries + 1 ∧ (t.slot p i).failCode = 0x11)
        ∧ (∀ code region, checkContent n readback (fun _ => none) = some (code, region) →
          (t.slot p i).state = .retired ∧ (t.slot p i).tries = (s.slot p i).tries + 1 ∧ (t.slot p i).failCode = code
          ∧ (t.slot p i).failRegion = region ∧ ((s.slot p i).tries = 2 → raised t (20 * p.val + 16)))
      | (code, _) => (t.slot p i).state = .retired ∧ (t.slot p i).tries = (s.slot p i).tries + 1 ∧ (t.slot p i).failCode = code)
  ∧ (∀ (p : PortId) (i : SlotId) (source readback : SlotImage) (stone : Fin 32) (engineFault settingsOk : Bool) (c : PortCfg) (m : MillMap) (k l : Nat)
      (v s : State), s.cfgInForce p = some c → (s.port p).map = some m → c.autoRepair = true → i ≠ .g →
      (s.slot p i).state = .retired → (s.slot p i).tries < 3 → s.stores settingsOk = true → s.millerRuns = true → (s.port p).state = .service →
      s.writesForbidden p c i = false → s.stir.repairReaches p c i m = true → s.stir.repairReads p m = some v → s.repairBadLeaf p (s.repairContent p m source) = some (k, l) →
    Completes (.repairAttempt p i source ⟨readback, engineFault, settingsOk⟩ stone) s fun t =>
      (t.port p).state = .contained ∧ (t.port p).brake = true ∧ (t.port p).failures.length = (s.port p).failures.length + 1
      ∧ (t.slot p i).state = .retired ∧ (t.slot p i).tries = (s.slot p i).tries + 1 ∧ othersKept p s t)
  ∧ ∀ (p : PortId) (i : SlotId) (source readback : SlotImage) (stone : Fin 32) (engineFault settingsOk : Bool) (c : PortCfg) (m : MillMap) (s : State),
      s.cfgInForce p = some c → (s.port p).map = some m → c.autoRepair = true → i ≠ .g →
      (s.slot p i).state = .retired → (s.slot p i).tries < 3 → s.stores settingsOk = true → s.millerRuns = true → (s.port p).state = .service →
      s.stir.repairReaches p c i m = true → s.writesForbidden p c i = true →
    exec (.repairAttempt p i source ⟨readback, engineFault, settingsOk⟩ stone) s = .next (s.stir.modSlot p i fun r => { r with repairPending := true }))

/-- The golden substitute (07 R249, 04 R117), once the port's captures are made (05 R167) and while no CONTAIN is in force (15 R482): content whose every region is right becomes VALID together and the port enters MEASURED on the substitute's map; other content takes the golden slot to FAILED and the recovery on. An adapter substitution that takes longer than SUBST_TMO ends: its transfer goes, the event is raised and the next recovery option is tried, braked (07 R246, R251). -/
def Obligations.SubstitutesAreMeasuredOrTimeOut : Prop :=
  (∀ (p : PortId) (img : SlotImage) (m : MillMap) (k : Nat) (s : State), (s.port p).state = .measuring → (s.port p).source = .golden →
      (s.port p).armMap = some m → s.armFree p = true → (s.port p).captured = true → s.gov.vioHome = true → (s.port p).option = some k → s.dark = false →
    Completes (.substituteFillDone p img) s fun t => othersKept p s t ∧
      (checkContent m img (fun _ => none) = none →
        (t.port p).state = .measured ∧ (t.port p).map = some m ∧ (t.port p).vdResetDue = true ∧ t.pond = s.pond.fillSubst p m img
        ∧ t.store = s.store)
      ∧ ∀ code region, checkContent m img (fun _ => none) = some (code, region) →
          (s.stir.millerRuns = false → t = s)
          ∧ (s.stir.millerRuns = true → (t.slot p .g).state = .failed ∧ (t.slot p .g).failCode = code ∧ (t.slot p .g).failRegion = region
          ∧ ((t.port p).state = .recovering ∨ (t.port p).state = .failed) ∧ (t.port p).brake = true))
  ∧ (∀ (p : PortId) (img : SlotImage) (s : State), ((s.port p).captured = false ∨ s.armFree p = false) → exec (.substituteFillDone p img) s = .next s)
  ∧ ((∀ (p : PortId) (due : Nat) (s : State), s.millerRuns = true → (s.port p).substDue = some due → s.substTransfer p = true → s.hop.suspended = none →
      (∀ q : PortId, (s.port q).devOp = none) →
    Completes (.substTmoExpiry p) s fun t =>
      t.hop.current = none ∧ raised t (20 * p.val + 16) ∧ (t.port p).brake = true ∧ othersKept p s t ∧ t.now = max s.now due
      ∧ ((t.port p).state = .recovering ∨ (t.port p).state = .failed))
  ∧ ∀ (p : PortId) (s : State), ((s.port p).substDue = none ∨ s.millerRuns = false) → exec (.substTmoExpiry p) s = .next s)

/-! ### Mailboxes -/

/-- A mailbox command runs only as the request that executes (13 R408): with none executing, or with another command's, each of these rows leaves the state as it is. A doorbell at an idle mailbox of a running miller is accepted with the header's fields and joins the miller's order; at a busy one it stays pending (13 R404, R406, R408, R409, 12 R394). The acceptance checks answer in R410's and R411's terms: the epoch, the sequence, an unknown command, a control command from an observer; that a request answered BAD_CMD advances the sequence is the model's reading (DEDUCED log 41). A completed command's response is written to its buffer, no other byte of which changes, REQ_BUSY clears, RSP_READY sets and the mailbox event is raised; under an older epoch it is discarded with its event (13 R405, R407, R412). The acknowledgement clears RSP_READY. Both register writes wake the device, and neither is served in BACKUP (12 R392, 14 R471), nor in End of life, nor in Locked from an observer (12 R403; the model's reading, DEDUCED log 115). -/
def Obligations.MailboxHandshake : Prop :=
  (∀ (ok : Bool) (env : RomEnv) (rb : List Byte) (bl : List Nat) (s : State), s.executing = none →
    ∀ i ∈ [Instr.getInfo, .slotStatus, .configRead, .mapRead, .fwStatus, .transferStatus, .spdmMsg, .authNonce, .objLoad, .objClear, .sealData,
      .unsealData, .bulkData, .transferAbort, .stageOpen ok, .stageClose ok, .stageAbort ok, .portReset, .deviceReset, .millerRestart env,
      .fwBegin, .fwCommit rb, .fwActivate env, .fwFloorRaise bl, .debugChallenge, .debugOpen, .debugClose, .imageBegin, .slotCommit ok,
      .slotSwitch ok, .portConfig ok, .sluiceStore ok, .graphStore ok, .devConfig ok, .rollbackRaise bl, .tamperConfig ok, .sourceDisable bl,
      .keyProgram bl, .keyRevoke bl, .lcTransition bl, .lcRepair bl],
      exec i s = .next s)
  ∧ ((∀ (m : MbxId) (fault : EngFaults) (s : State), s.aonb.backup = false → s.mbxTakes m = true → (s.mbox m).busy = true →
    exec (.mailboxDoorbell ⟨m, fault⟩) s = .next (s.wakeUp.setMbox m { s.mbox m with ring := true }))
  ∧ (∀ (m : MbxId) (fault : EngFaults) (s : State), s.aonb.backup = false → s.mbxTakes m = true → s.mil.running = none →
    exec (.mailboxDoorbell ⟨m, fault⟩) s = .next (s.wakeUp.setMbox m { s.mbox m with ring := true }))
  ∧ (∀ (m : MbxId) (fault : EngFaults) (s : State), s.aonb.backup = true ∨ s.mbxTakes m = false →
    exec (.mailboxDoorbell ⟨m, fault⟩) s = .next s ∧ exec (.mailboxRspAck ⟨m, fault⟩) s = .next s)
  ∧ ∀ (m : MbxId) (fault : EngFaults) (raw : List Byte) (s : State), s.aonb.backup = false → s.mbxTakes m = true → (s.mbox m).busy = false → (s.mbox m).ready = false → s.serves = true →
      raw = memReads (s.mbox m).req 0 (mbxSize m) →
    Completes (.mailboxDoorbell ⟨m, fault⟩) s fun t => t.mbx.order = s.mbx.order ++ [m] ∧ (t.mbox m).busy = true ∧ (t.mbox m).ring = false
      ∧ (t.mbox m).req = (s.mbox m).req ∧ t.mbx.object = s.mbx.object ∧ ∃ q, (t.mbox m).accepted = some q ∧ q.cmd = hdrCmd raw
        ∧ q.seq = hdrSeq raw ∧ q.body = hdrBody raw ∧ q.epoch = s.fan.epoch ∧ q.ownFault = fault.own ∧ q.ended = fault.ended
        ∧ (zeros raw 12 4 = true → framed raw = true → hdrSeq raw / 4096 ≠ s.fan.epoch → q.result = some (answer 5))
        ∧ (zeros raw 12 4 = true → framed raw = true → hdrSeq raw / 4096 = s.fan.epoch → (s.mbox m).lastSeq = none → cmdControl (hdrCmd raw) = none →
            q.result = some (answer 1) ∧ (t.mbox m).lastSeq = some (hdrSeq raw % 4096))
        ∧ (zeros raw 12 4 = true → framed raw = true → hdrSeq raw / 4096 = s.fan.epoch → (s.mbox m).lastSeq = none →
            cmdControl (hdrCmd raw) = some true → m ≠ .owner → q.result = some (answer 6))
        ∧ (zeros raw 12 4 = true → framed raw = true → hdrSeq raw / 4096 = s.fan.epoch → (s.mbox m).lastSeq = some (hdrSeq raw % 4096) →
            q.result = some (answer 4) ∧ (t.mbox m).lastSeq = some (hdrSeq raw % 4096)))
  ∧ ((∀ (m : MbxId) (fault : EngFaults) (rest : List MbxId) (r : Request) (a : Response) (s : State), s.mbx.order = m :: rest → (s.mbox m).accepted = some r →
      r.result = some a → s.serves = true → r.epoch = s.fan.epoch → s.mbx.spdm = [] → memWf (s.mbox m).rsp = true →
    Completes (.mailboxResponse ⟨m, fault⟩) s fun t => (t.mbox m).busy = false ∧ (t.mbox m).ready = true ∧ (t.mbox m).rspSeq = r.seq % 4096
      ∧ (t.mbox m).rspEpoch = r.epoch ∧ (t.mbox m).accepted = none ∧ raised t (rspSource m)
      ∧ (∀ k, k < (r.rspBytes a s.now).length → memRead (t.mbox m).rsp k = (r.rspBytes a s.now).getD k 0)
      ∧ (∀ k, (r.rspBytes a s.now).length ≤ k → memRead (t.mbox m).rsp k = memRead (s.mbox m).rsp k))
  ∧ (∀ (m : MbxId) (fault : EngFaults) (rest : List MbxId) (r : Request) (a : Response) (s : State), s.mbx.order = m :: rest → (s.mbox m).accepted = some r →
      r.result = some a → s.serves = true → r.epoch ≠ s.fan.epoch → s.mbx.spdm = [] →
    Completes (.mailboxResponse ⟨m, fault⟩) s fun t => (t.mbox m).rsp = (s.mbox m).rsp ∧ (t.mbox m).rspSeq = (s.mbox m).rspSeq ∧ raised t 932)
  ∧ (∀ (m : MbxId) (fault : EngFaults) (s : State), s.mbx.order = [] → s.mbx.spdm = [] → exec (.mailboxResponse ⟨m, fault⟩) s = .next s)
  ∧ (∀ (m : MbxId) (fault : EngFaults) (s : State), s.aonb.backup = false → s.mbxTakes m = true → (s.mbox m).ready = true → (s.mbox m).ring = false → (m ≠ .owner ∨ s.mbx.resetDue = false) →
    exec (.mailboxRspAck ⟨m, fault⟩) s = .next (s.wakeUp.setMbox m { s.mbox m with ready := false }))
  ∧ (∀ (fault : EngFaults) (s : State), s.mbxTakes .owner = true → s.mbx.owner.ready = true → s.mbx.resetDue = true → Completes (.mailboxRspAck ⟨.owner, fault⟩) s fun t =>
      t.sys.cause = 4 ∧ t.mbx = {} ∧ ∀ p, (t.port p).state = .waiting ∧ (t.port p).brake = true)
  ∧ ∀ (m : MbxId) (fault : EngFaults) (s : State), s.aonb.backup = false → s.mbxTakes m = true → (s.mbox m).ready = false →
      exec (.mailboxRspAck ⟨m, fault⟩) s = .next s.wakeUp)

/-- The six queries (13 R423) answer from the state and change only their own mailbox; the layouts are those of R423, and a body of the wrong length is BAD_LEN. That a CONFIG_READ of an item that is not stored answers FORMAT 0 and TOTAL 0 is the model's reading (DEDUCED log 52), and that a read while VIO_HOME is out answers the same is its choice (DESIGN CHOICE, the same entry). -/
def Obligations.QueriesAnswerTheirLayouts : Prop :=
  (∀ (m : MbxId) (r : Request) (s : State), executes s m r 1 → r.body = [] → Completes .getInfo s fun t => t = { s with mbx := t.mbx } ∧
    answered t m r (answer 0 0 (leBytes 1 0xB0 ++ leBytes 1 (s.mil.current.getD {}).major
      ++ leBytes 1 (s.mil.current.getD {}).minor ++ leBytes 1 (s.mil.current.getD {}).cmdSet ++ leBytes 8 s.idn.fwSvn
      ++ leBytes 1 s.otp.fwFloorVal ++ leBytes 1 (bit (s.mil.running.getD false)) ++ leBytes 1 2 ++ leBytes 1 (lcCode s.life.state)
      ++ leBytes 8 s.sys.serial.toNat ++ digestBytes s.idn.fwDigest)))
  ∧ (∀ (m : MbxId) (r : Request) (p : PortId) (s : State), executes s m r 2 → r.body.length = 4 → portOf (field r.body 0 1) = some p →
      zeros r.body 1 3 = true → Completes .slotStatus s fun t => t = { s with mbx := t.mbx } ∧ answered t m r
        (answer 0 0 ((s.slot p .a).toBytes .a ++ (s.slot p .b).toBytes .b ++ (s.slot p .g).toBytes .g
          ++ s.storedDigest p .a ++ s.storedDigest p .b ++ s.storedDigest p .g
          ++ leBytes 1 (recent s.now 60000000000 (s.port p).transients).length
          ++ leBytes 1 (bit (s.port p).staging.isSome + 2 * bit (s.hop.targets p)) ++ leBytes 2 0 ++ leBytes 4 ((s.port p).staging.getD 0))))
  ∧ (∀ (m : MbxId) (r : Request) (p : PortId) (s : State), executes s m r 3 → r.body.length = 4 → portOf (field r.body 1 1) = some p →
      field r.body 0 1 ≤ 3 → Completes .configRead s fun t => t = { s with mbx := t.mbx } ∧
        (∀ bs, s.configItem (field r.body 0 1) p = some bs → bs ≠ [] → answered t m r (answer 0 0 (leBytes 2 (itemFormat bs) ++ leBytes 2 bs.length ++ (bs.drop (field r.body 2 2)).take (bodyCap m - 4))))
        ∧ (s.configItem (field r.body 0 1) p = none → answered t m r (answer 0 0 (leBytes 2 0 ++ leBytes 2 0))))
  ∧ (∀ (m : MbxId) (r : Request) (p : PortId) (i : SlotId) (s : State), executes s m r 4 → r.body.length = 8 →
      portOf (field r.body 0 1) = some p → slotOf (field r.body 1 1) = some i → zeros r.body 2 2 = true →
      Completes .mapRead s fun t => t = { s with mbx := t.mbx } ∧ answered t m r (answer 0 0 (leBytes 4 ((if s.gov.vioHome then ((s.pstore p).map i).read else none).getD []).length
          ++ (((if s.gov.vioHome then ((s.pstore p).map i).read else none).getD []).drop (field r.body 4 4)).take (bodyCap m - 4))))
  ∧ (∀ (m : MbxId) (r : Request) (s : State), executes s m r 5 → r.body = [] → Completes .fwStatus s fun t => t = { s with mbx := t.mbx } ∧
      answered t m r (answer 0 0 (s.mil.fw0.toBytes (!s.mil.preferFw1) ++ s.mil.fw1.toBytes s.mil.preferFw1)))
  ∧ (∀ (m : MbxId) (r : Request) (s : State), executes s m r 6 → r.body = [] → s.hop.current = none →
      Completes .transferStatus s fun t => t = { s with mbx := t.mbx } ∧ answered t m r (answer 0 0 (List.replicate 20 0)))
  ∧ (∀ (m : MbxId) (r : Request) (x : Transfer) (s : State), executes s m r 6 → r.body = [] → s.hop.current = some x →
      Completes .transferStatus s fun t => t = { s with mbx := t.mbx } ∧ answered t m r (answer 0 0 (leBytes 2 x.id ++ x.kindBytes ++ leBytes 1 (bit s.hop.suspended.isSome) ++ leBytes 2 0 ++ leBytes 4 x.len
          ++ leBytes 4 (x.blocks - x.missing.length) ++ leBytes 4 x.missing.length
          ++ (x.missing.take ((bodyCap m - 20) / 4)).flatMap (leBytes 4))))
  ∧ ∀ (m : MbxId) (r : Request) (s : State),
      (executes s m r 1 → r.body ≠ [] → Completes .getInfo s fun t => answered t m r (answer 2) ∧ t = { s with mbx := t.mbx })
      ∧ (executes s m r 2 → r.body.length ≠ 4 → Completes .slotStatus s fun t => answered t m r (answer 2) ∧ t = { s with mbx := t.mbx })
      ∧ (executes s m r 3 → r.body.length ≠ 4 → Completes .configRead s fun t => answered t m r (answer 2) ∧ t = { s with mbx := t.mbx })
      ∧ (executes s m r 4 → r.body.length ≠ 8 → Completes .mapRead s fun t => answered t m r (answer 2) ∧ t = { s with mbx := t.mbx })
      ∧ (executes s m r 5 → r.body ≠ [] → Completes .fwStatus s fun t => answered t m r (answer 2) ∧ t = { s with mbx := t.mbx })
      ∧ (executes s m r 6 → r.body ≠ [] → Completes .transferStatus s fun t => answered t m r (answer 2) ∧ t = { s with mbx := t.mbx })

/-- The nonce, the object buffer and sealing (13 R417, R420, R423, 08 R285, R286): a nonce is drawn, held and answered; a load writes its bytes and no other byte of the object buffer; a clear zeroes it; a blob seals under a fresh salt and opens only as the cipher says. That UNSEAL answers SEAL_ABSENT before it looks at the blob is the model's reading (DEDUCED log 56). -/
def Obligations.NonceObjectAndSealCommands : Prop :=
  (∀ (m : MbxId) (r : Request) (s : State), executes s m r 0x0101 → r.body = [] → s.drbg.failed = false →
    Completes .authNonce s fun t => t.mbx.nonce = some (s.draw 256) ∧ t.fresh = s.fresh + 1
      ∧ answered t m r (answer 0 0 (digestBytes (s.draw 256))))
  ∧ (∀ (m : MbxId) (r : Request) (s : State), executes s m r 0x0101 → r.body = [] → s.drbg.failed = true →
    Completes .authNonce s fun t => t.mbx.nonce = s.mbx.nonce ∧ answered t m r (answer 0x12))
  ∧ (∀ (m : MbxId) (r : Request) (off : Nat) (s : State), executes s m r 0x0102 → 4 ≤ r.body.length → field r.body 0 4 = off → off % 4 = 0 →
      off + (r.body.length - 4) ≤ 32768 → memWf s.mbx.object = true →
    Completes .objLoad s fun t => answered t m r (answer 0) ∧ memWf t.mbx.object = true
      ∧ (∀ a, off ≤ a → a < off + (r.body.length - 4) → memRead t.mbx.object a = r.body.getD (a - off + 4) 0)
      ∧ (∀ a, a < off ∨ off + (r.body.length - 4) ≤ a → memRead t.mbx.object a = memRead s.mbx.object a)
      ∧ t = { s with mbx := t.mbx })
  ∧ (∀ (m : MbxId) (r : Request) (s : State), executes s m r 0x0102 → 4 ≤ r.body.length → field r.body 0 4 % 4 ≠ 0 →
    Completes .objLoad s fun t => answered t m r (answer 3) ∧ t.mbx.object = s.mbx.object)
  ∧ (∀ (m : MbxId) (r : Request) (s : State), executes s m r 0x0103 → r.body = [] →
    Completes .objClear s fun t => (∀ a, memRead t.mbx.object a = 0) ∧ answered t m r (answer 0)
      ∧ t = { s with mbx := t.mbx })
  ∧ (∀ (m : MbxId) (r : Request) (k : BitVec 256) (s : State), executes s m r 0x0104 → 9 ≤ r.body.length → r.body.length ≤ 1032 →
      bindOk r.body 0 = true → s.aonb.sealKey = some k → s.drbg.failed = false →
    Completes .sealData s fun t => t.fresh = s.fresh + 1 ∧ t.aonb = s.aonb ∧ ∃ rest, answered t m r (answer 0 0 (leBytes 4 0x45534E59 ++ leBytes 2 1 ++ leBytes 2 (r.body.length - 8) ++ slice r.body 0 8 ++ digestBytes (s.draw 256) ++ rest)))
  ∧ (∀ (m : MbxId) (r : Request) (s : State), executes s m r 0x0105 → s.aonb.sealKey = none →
    Completes .unsealData s fun t => answered t m r (answer 0x1E) ∧ t = { s with mbx := t.mbx })
  ∧ ∀ (m : MbxId) (r : Request) (k : BitVec 256) (s : State), executes s m r 0x0105 → s.aonb.sealKey = some k → blobOk r.body = true →
    Completes .unsealData s fun t => t = { s with mbx := t.mbx } ∧
      match Config.gcmOpen (s.blobKey k (field r.body 8 1) (field r.body 12 4) (slice r.body 16 32)) 0 (slice r.body 0 48)
          (slice r.body 48 (field r.body 6 2)) (BitVec.ofNat 128 (beNat (slice r.body (48 + field r.body 6 2) 16))) with
      | some d => answered t m r (answer 0 0 (d))
      | none => answered t m r (answer 0x1F)

/-- Hopper and staging commands (13 R424, R425, 07 R223, R224, R228, R230, R232). That STAGE_CLOSE keeps the whole blocks' digests and drops the erase marks is the model's reading (DEDUCED log 51). -/
def Obligations.TransferAndStagingCommands : Prop :=
  (∀ (m : MbxId) (r : Request) (x : Transfer) (p : PortId) (s : State), executes s m r 0x0106 → bulkHeaderOk r.body = true → zeros r.body 2 2 = true →
      s.hop.current = some x → x.id = field r.body 0 2 → s.hop.takes (field r.body 0 2) (field r.body 4 4) (r.body.drop 8) = true →
    Completes .bulkData s fun t => t.hop.current = some (x.take (field r.body 4 4) (r.body.drop 8)).1
      ∧ answered t m r (answer 0) ∧ (t.port p).state = (s.port p).state ∧ t = { s with hop := t.hop, link := t.link, mbx := t.mbx, ports := t.ports })
  ∧ (∀ (m : MbxId) (r : Request) (s : State), executes s m r 0x0106 → bulkHeaderOk r.body = true → zeros r.body 2 2 = true → s.hop.current = none →
    Completes .bulkData s fun t => answered t m r (answer 0x21) ∧ t = { s with mbx := t.mbx })
  ∧ (∀ (s : State), s.bulkWaits = true → exec .bulkData s = .next s)
  ∧ (∀ (m : MbxId) (r : Request) (x : Transfer) (p : PortId) (i : SlotId) (s : State), executes s m r 0x0107 → r.body.length = 4 →
      zeros r.body 2 2 = true → s.hop.current = some x → x.id = field r.body 0 2 → x.kind = .slot p i →
    Completes .transferAbort s fun t => t.hop.current = s.hop.suspended ∧ t.hop.suspended = none ∧ t.store = s.store
      ∧ answered t m r (answer 0))
  ∧ (∀ (m : MbxId) (r : Request) (p : PortId) (w : Region) (c : PortCfg) (s : State), executes s m r 0x0301 → r.body.length = 8 →
      portOf (field r.body 0 1) = some p → zeros r.body 1 3 = true → (s.port p).state = .service → (s.port p).window = some w →
      (s.port p).cfg = some c → s.hop.onSlot p (s.standbySlot p) = false → field r.body 4 4 % 4096 = 0 → field r.body 4 4 + w.len ≤ c.v →
      s.gov.vioHome = true →
    Completes (.stageOpen true) s fun t => (t.port p).staging = some (field r.body 4 4) ∧ (t.slot p (s.standbySlot p)).state = .staging
      ∧ (t.port p).state = .service ∧ othersKept p s t ∧ answered t m r (answer 0))
  ∧ (∀ (m : MbxId) (r : Request) (p : PortId) (w : Region) (c : PortCfg) (s : State), executes s m r 0x0301 → r.body.length = 8 →
      portOf (field r.body 0 1) = some p → zeros r.body 1 3 = true → (s.port p).state = .service → (s.port p).window = some w →
      (s.port p).cfg = some c → s.hop.onSlot p (s.standbySlot p) = false → field r.body 4 4 % 4096 = 0 → field r.body 4 4 + w.len ≤ c.v →
    Completes (.stageOpen false) s fun t => t.ports = s.ports ∧ (∀ q j, t.slot q j = s.slot q j) ∧ raised t 942
      ∧ answered t m r (answer 0x13))
  ∧ (∀ (m : MbxId) (r : Request) (p : PortId) (o : Nat) (s : State), executes s m r 0x0108 → portBody r.body = some (some p) →
      (s.port p).staging = some o → s.gov.vioHome = true →
    Completes (.stageClose true) s fun t => (t.port p).staging = none
      ∧ (t.port p).intake = (((s.port p).intake.filter fun b => b.digest.isSome).map fun b => { b with erased := false }) ∧ t.store = s.store
      ∧ othersKept p s t ∧ answered t m r (answer 0))
  ∧ ∀ (m : MbxId) (r : Request) (p : PortId) (o : Nat) (s : State), executes s m r 0x0109 → portBody r.body = some (some p) →
      (s.port p).staging = some o → s.gov.vioHome = true →
    Completes (.stageAbort true) s fun t => (t.port p).staging = none ∧ (t.port p).intake = [] ∧ t.store = s.store
      ∧ othersKept p s t ∧ answered t m r (answer 0)

/-- Resets by command (13 R427, 06 R206, R213, 14 R452): PORT_RESET acts at once, DEVICE_RESET is answered first and begins at the acknowledgement or the timer, MILLER_RESTART is answered by the restarted miller. -/
def Obligations.ResetCommands : Prop :=
  (∀ (m : MbxId) (r : Request) (p : PortId) (s : State), executes s m r 0x010A → portBody r.body = some (some p) → (s.port p).state ≠ .isolated →
    Completes .portReset s fun t => (t.port p).state = .waiting ∧ (t.port p).brake = true ∧ othersKept p s t
      ∧ answered t m r (answer 0))
  ∧ (∀ (m : MbxId) (r : Request) (p : PortId) (s : State), executes s m r 0x010A → portBody r.body = some (some p) → (s.port p).state = .isolated →
    Completes .portReset s fun t => t.ports = s.ports ∧ answered t m r (answer 0x0B 10 []))
  ∧ (∀ (m : MbxId) (r : Request) (s : State), executes s m r 0x010B → r.body = [] →
    Completes .deviceReset s fun t => t.mbx.resetDue = true ∧ answered t m r (answer 0)
      ∧ t = { s with mbx := t.mbx })
  ∧ (∀ (s : State), s.mbx.resetDue = true → s.mbx.owner.accepted = none → s.dark = false → s.mon.resetDue = false →
      exec .deferredResetTimer s = exec (.deviceResetBegin .command) s)
  ∧ (∀ (s : State), s.mbx.resetDue = false → exec .deferredResetTimer s = .next s)
  ∧ (∀ (s : State), s.mbx.resetDue = true → s.mbx.owner.accepted = none → s.dark = false → Completes .deferredResetTimer s fun t =>
      t.sys.cause = 4 ∧ t.mbx.resetDue = false ∧ ∀ p, (t.port p).state = .waiting ∧ (t.port p).brake = true)
  ∧ ∀ (m : MbxId) (r : Request) (env : RomEnv) (s : State), executes s m r 0x010C → r.body = [] → (s.mbox m).busy = true →
    Completes (.millerRestart env) s fun t => t.sys.cause = s.sys.cause ||| 0x10 ∧ raised t 934 ∧ t.mbx.nonce = none
      ∧ answered t m r (answer 0)
      ∧ ∀ p, (s.port p).state ∉ [PortState.arming, .measuring, .recovering] → t.port p = s.port p

/-- Firmware transfer, commit, activation and floor (13 R424, R439 to R442): FW_BEGIN opens a transfer to the slot that does not run, FW_COMMIT judges the read-back image without touching the running slot, FW_ACTIVATE refuses what R441 refuses, and answers SETTINGS_WRITE while VIO_HOME is out and its boot record cannot be written (13 R433, 17 R531), and FW_FLOOR_RAISE takes the floor to its version and changes no other OTP bit. -/
def Obligations.FirmwareCommands : Prop :=
  (∀ (m : MbxId) (r : Request) (s : State), executes s m r 0x010D → r.body.length = 4 → 4096 ≤ field r.body 0 4 → field r.body 0 4 ≤ 4194304 →
      s.hop.current = none →
    Completes .fwBegin s fun t => (∃ x, t.hop.current = some x ∧ x.kind = .firmware ∧ x.len = field r.body 0 4 ∧ x.got = [] ∧ x.complete = []
        ∧ x.id = nextId s.hop.counter ∧ x.id ≠ 0)
      ∧ (t.mil.fw s.mil.spare).state = 1 ∧ t.mil.fw (!s.mil.spare) = s.mil.fw (!s.mil.spare) ∧ t.mil.running = s.mil.running
      ∧ ∃ b, answered t m r (answer 0 0 (leBytes 2 (nextId s.hop.counter) ++ b)))
  ∧ (∀ (m : MbxId) (r : Request) (x : Transfer) (s : State), executes s m r 0x010D → r.body.length = 4 → 4096 ≤ field r.body 0 4 →
      field r.body 0 4 ≤ 4194304 → s.hop.current = some x → Completes .fwBegin s fun t => answered t m r (answer 0x14) ∧ t = { s with mbx := t.mbx })
  ∧ (∀ (m : MbxId) (r : Request) (x : Transfer) (rb : List Byte) (s : State), executes s m r 0x010E → r.body.length = 4 → zeros r.body 2 2 = true →
      s.hop.current = some x → x.id = field r.body 0 2 → x.kind = .firmware → x.whole = true →
    Completes (.fwCommit rb) s fun t => t.mil.fw (!s.mil.spare) = s.mil.fw (!s.mil.spare) ∧ t.mil.running = s.mil.running ∧
      ((answered t m r (answer 0x11) ∧ t.hop = s.hop ∧ t.mil = s.mil ∧ (s.engineUp = false ∨ r.ownFault = true))
        ∨ ((∃ st, answered t m r (answer st) ∧ st ∈ [0x1A, 0x1B, 0x1C]) ∧ (t.mil.fw s.mil.spare).state = 3 ∧ raised t 937
            ∧ t.hop.current = s.hop.suspended)
        ∨ (∃ y, parseFw (slice rb 0 x.len) = some y ∧ answered t m r (answer 0 0 (leBytes 8 y.svn ++ digestBytes y.digest))
            ∧ t.mil.fw s.mil.spare = fwValid y ∧ s.otp.fwFloorVal ≤ y.svn ∧ raised t 936 ∧ t.hop.current = s.hop.suspended)))
  ∧ (∀ (m : MbxId) (r : Request) (env : RomEnv) (s : State), executes s m r 0x0308 → s.activateRefusal r.body = none → (s.mbox m).busy = true →
    Completes (.fwActivate env) s fun t => t.mil.preferFw1 = (field r.body 0 1 == 1) ∧ t.sys.cause = s.sys.cause ||| 0x10 ∧ raised t 934
      ∧ (∀ p, (s.port p).state = .service → t.port p = s.port p)
      ∧ ((∃ b, answered t m r (answer 0 0 b) ∧ t.mil.running = some (field r.body 0 1 == 1))
          ∨ (∃ b, answered t m r (answer 0x1B 0 b) ∧ t.mil.running ≠ some (field r.body 0 1 == 1))))
  ∧ (∀ (m : MbxId) (r : Request) (env : RomEnv) (a : Response) (s : State), executes s m r 0x0308 → s.activateRefusal r.body = some a →
    Completes (.fwActivate env) s fun t => answered t m r a
      ∧ (a.status ≠ 0x13 → t = { s with mbx := t.mbx })
      ∧ (a.status = 0x13 → raised t 942 ∧ t = { s with mbx := t.mbx, evt := t.evt, log := t.log }))
  ∧ (∀ (m : MbxId) (r : Request) (env : RomEnv) (s : State), executes s m r 0x0308 → r.body.length = 4 → field r.body 0 1 ≤ 1 →
      zeros r.body 1 3 = true → (s.mil.fw (field r.body 0 1 == 1)).state = 2 → s.gov.vioHome = false →
    Completes (.fwActivate env) s fun t => answered t m r (answer 0x13) ∧ t.mil = s.mil)
  ∧ ∀ (m : MbxId) (r : Request) (blown : List Nat) (s : State), executes s m r 0x0309 → r.body.length = 4 → field r.body 0 1 ≠ 0 →
      zeros r.body 1 3 = true → field r.body 0 1 ≤ s.idn.fwSvn →
    Completes (.fwFloorRaise blown) s fun t => s.otp.fwFloor &&& t.otp.fwFloor = s.otp.fwFloor
      ∧ (blown = [] → t.otp = { s.otp with fwFloor := s.otp.fwFloor ||| bitsFrom 255 s.otp.fwFloorVal (field r.body 0 1) })
      ∧ (blown = [] ∨ field r.body 0 1 ≤ s.otp.fwFloorVal → ∃ b, answered t m r (answer 0 0 b))
      ∧ (field r.body 0 1 ≤ s.otp.fwFloorVal → t.otp = s.otp)
      ∧ ((∀ n < 256, n ∈ blown) → s.otp.fwFloorVal < field r.body 0 1 → t.otp = s.otp ∧ raised t 905 ∧ ∃ b, answered t m r (answer 0x22 0 b))

/-- IMAGE_BEGIN for the standby slot, SLOT_COMMIT from the object buffer and SLOT_SWITCH (07 R229, R233, R234, R239, 13 R419, R426): what each checks and what it leaves. That a map no core can check answers MAP with DETAIL 8 (log 54) and the order of the checks (log 49) are the model's readings (DEDUCED). -/
def Obligations.SlotCommands : Prop :=
  (∀ (m : MbxId) (r : Request) (p : PortId) (c : PortCfg) (part : Sfdp) (bytes : List Byte) (s : State), executes s m r 0x0201 → r.body.length = 4 →
      portOf (field r.body 0 1) = some p → field r.body 1 1 = 0 → zeros r.body 2 2 = true → s.cfgInForce p = some c →
      (s.slot p (s.standbySlot p)).state ≠ .absent → (s.slot p (s.standbySlot p)).state ≠ .active → (s.port p).staging = none →
      (s.port p).partOn (c.cs (s.standbySlot p)) = some part → s.hop.current = none → s.objectMap = some bytes →
    Completes .imageBegin s fun t => t.ports = s.ports ∧
      match verifyMap s.otp bytes p c.v c.hybrid (s.engines r.ownFault) with
      | (0, some x) =>
        if eraseOk part x = false then answered t m r (answer 0x16) ∧ t.hop = s.hop
        else if s.writesForbidden p c (s.standbySlot p) = true then answered t m r (answer 0x17) ∧ t.hop = s.hop
        else if s.gov.vioHome = false then answered t m r (answer 0x13) ∧ t.hop = s.hop ∧ t.store = s.store
        else (t.slot p (s.standbySlot p)).state = .staging ∧ (∃ b, answered t m r (answer 0 0 (leBytes 2 (nextId s.hop.counter) ++ b)))
          ∧ ∃ y, t.hop.current = some y ∧ y.kind = .slot p (s.standbySlot p) ∧ y.len = x.imageLen ∧ y.got = []
      | (code, _) => t.hop = s.hop ∧ t.store = s.store ∧ answered t m r (answer 0x0C code))
  ∧ (∀ (m : MbxId) (r : Request) (p : PortId) (i : SlotId) (c : PortCfg) (bytes : List Byte) (s : State), executes s m r 0x0202 →
      r.body.length = 4 → portOf (field r.body 0 1) = some p → slotOf (field r.body 1 1) = some i → field r.body 2 1 = 0 →
      zeros r.body 3 1 = true → s.cfgInForce p = some c → (s.slot p i).state = .staging → (s.port p).staging = none →
      s.hop.current = none → s.hop.suspended = none → s.objectMap = some bytes →
      s.gov.vioHome = true →
    Completes (.slotCommit true) s fun t => t.ports = s.ports ∧
      match verifyMap s.otp bytes p c.v c.hybrid (s.engines r.ownFault) with
      | (0, some _) => (t.slot p i).state = .committed ∧ (t.slot p i).hopperImage = false ∧ (t.slot p i).switchPending = false
          ∧ (t.pstore p).map i = ((s.pstore p).map i).write bytes ∧ answered t m r (answer 0)
      | (code, _) => t.store = s.store ∧ answered t m r (answer 0x0C code))
  ∧ (∀ (m : MbxId) (r : Request) (p : PortId) (s : State), executes s m r 0x0302 → r.body.length = 4 → portOf (field r.body 0 1) = some p →
      field r.body 1 1 ≤ 1 → zeros r.body 2 2 = true →
      ((s.slot p (s.standbySlot p)).state = .committed ∨ (s.slot p (s.standbySlot p)).state = .ready) → (s.port p).state ≠ .isolated →
      s.gov.vioHome = true →
    Completes (.slotSwitch true) s fun t => (t.slot p (s.standbySlot p)).switchPending = true
      ∧ (t.slot p (s.standbySlot p)).state = (s.slot p (s.standbySlot p)).state ∧ othersKept p s t ∧ answered t m r (answer 0)
      ∧ (field r.body 1 1 = 1 → (t.port p).state = .waiting ∧ (t.port p).brake = true) ∧ (field r.body 1 1 = 0 → t.ports = s.ports))
  ∧ ∀ (m : MbxId) (r : Request) (p : PortId) (s : State), executes s m r 0x0302 → r.body.length = 4 → portOf (field r.body 0 1) = some p →
      field r.body 1 1 ≤ 1 → zeros r.body 2 2 = true → (s.slot p (s.standbySlot p)).state = .staging →
    Completes (.slotSwitch true) s fun t => answered t m r (answer 0x0B 2) ∧ t = { s with mbx := t.mbx }

/-- Stored configuration (13 R428 to R431, 06 R197, R198, 05 R162): a record, table, graph or device record that meets its layout is written to the older copy of its item and only there; one that does not is refused with its status and changes nothing; a settings write that fails is SETTINGS_WRITE with its event (13 R433). -/
def Obligations.ConfigurationCommands : Prop :=
  (∀ (m : MbxId) (r : Request) (p : PortId) (d : PortCfg) (s : State), executes s m r 0x0303 → r.body.length = 68 → field r.body 0 1 = 0 →
      zeros r.body 1 3 = true → portOf (field (r.body.drop 4) 6 1) = some p → itemFormat (r.body.drop 4) = 2 →
      portCfgOk (r.body.drop 4) p = true → s.cfgOf p = some d → (portCfgOf (r.body.drop 4)).sameGeometry d = true →
      s.gov.vioHome = true →
    Completes (.portConfig true) s fun t => answered t m r (answer 0)
      ∧ t.pstore p = { s.pstore p with config := (s.pstore p).config.write (r.body.drop 4) } ∧ t = { s with store := t.store, mbx := t.mbx })
  ∧ (∀ (m : MbxId) (r : Request) (p : PortId) (s : State), executes s m r 0x0303 → r.body.length = 68 → field r.body 0 1 = 0 →
      zeros r.body 1 3 = true → portOf (field (r.body.drop 4) 6 1) = some p → itemFormat (r.body.drop 4) = 2 →
      portCfgOk (r.body.drop 4) p = true → s.cfgOf p = none → (s.port p).state = .waiting →
      s.gov.vioHome = true →
    Completes (.portConfig true) s fun t => answered t m r (answer 0) ∧ (t.slot p .a).state = .empty ∧ (t.slot p .b).state = .empty
      ∧ (t.pstore p).mapA = {} ∧ (t.pstore p).config = (s.pstore p).config.write (r.body.drop 4) ∧ othersKept p s t)
  ∧ (∀ (m : MbxId) (r : Request) (p : PortId) (s : State), executes s m r 0x0304 → 20 ≤ r.body.length → r.body.length ≤ 1044 →
      portOf (field r.body 0 1) = some p → zeros r.body 1 3 = true → (checkSluice (r.body.drop 4) (knownClass [] [] []) true).1 = 0 →
      s.gov.vioHome = true →
    Completes (.sluiceStore true) s fun t => answered t m r (answer 0)
      ∧ t.pstore p = { s.pstore p with sluice := (s.pstore p).sluice.write (r.body.drop 4) } ∧ t = { s with store := t.store, mbx := t.mbx })
  ∧ (∀ (m : MbxId) (r : Request) (ok : Bool) (p : PortId) (code : Nat) (s : State), executes s m r 0x0304 → 20 ≤ r.body.length →
      r.body.length ≤ 1044 → portOf (field r.body 0 1) = some p → zeros r.body 1 3 = true →
      (checkSluice (r.body.drop 4) (knownClass [] [] []) true).1 = code → code ≠ 0 →
    Completes (.sluiceStore ok) s fun t => answered t m r (answer 0x0D code) ∧ t = { s with mbx := t.mbx })
  ∧ (∀ (m : MbxId) (r : Request) (s : State), executes s m r 0x0305 → r.body.length = 528 → graphOk r.body = true →
      s.gov.vioHome = true →
    Completes (.graphStore true) s fun t => answered t m r (answer 0) ∧ t.store = { s.store with graph := s.store.graph.write r.body }
      ∧ t.rel = s.rel ∧ t = { s with store := t.store, mbx := t.mbx })
  ∧ (∀ (m : MbxId) (r : Request) (ok : Bool) (s : State), executes s m r 0x0305 → r.body.length = 528 → graphOk r.body = false →
    Completes (.graphStore ok) s fun t => answered t m r (answer 0x0E) ∧ t = { s with mbx := t.mbx })
  ∧ (∀ (m : MbxId) (r : Request) (s : State), executes s m r 0x0306 → r.body.length = 32 → itemFormat r.body = 2 → devCfgOk r.body = true →
      s.gov.vioHome = true →
    Completes (.devConfig true) s fun t => answered t m r (answer 0) ∧ t.store = { s.store with device := s.store.device.write r.body }
      ∧ t.mil.authHybrid = (devCfgOf r.body).authHybrid ∧ t = { s with store := t.store, mil := t.mil, mbx := t.mbx })
  ∧ (∀ (m : MbxId) (r : Request) (s : State), executes s m r 0x0306 → r.body.length = 32 → itemFormat r.body = 2 → devCfgOk r.body = true →
    Completes (.devConfig false) s fun t => answered t m r (answer 0x13) ∧ t.store = { s.store with device := t.store.device } ∧ raised t 942
      ∧ (s.gov.vioHome = false → t.store = s.store)
      ∧ (∀ c bs, s.store.device.copyA = some c → c.valid = true → s.store.device.copyB = none → c.bytes = bs →
          s.store.device.read = some bs ∧ t.store.device.read = some bs)
      ∧ t.mil.authHybrid = s.mil.authHybrid)
  ∧ (∀ (m : MbxId) (r : Request) (s : State), executes s m r 0x030A → r.body.length ≤ 1024 → tamperCfgOk r.body = true → tamperFloorsOk r.body = true →
      s.gov.vioHome = true →
    Completes (.tamperConfig true) s fun t => answered t m r (answer 0) ∧ t.store = { s.store with tamper := s.store.tamper.write r.body }
      ∧ t.mon = s.mon.load r.body ∧ t = { s with store := t.store, mon := t.mon, mbx := t.mbx })
  ∧ ∀ (m : MbxId) (r : Request) (ok : Bool) (s : State), executes s m r 0x030A → r.body.length ≤ 1024 → tamperCfgOk r.body = true →
      tamperFloorsOk r.body = false → Completes (.tamperConfig ok) s fun t => answered t m r (answer 0x23 0x20) ∧ t = { s with mbx := t.mbx }

/-- Commands that blow OTP bits (07 R243, R244, 14 R456 to R458, 15 R496): a floor rises to its version unless an active map or an unaccepted golden map would fall below it, a key hash goes into an empty slot, a revoked slot is all ones, a pin's fuse is one bit; a bit that does not blow is OTP_FAIL with its event. Each such command that succeeds changes the OTP bits of its own item alone. Life-cycle transitions (14 R446 to R452): each of the three steps of the life cycle writes its intent record and the three copies towards the next state's codeword, and no other bit; the copies alone are judged, and the decoded state stays until a reset senses it; a record still open, and Production without its keys, are refused and change nothing. A repair completes the open record's transition and owes a device reset. Which record is open while MARK or TO is incomplete is the model's reading (DEDUCED log 129). -/
def Obligations.FuseAndLifeCycleCommands : Prop :=
  ((∀ (m : MbxId) (r : Request) (d : Fin 16) (v : Nat) (blown : List Nat) (s : State), executes s m r 0x0307 → r.body.length = 4 →
      field r.body 0 1 = d.val → field r.body 1 1 = v → 1 ≤ v → v ≤ 128 → field r.body 2 1 ≤ 1 → zeros r.body 3 1 = true →
    Completes (.rollbackRaise blown) s fun t =>
      (v ≤ s.otp.floor d.val → t.otp = s.otp ∧ ∃ b, answered t m r (answer 0 0 b))
      ∧ (s.otp.floor d.val < v → s.activeBelow d.val v = true → t.otp = s.otp ∧ answered t m r (answer 0x18))
      ∧ (s.otp.floor d.val < v → s.activeBelow d.val v = false → s.goldenBelow d.val v = true → field r.body 2 1 = 0 →
          t.otp = s.otp ∧ answered t m r (answer 0x19))
      ∧ (s.otp.floor d.val < v → s.activeBelow d.val v = false → s.goldenBelow d.val v = false → blown = [] →
          (∃ b, answered t m r (answer 0 0 b)) ∧ raised t 906
          ∧ t.otp = { s.otp with floors := s.otp.floors.set d (s.otp.floors[d] ||| bitsFrom 128 (s.otp.floor d.val) v) }))
  ∧ (∀ (m : MbxId) (r : Request) (i : Fin 8) (s : State), executes s m r 0x030B → r.body.length = 4 → zeros r.body 1 3 = true →
      field r.body 0 1 = i.val → s.otp.fuses.getLsbD i.val = false →
    Completes (.sourceDisable []) s fun t => t.otp = { s.otp with fuses := s.otp.fuses ||| BitVec.ofNat 256 (2 ^ i.val) } ∧ raised t 908
      ∧ answered t m r (answer 0))
  ∧ (∀ (m : MbxId) (r : Request) (i : Fin 8) (stuck : List Nat) (s : State), executes s m r 0x030B → r.body.length = 4 → zeros r.body 1 3 = true →
      field r.body 0 1 = i.val → s.otp.fuses.getLsbD i.val = false → 0 ∈ stuck →
    Completes (.sourceDisable stuck) s fun t => t.otp = s.otp ∧ raised t 905 ∧ answered t m r (answer 0x22))
  ∧ (∀ (m : MbxId) (r : Request) (i : Fin 10) (s : State), executes s m r 0x030C → r.body.length = 52 → keySlotOf r.body = some i →
      BitVec.ofNat 384 (beNat (slice r.body 4 48)) ≠ 0 → BitVec.ofNat 384 (beNat (slice r.body 4 48)) ≠ BitVec.allOnes 384 →
      (s.life.state ≠ .production ∨ i ≠ 9) → s.otp.keys[i] = 0 →
    Completes (.keyProgram []) s fun t =>
      t.otp = { s.otp with keys := s.otp.keys.set i (BitVec.ofNat 384 (beNat (slice r.body 4 48))) } ∧ raised t 900 ∧ answered t m r (answer 0))
  ∧ (∀ (m : MbxId) (r : Request) (i : Fin 10) (blown : List Nat) (s : State), executes s m r 0x030C → r.body.length = 52 →
      keySlotOf r.body = some i → BitVec.ofNat 384 (beNat (slice r.body 4 48)) ≠ 0 →
      BitVec.ofNat 384 (beNat (slice r.body 4 48)) ≠ BitVec.allOnes 384 → (s.life.state ≠ .production ∨ i ≠ 9) → s.otp.keys[i] ≠ 0 →
    Completes (.keyProgram blown) s fun t => t.otp = s.otp ∧ answered t m r (answer 0x0B (keyStatus s.otp.keys[i])))
  ∧ (∀ (m : MbxId) (r : Request) (i : Fin 10) (s : State), executes s m r 0x030D → r.body.length = 4 → keySlotOf r.body = some i →
      s.life.state ≠ .production →
    Completes (.keyRevoke []) s fun t => t.otp = { s.otp with keys := s.otp.keys.set i (BitVec.allOnes 384) } ∧ raised t 901
      ∧ answered t m r (answer 0))
  ∧ ∀ (m : MbxId) (r : Request) (i : Fin 10) (blown : List Nat) (s : State), executes s m r 0x030D → r.body.length = 4 →
      keySlotOf r.body = some i → s.life.state = .production → i = 9 →
    Completes (.keyRevoke blown) s fun t => t.otp = s.otp ∧ answered t m r (answer 0x23 0x0A))
  ∧ ((∀ (m : MbxId) (r : Request) (a b : LcState) (s : State), executes s m r 0x030E → r.body.length = 4 → zeros r.body 1 3 = true →
      (a, b) ∈ [(LcState.blank, LcState.test), (.test, .production), (.production, .endOfLife)] → s.life.state = a →
      field r.body 0 1 = lcCode b → s.otp.openIntent = none → (b = .production → s.otp.productionKeys = true) →
      (s.otp.copy1 ||| s.otp.copy2 ||| s.otp.copy3) &&& ~~~codeword b = 0 →
    Completes (.lcTransition []) s fun t =>
      t.otp = { s.otp.setIntent a (recordOf (s.otp.intent a) a b r.authDigest) with
          copy1 := codeword b, copy2 := codeword b, copy3 := codeword b }
      ∧ t.life.state = a ∧ t.life.written = some b ∧ raised t 896 ∧ answered t m r (answer 0))
  ∧ (∀ (m : MbxId) (r : Request) (a b : LcState) (s : State), executes s m r 0x030E → r.body.length = 4 → zeros r.body 1 3 = true →
      (a, b) ∈ [(LcState.blank, LcState.test), (.test, .production), (.production, .endOfLife)] → s.life.state = a →
      field r.body 0 1 = lcCode b → s.otp.openIntent = none → (b = .production → s.otp.productionKeys = true) →
      (s.otp.copy1 ||| s.otp.copy2 ||| s.otp.copy3) &&& ~~~codeword b ≠ 0 →
    Completes (.lcTransition []) s fun t =>
      t.otp = { s.otp.setIntent a (recordOf (s.otp.intent a) a b r.authDigest) with
          copy1 := s.otp.copy1 ||| codeword b, copy2 := s.otp.copy2 ||| codeword b, copy3 := s.otp.copy3 ||| codeword b }
      ∧ t.life.state = a ∧ ∃ k, answered t m r (answer 0x22 k))
  ∧ (∀ (m : MbxId) (r : Request) (a b : LcState) (blown : List Nat) (s : State), executes s m r 0x030E → r.body.length = 4 →
      zeros r.body 1 3 = true → (a, b) ∈ [(LcState.blank, LcState.test), (.test, .production), (.production, .endOfLife)] → s.life.state = a →
      field r.body 0 1 = lcCode b → s.otp.openIntent.isSome = true ∨ (b = .production ∧ s.otp.productionKeys = false) →
    Completes (.lcTransition blown) s fun t => t.otp = s.otp ∧ t.life = s.life
      ∧ answered t m r (answer 0x23 (if s.otp.openIntent.isSome = true then 0x02 else 0x03)))
  ∧ (∀ (m : MbxId) (r : Request) (blown : List Nat) (s : State), executes s m r 0x030E → r.body.length = 4 → zeros r.body 1 3 = true →
      field r.body 0 1 = 3 → s.life.state = .blank →
    Completes (.lcTransition blown) s fun t => t.otp = s.otp ∧ answered t m r (answer 0x23 0x01))
  ∧ (∀ (m : MbxId) (r : Request) (st : LcState) (s : State), executes s m r 0x030F → r.body = [] → s.otp.openIntent = some st →
      (s.otp.copy1 ||| s.otp.copy2 ||| s.otp.copy3) &&& ~~~codeword (intentTarget st) = 0 →
      (s.otp.intent st).auth = r.authDigest → ((s.otp.intent st).auth ≠ 0 ∨ r.authorized = false) →
    Completes (.lcRepair []) s fun t =>
      t.otp = { s.otp.setIntent st { s.otp.intent st with mark := BitVec.allOnes 8 } with
          copy1 := codeword (intentTarget st), copy2 := codeword (intentTarget st), copy3 := codeword (intentTarget st) }
      ∧ t.mbx.resetDue = true ∧ raised t 897
      ∧ t.life.state = s.life.state ∧ answered t m r (answer 0))
  ∧ ∀ (m : MbxId) (r : Request) (blown : List Nat) (s : State), executes s m r 0x030F → r.body = [] → s.otp.openIntent = none →
    Completes (.lcRepair blown) s fun t => t.otp = s.otp ∧ t.mbx.resetDue = s.mbx.resetDue ∧ answered t m r (answer 0x23 0x04))

/-- Debug access (14 R459 to R465, R469): a nonce is drawn for a level the life cycle permits; a session that needs no token opens at once, one above it is refused; where an ending event falls in the cycle of an opening, no session opens, the level stays and the nonce is used up; D2 in Production opens its access only after its zeroing; closing ends the session but not the level. That a malformed body and a token no core can check use the nonce up, raise 904 and answer BAD_LEN and ENGINE is the model's choice (DEDUCED log 58, DESIGN CHOICE log 97). -/
def Obligations.DebugCommands : Prop :=
  (∀ (m : MbxId) (r : Request) (s : State), executes s m r 0x010F → r.body.length = 4 → zeros r.body 1 3 = true →
      s.levelOk (field r.body 0 1) = true → s.drbg.failed = false →
    Completes .debugChallenge s fun t => t.dbg.nonce = some (s.draw 256) ∧ t.fresh = s.fresh + 1
      ∧ answered t m r (answer 0 0 (digestBytes (s.draw 256 : BitVec 256) ++ leBytes 8 s.sys.serial.toNat)))
  ∧ (∀ (m : MbxId) (r : Request) (s : State), executes s m r 0x010F → r.body.length = 4 → zeros r.body 1 3 = true →
      s.levelOk (field r.body 0 1) = false →
    Completes .debugChallenge s fun t => t.dbg = s.dbg ∧ answered t m r (answer 0x23 0x06))
  ∧ (∀ (m : MbxId) (r : Request) (n : Nat) (s : State), executes s m r 0x0310 → r.body.length = 200 → zeros r.body 1 199 = true →
      field r.body 0 1 = n → s.life.state = .blank → (n = 1 ∨ n = 2) → s.dbg.level < n →
    Completes .debugOpen s fun t => t.dbg.nonce = none ∧ t.aonb = s.aonb ∧
      (if r.ended = true then t.dbg.level = s.dbg.level ∧ t.dbg.session = s.dbg.session
      else t.dbg.level = n ∧ t.dbg.session = some n ∧ raised t (if n = 2 then 903 else 902) ∧ answered t m r (answer 0)))
  ∧ (∀ (m : MbxId) (r : Request) (s : State), executes s m r 0x0310 → r.body.length = 200 → zeros r.body 1 3 = true →
      zeros r.body 0xC5 3 = true → s.levelOk (field r.body 0 1) = false →
    Completes .debugOpen s fun t => t.dbg.level = s.dbg.level ∧ t.dbg.session = s.dbg.session ∧ t.dbg.nonce = none ∧ raised t 904
      ∧ answered t m r (answer 0x23 0x06))
  ∧ (∀ (m : MbxId) (r : Request) (s : State), executes s m r 0x0310 → r.body.length ≠ 200 →
    Completes .debugOpen s fun t => t.dbg = { s.dbg with nonce := none } ∧ raised t 904 ∧ answered t m r (answer 0x02))
  ∧ (∀ (m : MbxId) (r : Request) (n : BitVec 256) (s : State), executes s m r 0x0310 → r.body.length = 200 →
      zeros r.body 1 3 = true → zeros r.body 0xC5 3 = true → s.levelOk (field r.body 0 1) = true →
      needsToken s.life.state (field r.body 0 1) = true → s.dbg.nonce = some n →
    Completes .debugOpen s fun t => t.dbg.nonce = none ∧
      (if keyMatches s.otp.keys[8] (Config.sha384 ([0x01, 0x00] ++ slice r.body 4 97)) = false then
        t.dbg.level = s.dbg.level ∧ t.dbg.session = s.dbg.session ∧ raised t 904 ∧ answered t m r (answer 0x23 0x07)
      else if s.engineUp = false ∨ r.ownFault = true then
        t.dbg = { s.dbg with nonce := none } ∧ raised t 904 ∧ answered t m r (answer 0x11)
      else if keyPointOk 1 (slice r.body 4 97) = true
          ∧ Config.sigValid 1 (slice r.body 4 97) [] (s.tokenMsg n (field r.body 0 1)) (slice r.body 0x65 96) = true then
        if r.ended = true then t.dbg.level = s.dbg.level ∧ t.dbg.session = s.dbg.session
        else t.dbg.level = field r.body 0 1 ∧ answered t m r (answer 0)
      else t.dbg.level = s.dbg.level ∧ t.dbg.session = s.dbg.session ∧ raised t 904 ∧ answered t m r (answer 0x23 0x09)))
  ∧ (∀ (s : State), s.dark = false → s.dbg.d2Opening = true → exec .debugD2AccessOpen s = .next { s.activeForD2 with dbg := { s.dbg with session := some 2, d2Opening := false } })
  ∧ (∀ (s : State), s.dbg.d2Opening = false → exec .debugD2AccessOpen s = .next s)
  ∧ ∀ (m : MbxId) (r : Request) (n : Nat) (s : State), executes s m r 0x0110 → r.body = [] → s.dbg.session = some n →
    Completes .debugClose s fun t => t.dbg.session = none ∧ t.dbg.d2Opening = false ∧ t.dbg.level = s.dbg.level ∧ t.dbg.nonce = s.dbg.nonce
      ∧ t.dbg.ir = s.dbg.ir ∧ t.dbg.drive = s.dbg.drive ∧ raised t 910 ∧ answered t m r (answer 0)

/-! ### SPDM and I3C -/

/-- The connection phases (08 R268 to R270): GET_VERSION resets the connection, opens it on a FREE context of the miller and names 1.2 and 1.3, or finds none and is turned away (10 R318, R322; Busy is log 90's), GET_CAPABILITIES then gives the flags of R268 and the sizes of R266, NEGOTIATE_ALGORITHMS needs the device's set and selects it; a request out of its turn is an UnexpectedRequest and an unsupported one an UnsupportedRequest, and neither changes the phase. Identity and measurements on a negotiated connection (08 R270, R275, R276): digests and certificate parts of the slot 0 chain, signed answers that wait at the engine where the device can sign and ERROR where it cannot, the measurement record of the index asked; in Locked and End of life CHALLENGE is unsupported (08 R279). A message that arrives behind accepted mailbox requests waits for its turn (13 R408). A session opened, kept and ended, its chunks and messages complete (08 R270 to R274). Code numbers and headers of DSP0274 are log 92's. -/
def Obligations.SpdmConnectionsAnswer : Prop :=
  ((∀ (t : Transport) (s : State), spdmHeard s t → (s.resetTr t).millerFrees ≠ [] → Completes (.getVersion t) s fun u =>
    u.tr t = { ({} : Spdm) with phase := .version, errors := (s.tr t).errors, transcript := (u.tr t).transcript, ctx := (u.tr t).ctx }
    ∧ (∃ n : Fin 16, (u.tr t).ctx = some n ∧ n.val < 12 ∧ (u.dge.ctx[n]).state = .opened)
    ∧ saysSpdm s u t (Config.spdmBytes 0x10 0x04 [0x12, 0x13]) ∧ ∀ k, k ≠ t → u.tr k = s.tr k)
  ∧ (∀ (t : Transport) (s : State), spdmHeard s t → (s.resetTr t).millerFrees = [] → Completes (.getVersion t) s fun u =>
    u.tr t = { ({} : Spdm) with errors := (s.tr t).errors } ∧ saysSpdm s u t (({} : Spdm).error 0x03) ∧ ∀ k, k ≠ t → u.tr k = s.tr k)
  ∧ (∀ (t : Transport) (v n : Nat) (s : State), spdmTakes s t → (s.tr t).phase = .version → v = 0x12 ∨ v = 0x13 →
      Completes (.getCapabilities t ⟨v, n⟩) s fun u => (u.tr t).phase = .capabilities ∧ (u.tr t).version = v ∧ (u.tr t).dataSize = n
        ∧ saysSpdm s u t (Config.spdmBytes v 0x61 ([16] ++ leBytes 4 s.capFlags ++ leBytes 4 (transferSize t) ++ leBytes 4 12288)))
  ∧ (∀ (t : Transport) (v n : Nat) (s : State), spdmTakes s t → (s.tr t).phase ≠ .version → Completes (.getCapabilities t ⟨v, n⟩) s fun u =>
      (u.tr t).phase = (s.tr t).phase ∧ (u.tr t).dataSize = (s.tr t).dataSize ∧ saysSpdm s u t ((s.tr t).error 0x04))
  ∧ (∀ (t : Transport) (o : AlgOffer) (s : State), spdmTakes s t → (s.tr t).phase = .capabilities → AlgOffer_all o = true →
      Completes (.negotiateAlgorithms t o) s fun u => (u.tr t).phase = .negotiated
        ∧ saysSpdm s u t (Config.spdmBytes (s.tr t).header 0x63 algSelection))
  ∧ (∀ (t : Transport) (o : AlgOffer) (s : State), spdmTakes s t → (s.tr t).phase = .capabilities → AlgOffer_all o = false →
      Completes (.negotiateAlgorithms t o) s fun u => (u.tr t).phase = .capabilities ∧ saysSpdm s u t ((s.tr t).error 0x01))
  ∧ (∀ (t : Transport) (c : Byte) (s : State), spdmTakes s t → Completes (.spdmUnsupportedRequest t c) s fun u =>
      (u.tr t).phase = (s.tr t).phase ∧ (u.tr t).session = (s.tr t).session ∧ saysSpdm s u t ((s.tr t).error 0x07))
  ∧ (∀ (t : Transport) (v n : Nat) (c : Byte) (s : State), s.spdmUp t = false → s.mil.asleep = false → s.gov.state ≠ .deep →
      exec (.getVersion t) s = .next s ∧ exec (.getCapabilities t ⟨v, n⟩) s = .next s ∧ exec (.spdmUnsupportedRequest t c) s = .next s)
  ∧ ∀ (t : Transport) (c : Byte) (s : State), s.spdmUp t = true → s.gov.state ≠ .deep → s.mil.asleep = false → s.mbx.order ≠ [] →
      Completes (.spdmUnsupportedRequest t c) s fun u => u = { s with mbx := u.mbx }
        ∧ ∃ a, u.mbx = { s.mbx with spdm := s.mbx.spdm ++ [{ ahead := s.mbx.order.length, transport := t, arrival := a }] })
  ∧ ((∀ (t : Transport) (s : State), spdmOpen s t → Completes (.getDigests t) s fun u => (u.tr t).phase = .negotiated
      ∧ saysSpdm s u t (if s.chainOk = true then Config.spdmBytes (s.tr t).header 0x01 (digestBytes (Config.sha384 s.chain))
        else (s.tr t).error 0x05))
  ∧ (∀ (t : Transport) (off len : Nat) (s : State), spdmOpen s t → Completes (.getCertificate t 0 off len) s fun u => saysSpdm s u t
      (if s.chainOk = false then (s.tr t).error 0x05 else if s.chain.length ≤ off then (s.tr t).error 0x01 else Config.spdmBytes (s.tr t).header 0x02
        (leBytes 2 ((s.chain.drop off).take len).length ++ leBytes 2 (s.chain.length - off - ((s.chain.drop off).take len).length)
          ++ (s.chain.drop off).take len)))
  ∧ (∀ (t : Transport) (nonce : List Byte) (s : State), spdmOpen s t → s.signsFor (s.tr t) = true → s.chainOk = true →
      Completes (.challenge t 0 nonce) s fun u =>
      s.fresh < u.fresh ∧ signs u t .wire 0x03 (digestBytes (Config.sha384 s.chain) ++ digestBytes (s.draw 256 : BitVec 256)) none)
  ∧ (∀ (t : Transport) (nonce : List Byte) (s : State), spdmOpen s t → s.signsFor (s.tr t) = false ∨ s.chainOk = false →
      Completes (.challenge t 0 nonce) s fun u =>
      saysSpdm s u t ((s.tr t).error 0x05))
  ∧ (∀ (t : Transport) (index n : Nat) (rec nonce : List Byte) (s : State), spdmTakes s t → (s.tr t).phase = .negotiated →
      s.measRecord index = some (n, rec) → Completes (.getMeasurements t index false nonce) s fun u => saysSpdm s u t
        (Config.spdmBytes (s.tr t).header 0x60 (leBytes 1 n ++ leBytes 3 rec.length ++ rec ++ digestBytes (s.draw 256 : BitVec 256))))
  ∧ (∀ (t : Transport) (index n : Nat) (rec nonce : List Byte) (s : State), spdmTakes s t → (s.tr t).phase = .negotiated →
      s.measRecord index = some (n, rec) → s.signsFor (s.tr t) = true → Completes (.getMeasurements t index true nonce) s fun u =>
        signs u t .wire 0x60 (leBytes 1 n ++ leBytes 3 rec.length ++ rec ++ digestBytes (s.draw 256 : BitVec 256)) none)
  ∧ (∀ (t : Transport) (index : Nat) (nonce : List Byte) (s : State), spdmTakes s t → (s.tr t).phase = .negotiated →
      s.measRecord index = none → Completes (.getMeasurements t index false nonce) s fun u => saysSpdm s u t ((s.tr t).error 0x01))
  ∧ (∀ (t : Transport) (nonce : List Byte) (s : State), spdmTakes s t → s.noIdentity = true → Completes (.challenge t 0 nonce) s fun u =>
      saysSpdm s u t ((s.tr t).error 0x07))
  ∧ ∀ s : State, (s.life.state = .locked ∨ s.life.state = .endOfLife → s.measIndices = [4])
      ∧ (s.life.state ≠ .locked → s.life.state ≠ .endOfLife → s.measIndices.length = 37))
  ∧ ((∀ (t : Transport) (e : List Byte) (s : State), spdmOpen s t → (s.tr t).session = none → s.signsFor (s.tr t) = true →
      Completes (.keyExchange t 0 e) s fun u => ∃ id body, signs u t .wire 0x64 body (some id))
  ∧ (∀ (t : Transport) (v : List Byte) (s : State), spdmOpen s t → (s.tr t).session.isSome = true → (s.tr t).established = false →
      Completes (.finish t v) s fun u => (u.tr t).established = true ↔ Config.finishOk (s.tr t).transcript v = true ∧ s.undigested (s.tr t) = false)
  ∧ (∀ (t : Transport) (s : State), spdmOpen s t → (s.tr t).session.isSome = true → (s.tr t).established = true →
      Completes (.endSession t) s fun u => (u.tr t).session = none)
  ∧ (∀ (t : Transport) (data : List Byte) (s : State), spdmOpen s t → data.length ≤ 12288 →
      Completes (.chunkSend t 0 false data) s fun u => (u.tr t).chunks = [data])
  ∧ (∀ (t : Transport) (k n : Nat) (bs : List Byte) (s : State), spdmOpen s t → (s.tr t).large = some (k, n, bs) →
      Completes (.chunkGet t k) s fun u => ∃ part, u.out = s.out ++ spdmSent s t false part)
  ∧ (∀ (m : MbxId) (r : Request) (s : State), executes s m r 7 → (s.tr (mbxTransport m)).signing = none →
      Completes .spdmMsg s fun t => Config.spdmParse r.body = some .version →
        if (s.resetTr (mbxTransport m)).millerFrees = [] then answered t m r (answer 0x10) ∧ t.spdm = s.spdm
        else answered t m r (answer 0 0 (Config.spdmBytes 0x10 0x04 [0x12, 0x13])))
  ∧ ∀ (t : Transport) (id : Nat) (data : List Byte) (s : State), spdmHeard s t → (s.tr t).session = some id →
      (s.tr t).established = true → (s.tr t).keyed = true → Completes (.securedMessage t id data) s fun u =>
        match Config.securedOpen (s.tr t).keys (s.tr t).seqIn data with
        | none => u = s.setTr t { s.tr t with errors := (s.tr t).errors + 1 }
        | some plain => plain.length < 16 → saysSealed s u t plain (answer 0x02))

/-- Secured sessions and chunks (08 R270 to R274): a KEY_EXCHANGE is answered once the engine has signed it, and only that opens the session, one a transport; it is established only by a FINISH whose verify data is right, and ended with its keys; both answers leave in the session, sealed (R272); a chunk of a large request is kept in its order, and CHUNK_GET gives the next part of a held response. SPDM through a mailbox is answered OK with the responder's bytes, at once or when they are signed (13 R423, 08 R266, R275); a secured message outside its transport's session is counted and discarded (08 R274), and a query that the session opens is answered on its transport, sealed (08 R273, 13 R413). Codes of DSP0274 are log 92's. -/
def Obligations.SpdmSessionsAndMessages : Prop :=
  ((∀ (t : Transport) (e : List Byte) (s : State), spdmOpen s t → (s.tr t).session = none → s.signsFor (s.tr t) = true →
      Completes (.keyExchange t 0 e) s fun u => (u.tr t).session = none ∧ (∀ k, k ≠ t → (u.tr k).session = (s.tr k).session)
        ∧ signs u t .wire 0x64 (leBytes 4 (leNat (s.freeBytes 4)) ++ ([0, 0] : List Byte) ++ digestBytes (s.draw 256 : BitVec 256)
            ++ slice (Config.basePoint 2 (s.draw 384 : BitVec 384).toNat) 0 96) (some (leNat (s.freeBytes 4))))
  ∧ (∀ (t : Transport) (id : Nat) (e : List Byte) (s : State), spdmOpen s t → (s.tr t).session = some id →
      Completes (.keyExchange t 0 e) s fun u => (u.tr t).session = some id ∧ saysSpdm s u t ((s.tr t).error 0x0A))
  ∧ (∀ (t : Transport) (e : List Byte) (s : State), spdmOpen s t → (s.tr t).session = none → s.signsFor (s.tr t) = false →
      Completes (.keyExchange t 0 e) s fun u => (u.tr t).session = none ∧ saysSpdm s u t ((s.tr t).error 0x05))
  ∧ (∀ (t : Transport) (c : Fin 2) (r : PkeReq) (job : SpdmJob) (s : State), s.pkeOn = true → (s.pke.core c).state = .millerOp → (s.pke.core c).req = some r →
      r.user = .miller → (s.tr t).signing = some job → r.job = some job.id → job.route = .wire → job.chunk = none →
      (∀ k j, k ≠ t → (s.tr k).signing = some j → j.id ≠ job.id) → (s.pkeRun r.args false).1 = 0x10 →
      Completes (.pkeOperationComplete c (.runs none none)) s fun u => (u.tr t).signing = none
        ∧ (∀ id, job.session = some id → (u.tr t).session = some id ∧ (u.tr t).established = false ∧ (u.tr t).keyed = true)
        ∧ (job.session = none → (u.tr t).session = (s.tr t).session)
        ∧ ∃ sig, ∀ o ∈ spdmSent s t false (if (s.tr t).dataSize ≠ 0
            ∧ (s.tr t).dataSize < (Config.spdmBytes (s.tr t).header job.code (job.body ++ sig)).length then (s.tr t).error 0x0F
          else Config.spdmBytes (s.tr t).header job.code (job.body ++ sig)), o ∈ u.out)
  ∧ (∀ (t : Transport) (id : Nat) (v : List Byte) (s : State), spdmOpen s t → (s.tr t).session = some id → (s.tr t).established = false →
      s.undigested (s.tr t) = false → Completes (.finish t v) s fun u => (u.tr t).session = some id ∧ ((u.tr t).established = true ↔ Config.finishOk (s.tr t).transcript v = true)
        ∧ (Config.finishOk (s.tr t).transcript v = true → (u.tr t).seqIn = 0)
        ∧ (Config.finishOk (s.tr t).transcript v = false → (u.tr t).seqIn = (s.tr t).seqIn + 1 ∧ (u.tr t).seqOut = (s.tr t).seqOut + 1)
        ∧ saysInSession s u t (if Config.finishOk (s.tr t).transcript v = true then Config.spdmBytes (s.tr t).header 0x65 []
            else (s.tr t).error 0x01))
  ∧ (∀ (t : Transport) (id : Nat) (v : List Byte) (s : State), spdmOpen s t → (s.tr t).session = some id → (s.tr t).established = false →
      s.undigested (s.tr t) = true → Completes (.finish t v) s fun u => (u.tr t).session = some id ∧ (u.tr t).established = false
        ∧ (u.tr t).keys = (s.tr t).keys ∧ saysInSession s u t ((s.tr t).error 0x05))
  ∧ (∀ (t : Transport) (id : Nat) (s : State), spdmOpen s t → (s.tr t).session = some id → (s.tr t).established = true →
      Completes (.endSession t) s fun u => (u.tr t).session = none ∧ (u.tr t).established = false ∧ (u.tr t).keyed = false
        ∧ (u.tr t).keys = [] ∧ saysInSession s u t (Config.spdmBytes (s.tr t).header 0x6C []))
  ∧ (∀ (t : Transport) (data : List Byte) (s : State), spdmOpen s t → data.length ≤ 12288 → Completes (.chunkSend t 0 false data) s fun u =>
      (u.tr t).chunks = [data] ∧ u.out = s.out ++ spdmSent s t false (Config.spdmBytes (s.tr t).header 0x05 (leBytes 2 0)))
  ∧ (∀ (t : Transport) (k : Nat) (data : List Byte) (s : State), spdmOpen s t → k ≠ 0 → (s.tr t).chunks.length = k →
      (s.tr t).chunks.flatten.length + data.length ≤ 12288 → Completes (.chunkSend t k false data) s fun u =>
      (u.tr t).chunks = (s.tr t).chunks ++ [data] ∧ u.out = s.out ++ spdmSent s t false (Config.spdmBytes (s.tr t).header 0x05 (leBytes 2 k)))
  ∧ ∀ (t : Transport) (k n : Nat) (bs : List Byte) (s : State), spdmOpen s t → (s.tr t).large = some (k, n, bs) →
      16 < (s.tr t).dataSize → Completes (.chunkGet t k) s fun u =>
        (u.tr t).large = (if bs.length ≤ (s.tr t).dataSize - (if k = 0 then 16 else 12) then none
          else some (k + 1, n, bs.drop ((s.tr t).dataSize - (if k = 0 then 16 else 12))))
        ∧ u.out = s.out ++ spdmSent s t false (Config.spdmBytes (s.tr t).header 0x06
          ((if bs.length ≤ (s.tr t).dataSize - (if k = 0 then 16 else 12) then leBytes 1 1 else leBytes 1 0) ++ leBytes 2 k
            ++ leBytes 4 (bs.take ((s.tr t).dataSize - (if k = 0 then 16 else 12))).length ++ (if k = 0 then leBytes 4 n else [])
            ++ bs.take ((s.tr t).dataSize - (if k = 0 then 16 else 12)))))
  ∧ ((∀ (m : MbxId) (r : Request) (s : State), executes s m r 7 → (s.tr (mbxTransport m)).signing = none →
    Completes .spdmMsg s fun t => (∃ bs, answered t m r (answer 0 0 bs))
        ∨ ((s.resetTr (mbxTransport m)).millerFrees = [] ∧ answered t m r (answer 0x10)) ∨ (∃ code body id, signs t (mbxTransport m) (.mailbox m) code body id))
  ∧ (∀ (m : MbxId) (r : Request) (s : State), executes s m r 7 → (s.tr (mbxTransport m)).signing = none →
    Completes .spdmMsg s fun t => Config.spdmParse r.body = none →
      answered t m r (answer 0 0 ((s.tr (mbxTransport m)).error 0x01)) ∧ t.spdm = s.spdm)
  ∧ (∀ (t : Transport) (id : Nat) (data : List Byte) (s : State), spdmHeard s t →
      ((s.tr t).session ≠ some id ∨ (s.tr t).established = false ∨ (s.tr t).keyed = false ∨ Config.securedOpen (s.tr t).keys (s.tr t).seqIn data = none) →
    exec (.securedMessage t id data) s = .next (s.setTr t { s.tr t with errors := (s.tr t).errors + 1 }))
  ∧ ∀ (t : Transport) (id : Nat) (data : List Byte) (s : State), spdmHeard s t → (s.tr t).session = some id →
      (s.tr t).established = true → (s.tr t).keyed = true → Completes (.securedMessage t id data) s fun u =>
        match Config.securedOpen (s.tr t).keys (s.tr t).seqIn data with
        | none => u = s.setTr t { s.tr t with errors := (s.tr t).errors + 1 }
        | some plain => 16 ≤ plain.length → 16 + hdrLen plain ≤ plain.length → hdrAlen plain = 0 → hdrLen plain ≤ 1008 → zeros plain 12 4 = true →
          (cmdControl (hdrCmd plain) = none → saysSealed s u t plain (answer 0x01))
          ∧ (cmdControl (hdrCmd plain) = some true → saysSealed s u t plain (answer 0x06))
          ∧ (cmdControl (hdrCmd plain) = some false → hdrCmd plain ≠ 7 →
              u.spdm = (s.setTr t { s.tr t with seqIn := (s.tr t).seqIn + 1, seqOut := (s.tr t).seqOut + 1 }).spdm
              ∧ saysSealed s u t plain (s.query 1008 (hdrCmd plain) (hdrBody plain))))

/-- The I3C target (08 R266, R267, 11 R374, 17 R521): an address or an endpoint ID resets that transport's connection alone; a private write is master 14's register writes, of one word here; a private read gives the words read; MCTP control is answered, after an in-band interrupt, only with an address; in DEEP a transfer to the address is NACKed and wakes the device (17 R519). -/
def Obligations.I3cTargetAnswers : Prop :=
  (∀ (a : BitVec 7) (s : State), s.i3cUp = true → Completes (.i3cDynamicAddress a) s fun t =>
    t.i3c.addr = some a ∧ (t.tr .i3c).phase = .start ∧ (t.tr .i3c).session = none ∧ (∀ k, k ≠ Transport.i3c → t.tr k = s.tr k)
    ∧ t = { s with i3c := t.i3c, spdm := t.spdm, dge := t.dge, fab := t.fab, mbx := t.mbx })
  ∧ (∀ (e : Byte) (s : State), s.i3cPrivate = true → Completes (.mctpSetEndpointId e) s fun t =>
      t.i3c.eid = e ∧ (t.tr .i3c).phase = .start ∧ t.i3c.addr = s.i3c.addr
      ∧ t.out = s.out ++ [Out.ibi, Out.mctp (t.mctpPackets 0 (Config.mctpBytes 1 [e]))])
  ∧ (∀ (s : State), s.i3cPrivate = true → exec .mctpGetEndpointId s
      = .next { s with out := s.out ++ [Out.ibi, Out.mctp (s.mctpPackets 0 (Config.mctpBytes 2 [s.i3c.eid]))] })
  ∧ (∀ (s : State), s.i3cPrivate = true → exec .mctpGetVersionSupport s
      = .next { s with out := s.out ++ [Out.ibi, Out.mctp (s.mctpPackets 0 (Config.mctpBytes 4 []))] })
  ∧ (∀ (s : State), s.i3cPrivate = true → exec .mctpGetMessageTypeSupport s
      = .next { s with out := s.out ++ [Out.ibi, Out.mctp (s.mctpPackets 0 (Config.mctpBytes 5 [0x05, 0x06]))] })
  ∧ (∀ (s : State) (type : Nat) (body : List Byte), ((s.mctpPackets type body).flatMap MctpPacket.payload = leBytes 1 type ++ body)
      ∧ ∀ p ∈ s.mctpPackets type body, p.payload.length ≤ 64)
  ∧ (∀ (s : State), s.i3cPrivate = false → exec .mctpGetEndpointId s = .next s.i3cMatch ∧ exec .mctpGetVersionSupport s = .next s.i3cMatch
      ∧ exec .mctpGetMessageTypeSupport s = .next s.i3cMatch)
  ∧ (∀ s : State, s.i3cMatch = if s.gov.state = .deep ∧ s.i3cUp = true ∧ s.i3c.addr.isSome = true then s.wakeUp else s)
  ∧ (∀ (a : Nat) (w : Word) (s : State), s.i3cPrivate = true → a % 4 = 0 → a < 2 ^ 24 →
      exec (.i3cPrivateWrite a [w]) s = .next (s.writeReg .m14 a w).1)
  ∧ (∀ (a n : Nat) (s : State), s.i3cPrivate = true → a % 4 = 0 → n ≤ 256 → a + 256 ≤ 2 ^ 24 → Completes (.i3cPrivateRead a n) s fun t =>
      t.out = (s.afterRead a ((n + 3) / 4)).out
        ++ [Out.i3cBytes (((s.readWords a ((n + 3) / 4)).flatMap fun w => leBytes 4 w.toNat).take n)])
  ∧ ∀ (a : Nat) (ws : List Word) (n : Nat) (s : State), s.i3cPrivate = false → exec (.i3cPrivateWrite a ws) s = .next s.i3cMatch
      ∧ exec (.i3cPrivateRead a n) s = .next s.i3cMatch

/-! ### The public-key engine, the DRBG and the digest contexts -/

/-- The owner's window (09 R300 to R308, R311, R312): a request in IDLE is granted a free core with an empty queue, GO starts it or ends it at once, an operation ends with its result code and only its outputs in the operand memory, ABORT and RELEASE give the core up, the miller's abort of its own request gives that core up, and the owner's time limit takes it back. That the miller's abort is a case of the row PKE_OPERATION_COMPLETE is the model's choice (DESIGN CHOICE log 95). -/
def Obligations.EngineWindowCommands : Prop :=
  (∀ s : State, s.ownerWrites = true → engineCalm s → s.pke.status = 0 → s.pke.queue = [] → s.pke.waiting = [] → s.pke.core0.state = .idle →
      s.pke.ownerCore = none →
    Completes .pkeRequest s fun t => t.pke.status = 2 ∧ t.pke.core0.state = .ownerGrant ∧ t.pke.core0.mem = [] ∧ t.pke.coreNo = 0
      ∧ t.pke.core0.limit = s.now + 10000000 ∧ t.pke.queue = [] ∧ t.pke.core1 = s.pke.core1 ∧ t = { (s.settle [3]).wakeUp with pke := t.pke })
  ∧ (∀ s : State, 1 ≤ s.pke.status → s.pke.status ≤ 3 → exec .pkeRequest s = .next s)
  ∧ (∀ s : State, s.ownerWrites = false → exec .pkeRequest s = .next s ∧ exec .pkeGo s = .next s ∧ exec .pkeAbort s = .next s
      ∧ exec .pkeRelease s = .next s)
  ∧ (∀ s : State, s.ownerWrites = true → s.pke.core0.state = .ownerGrant → s.pkeRefuse (PkeArgs.mk s.pke.cmd s.pke.len0.toNat s.pke.len1.toNat s.pke.arg.toNat s.pke.core0.mem) true = none →
    Completes .pkeGo s fun t => t.pke.status = 3 ∧ t.pke.core0.state = .ownerOp ∧ t.pke.core0.mem = s.pke.core0.mem ∧ t.pke.coreNo = 0
      ∧ t.pke.mode = s.pkeMode 0 ∧ t.pke.core1 = s.pke.core1 ∧ t = { s with pke := t.pke })
  ∧ (∀ (code : Nat) (s : State), s.ownerWrites = true → s.pke.core0.state = .ownerGrant → s.pkeRefuse (PkeArgs.mk s.pke.cmd s.pke.len0.toNat s.pke.len1.toNat s.pke.arg.toNat s.pke.core0.mem) true = some code →
    Completes .pkeGo s fun t => t.pke.status = code ∧ t.pke.core0.state = .ownerDone ∧ ∀ a, memRead t.pke.core0.mem a = 0)
  ∧ (∀ s : State, s.pke.ownerCore = none → exec .pkeGo s = .next s ∧ exec .pkeRelease s = .next s)
  ∧ (∀ s : State, s.ownerWrites = true → s.pke.status = 2 → s.pke.core0.state = .ownerGrant → s.pke.queue = [] → s.pke.waiting = [] →
    Completes .pkeAbort s fun t => t.pke.status = 0x30 ∧ t.pke.cntAbort = s.pke.cntAbort + 1 ∧ t.pke.core0.state = .idle
      ∧ t.pke.core0.mem = [] ∧ t.pke.core0.work = [])
  ∧ (∀ s : State, s.pke.status = 0 → exec .pkeAbort s = .next s)
  ∧ (∀ (c : Fin 2) (s : State), s.dark = false → s.pke.core0.state = .millerOp → s.pke.queue = [] → s.pke.waiting = [] →
    Completes (.pkeOperationComplete c (.abort 0)) s fun t => t.pke.cntAbort = s.pke.cntAbort + 1 ∧ 0x30 ∈ t.pke.millerDone ∧ t.pke.core0.state = .idle
      ∧ t.pke.core0.mem = [] ∧ t.pke.core0.work = [])
  ∧ (∀ s : State, s.ownerWrites = true → engineCalm s → s.pke.core0.state = .ownerDone → s.pke.queue = [] → s.pke.waiting = [] →
    Completes .pkeRelease s fun t => t.pke.status = 0 ∧ t.pke.core0.state = .idle ∧ t.pke.core0.mem = [] ∧ t.pke.core1 = s.pke.core1)
  ∧ (∀ s : State, s.dark = false → engineCalm s → s.pke.core0.state = .ownerGrant → s.pke.queue = [] → s.pke.waiting = [] →
    Completes (.pkeGrantTimeout 0) s fun t => t.pke.status = 0x33 ∧ t.pke.core0.state = .idle ∧ t.pke.core0.mem = [] ∧ raised t 774
      ∧ t.now = max s.now s.pke.core0.limit)
  ∧ ∀ (r : PkeReq) (s : State), s.pkeOn = true → s.pke.core0.state = .ownerOp → s.pke.core0.req = some r → r.user = .owner →
    Completes (.pkeOperationComplete 0 (.runs none none)) s fun t => t.pke.core0.state = .ownerDone ∧ t.pke.core0.work = []
      ∧ t.pke.status = (s.pkeRun r.args true).1 ∧ t.pke.core0.mem = outMem (s.pkeRun r.args true).2
      ∧ t.pke.cntDone = s.pke.cntDone + 1 ∧ t.pke.core1 = s.pke.core1

/-- Miller work and faults (09 R291 to R297, R300, R304): a miller request starts on a free core, or ends at once where R300 to R303 refuse it; a core whose repetition differs, or whose signature does not verify, is a fault: the operation goes back to the head of the queue and its core to a known-answer test, its memory zeroed; a passing test puts the core in RECOVERY with its event, a failing one and the fifth transient within 60 s retire it, and 60 s without a fault end RECOVERY; the tests of a power-up leave a core idle or retired. The DRBG (08 R281, R282): after 65,536 requests a reseed restarts their count; two failed health tests fail it until the next device reset, with the event, and end the miller's operation that needs it. That a refused miller request ends as it is placed (log 95) and what the two results of a disturbed core are (log 94) are the model's choices (DESIGN CHOICE). -/
def Obligations.EngineAndDrbgFaults : Prop :=
  ((∀ (cmd a b c : Word) (ins : List Byte) (s : State), s.dark = false → engineCalm s → s.pke.core0.state = .idle → s.pke.queue = [] → s.pke.waiting = [] →
      s.pkeRefuse (PkeArgs.mk cmd a.toNat b.toNat c.toNat (memWrites [] 0 ins)) false = none →
    Completes (.pkeMillerRequest cmd a b c ins) s fun t => t.pke.core0.state = .millerOp ∧ t.pke.core0.mem = memWrites [] 0 ins
      ∧ (∃ r, t.pke.core0.req = some r ∧ r.user = .miller ∧ r.cmd = cmd ∧ r.len0 = a.toNat ∧ r.len1 = b.toNat ∧ r.arg = c.toNat)
      ∧ t.pke.status = s.pke.status ∧ t.pke.core1 = s.pke.core1 ∧ t = { (s.settle [3]).stir with pke := t.pke })
  ∧ (∀ (cmd a b c : Word) (ins : List Byte) (code : Nat) (s : State), s.dark = false → engineCalm s → s.pke.queue = [] → s.pke.waiting = [] →
      s.pkeRefuse (PkeArgs.mk cmd a.toNat b.toNat c.toNat (memWrites [] 0 ins)) false = some code →
    Completes (.pkeMillerRequest cmd a b c ins) s fun t => t.pke.millerDone = code :: s.pke.millerDone ∧ t.pke.core0 = s.pke.core0
      ∧ t.pke.core1 = s.pke.core1 ∧ t.pke.queue = [] ∧ t.pke.waiting = [])
  ∧ (∀ (r : PkeReq) (first second : Option PkeOut) (s : State), s.dark = false → s.pkeOn = true → engineCalm s → s.pke.core0.state = .ownerOp → s.pke.core0.req = some r →
      r.user = .owner → r.second = false → s.pke.core1.state ≠ .idle → s.pke.queue = [] → s.pke.waiting = [] →
      (faultCheck (s.pkeMode 0) (cmdOp r.cmd) = .repeatAndCompare ∧ first.getD (s.pkeRun r.args true) ≠ second.getD (s.pkeRun r.args true))
        ∨ (faultCheck (s.pkeMode 0) (cmdOp r.cmd) = .verifyBeforeRelease
            ∧ ∃ w, first = some w ∧ s.signatureGood r.args w = false) →
    Completes (.pkeOperationComplete 0 (.runs first second)) s fun t => t.pke.core0.state = .kat ∧ t.pke.core0.mem = []
      ∧ t.pke.cntFault = s.pke.cntFault + 1 ∧ t.pke.queue = [{ r with second := true }] ∧ t.pke.status = 1)
  ∧ (∀ s : State, s.pkeOn = true → s.pke.core0.state = .kat → s.pke.queue = [] → s.pke.waiting = [] →
      (recent s.pke.core0.faultAt 60000000000 s.pke.core0.transients).length ≤ 4 →
    Completes (.pkeKatComplete 0 true) s fun t => t.pke.core0.state = .idle ∧ t.pke.core0.recovery = true
      ∧ s.pke.core0.faultAt ∈ t.pke.core0.transients ∧ raised t 768)
  ∧ (∀ (pass : Bool) (s : State), s.pkeOn = true → s.pke.core0.state = .kat →
      (pass = false ∨ 4 < (recent s.pke.core0.faultAt 60000000000 s.pke.core0.transients).length) →
    Completes (.pkeKatComplete 0 pass) s fun t => t.pke.core0.state = .retired ∧ raised t 770 ∧ (s.pke.core1.state = .retired → raised t 772))
  ∧ (∀ (c : Fin 2) (pass : Bool) (s : State), (s.pke.core c).state ≠ .kat ∨ s.pkeOn = false → exec (.pkeKatComplete c pass) s = .next s)
  ∧ (∀ s : State, s.dark = false → s.pke.core0.recovery = true → s.pke.core0.state ≠ .kat → Completes (.pkeRecoveryEnd 0) s fun t =>
      t.pke = { s.pke with core0 := { s.pke.core0 with recovery := false } } ∧ t.now = max s.now (s.pke.core0.faultAt + 60000000000)
      ∧ t = { s with pke := t.pke, now := t.now })
  ∧ (∀ (c : Fin 2) (pass : Bool) (s : State), (s.pke.core c).state ≠ .powerKat ∨ s.pkeOn = false → exec (.pkePowerUpKat c pass) s = .next s)
  ∧ (∀ s : State, s.pkeOn = true → s.pke.core0.state = .powerKat → s.pke.queue = [] → s.pke.waiting = [] →
    Completes (.pkePowerUpKat 0 true) s fun t => t.pke.core0 = { s.pke.core0 with state := .idle })
  ∧ ∀ s : State, s.pkeOn = true → s.pke.core0.state = .powerKat → Completes (.pkePowerUpKat 0 false) s fun t => t.pke.core0.state = .retired ∧ raised t 770)
  ∧ ((∀ s : State, s.dark = false → s.drbg.failed = false → s.drbg.seeded = true → 65536 ≤ s.drbg.requests →
      exec .drbgReseed s = .next { s with drbg := { s.drbg with requests := 0 } })
  ∧ (∀ s : State, s.drbg.failed = false → s.drbg.requests < 65536 → exec .drbgReseed s = .next s)
  ∧ (∀ s : State, s.drbg.failed = true → exec .drbgReseed s = .next s ∧ exec .entropyHealthFail s = .next s)
  ∧ (∀ s : State, s.dark = true → exec .entropyHealthFail s = .next s)
  ∧ (∀ s : State, s.dark = false → s.drbg.failed = false → Completes .entropyHealthFail s fun t => t.drbg = { s.drbg with failed := true, failedTests := 2 }
      ∧ raised t 943 ∧ t.ports = s.ports ∧ t.otp = s.otp ∧ t.store = s.store ∧ t.link = s.link)
  ∧ ∀ (r : PkeReq) (s : State), s.dark = false → s.drbg.failed = false → s.pke.core0.state = .millerOp → s.pke.core0.req = some r →
      s.pkeRefuse r.args false = none → needsDrbg (cmdOp r.cmd) = true → s.pke.queue = [] → s.pke.waiting = [] →
    Completes .entropyHealthFail s fun t => t.pke.core0.state = .idle ∧ 0x26 ∈ t.pke.millerDone)

/-- The digest window (10 R317, R319, R326 to R332): the owner's writes alone are taken (12 R389, R403); ALLOC takes the lowest FREE context under the tag or reports FULL; START takes ALG and LEN and empties the context; DATA takes the bytes that LEN still lacks, is BUSY from a whole block until a stone takes it, refuses a word while BUSY and truncates one beyond LEN; FINAL before LEN bytes is SHORT, while BUSY it is kept, with FAULT it ends without a digest, and else it queues the padded blocks; a finalized context is DONE with its algorithm's digest, and one of the miller's FREE again; FREE zeroes it. An HSS/LMS verification takes up to 8 FREE contexts of the miller and leaves every other as it is (R317, R322), and FAULT of one of them makes it fail (R321); that these are the lowest-numbered (DESIGN CHOICE log 90) and that the rest of its outcome is known when it is placed (DEDUCED log 43) are the model's. -/
def Obligations.DigestWindowCommands : Prop :=
  (∀ (n : Fin 4) (s : State), s.ownerWrites = true → (s.dge.ctx[winCtx n]).state = .free → (∀ k < n, (s.dge.ctx[winCtx k]).state ≠ .free) →
    Completes .dgeAlloc s fun t => (t.dge.ctx[winCtx n]).state = .ready
      ∧ (t.dge.ctx[winCtx n]).tag = s.dge.tag ∧ t.dge.result = 1 ∧ t.dge.resCtx = n.val ∧ t.dge.resTag = s.dge.tag
      ∧ (∀ k : Fin 16, k ≠ winCtx n → t.dge.ctx[k] = s.dge.ctx[k]) ∧ t = { s.settle digestDomains with dge := t.dge })
  ∧ (∀ (n : Fin 4) (w : Word) (s : State), s.ownerWrites = false → exec .dgeAlloc s = .next s ∧ exec (.dgeStart n) s = .next s
      ∧ exec (.dgeData n w) s = .next s ∧ exec (.dgeFinal n) s = .next s ∧ exec (.dgeFree n) s = .next s)
  ∧ (∀ s : State, s.ownerWrites = true → (∀ n : Fin 4, (s.dge.ctx[winCtx n]).state ≠ .free) →
    exec .dgeAlloc s = .next { s with dge := { s.dge with resTag := s.dge.tag, result := 2, cntFull := s.dge.cntFull + 1 } })
  ∧ (∀ (n : Fin 4) (s : State), s.ownerWrites = true → (s.dge.ctx[winCtx n]).state ≠ .free → s.fab.queue = [] → Completes (.dgeStart n) s fun t =>
      (t.dge.ctx[winCtx n]).state = .opened ∧ (t.dge.ctx[winCtx n]).alg = (s.dge.ctx[winCtx n]).cfgAlg
      ∧ (t.dge.ctx[winCtx n]).len = (s.dge.ctx[winCtx n]).cfgLen ∧ (t.dge.ctx[winCtx n]).msg = [] ∧ (t.dge.ctx[winCtx n]).fault = false
      ∧ (t.dge.ctx[winCtx n]).digest = [])
  ∧ (∀ (n : Fin 4) (s : State), (s.dge.ctx[winCtx n]).state = .free → exec (.dgeStart n) s = .next s)
  ∧ (∀ (n : Fin 4) (w : Word) (s : State), (s.dge.ctx[winCtx n]).state ≠ .opened → exec (.dgeData n w) s = .next s ∧ exec (.dgeFinal n) s = .next s)
  ∧ (∀ (n : Fin 4) (w : Word) (s : State), s.ownerWrites = true → (s.dge.ctx[winCtx n]).state = .opened → (s.dge.ctx[winCtx n]).busy = true →
    Completes (.dgeData n w) s fun t => (t.dge.ctx[winCtx n]).posterr = true ∧ (t.dge.ctx[winCtx n]).msg = (s.dge.ctx[winCtx n]).msg)
  ∧ (∀ (n : Fin 4) (w : Word) (s : State), s.ownerWrites = true → (s.dge.ctx[winCtx n]).state = .opened → (s.dge.ctx[winCtx n]).busy = false →
      (s.dge.ctx[winCtx n]).len ≤ (s.dge.ctx[winCtx n]).msg.length →
    Completes (.dgeData n w) s fun t => (t.dge.ctx[winCtx n]).trunc = true ∧ (t.dge.ctx[winCtx n]).msg = (s.dge.ctx[winCtx n]).msg)
  ∧ (∀ (n : Fin 4) (w : Word) (c : Context) (s : State), s.ownerWrites = true → s.dge.ctx[winCtx n] = c → c.state = .opened → c.busy = false →
      c.finalKept = false → c.msg.length < c.len →
    Completes (.dgeData n w) s fun t => (t.dge.ctx[winCtx n]).msg = c.msg ++ (leBytes 4 w.toNat).take (c.len - c.msg.length)
      ∧ (t.dge.ctx[winCtx n]).state = .opened
      ∧ ((t.dge.ctx[winCtx n]).msg.length % algBlock c.alg ≠ 0 → (t.dge.ctx[winCtx n]).busy = false
          ∧ (∀ k : Fin 16, k ≠ winCtx n → t.dge.ctx[k] = s.dge.ctx[k]) ∧ t = { s with dge := t.dge })
      ∧ ((t.dge.ctx[winCtx n]).msg.length % algBlock c.alg = 0 → (∀ k : Fin 32, s.stoneOn k = false) →
          (t.dge.ctx[winCtx n]).busy = true ∧ t.fab.queue.length = s.fab.queue.length + 1))
  ∧ (∀ (n : Fin 4) (s : State), s.ownerWrites = true → (s.dge.ctx[winCtx n]).state = .opened → (s.dge.ctx[winCtx n]).busy = true →
    Completes (.dgeFinal n) s fun t => (t.dge.ctx[winCtx n]).finalKept = true ∧ (t.dge.ctx[winCtx n]).state = .opened
      ∧ t = { s with dge := t.dge })
  ∧ (∀ (n : Fin 4) (s : State), s.ownerWrites = true → (s.dge.ctx[winCtx n]).state = .opened → (s.dge.ctx[winCtx n]).busy = false →
      (s.dge.ctx[winCtx n]).msg.length < (s.dge.ctx[winCtx n]).len → s.fab.queue = [] →
    Completes (.dgeFinal n) s fun t => (t.dge.ctx[winCtx n]).short = true ∧ (t.dge.ctx[winCtx n]).state = .opened)
  ∧ (∀ (n : Fin 4) (c : Context) (s : State), s.ownerWrites = true → s.dge.ctx[winCtx n] = c → c.state = .opened → c.busy = false →
      c.len ≤ c.msg.length →
    Completes (.dgeFinal n) s fun t => (t.dge.ctx[winCtx n]).msg = c.msg
      ∧ (c.fault = true → (t.dge.ctx[winCtx n]).state = .done ∧ (t.dge.ctx[winCtx n]).digest = [])
      ∧ (c.fault = false → (t.dge.ctx[winCtx n]).state = .finalizing
          ∧ ((∀ k : Fin 32, s.stoneOn k = false) → t.fab.queue.length = s.fab.queue.length + padBlocks c.alg c.len)))
  ∧ (∀ (n : Fin 16) (s : State), s.dark = false → 12 ≤ n.val → (s.dge.ctx[n]).state = .finalizing → s.fab.queue = [] →
    Completes (.digestFinalizeDone n) s fun t =>
      (t.dge.ctx[n]).state = .done
      ∧ (t.dge.ctx[n]).digest = (if (s.dge.ctx[n]).fault then [] else digestOf (s.dge.ctx[n]).alg (s.dge.ctx[n]).msg)
      ∧ ∀ k : Fin 16, k ≠ n → t.dge.ctx[k] = s.dge.ctx[k])
  ∧ (∀ (n : Fin 16) (s : State), s.dark = false → n.val < 12 → (s.dge.ctx[n]).state = .finalizing → s.fab.queue = [] →
    Completes (.digestFinalizeDone n) s fun t =>
      (t.dge.ctx[n]).state = .free ∧ (∀ k : Fin 16, k ≠ n → t.dge.ctx[k] = s.dge.ctx[k])
      ∧ ((s.dge.ctx[n]).fault = false → t.dge.hss = s.dge.hss)
      ∧ ((s.dge.ctx[n]).fault = true → ∀ c ok, s.dge.hss = some (c, ok) → t.dge.hss = some (c, false)))
  ∧ (∀ (n : Fin 4) (s : State), s.ownerWrites = true → s.fab.queue = [] → Completes (.dgeFree n) s fun t => (t.dge.ctx[winCtx n]).state = .free
      ∧ (t.dge.ctx[winCtx n]).msg = [] ∧ (t.dge.ctx[winCtx n]).digest = [] ∧ (t.dge.ctx[winCtx n]).cfgLen = (s.dge.ctx[winCtx n]).cfgLen)
  ∧ ∀ (msg key sig : List Byte) (s : State), s.dark = false → Completes (.hssLmsVerify msg key sig) s fun t =>
      t = { s with dge := t.dge, fab := t.fab, gov := { s.gov with dom := t.gov.dom } }
      ∧ (hssParamsOk key sig = false → t.dge.ctx = s.dge.ctx ∧ t.fab = s.fab)
      ∧ (hssParamsOk key sig = true → ∀ k ∈ s.millerFrees.take 8, (t.dge.ctx[k]).state = .finalizing)
      ∧ (s.fab.queue = [] → ∀ k : Fin 16, k ∉ s.millerFrees.take 8 → t.dge.ctx[k] = s.dge.ctx[k])
      ∧ ∃ c ok, t.dge.hss = some (c, ok) ∧ c = s.hssContexts ∧ c ≤ 8 ∧ (c = 0 → ok = false)
        ∧ (ok = true → hssParamsOk key sig = true ∧ Config.sigValid 0x20 key [] msg sig = true)

/-! ### The Ecorn link -/

/-- Training and lanes (11 R340 to R345): an attempt powers its LNK domain (17 R514, R515), and one that succeeds after the port was down brings it to ACTIVE on the chosen lanes with its hop numbers and credit counters anew and its pools' sizes granted; a failed attempt is counted and the third takes the port down; a lane fault retrains the port with its replay buffer and credit counters kept, and a fifth transient within 60 s retires the lane; a port that goes down discards what waits to leave through it. That HSEQ starts at 0 and that an attempt shows one TRAIN block a step are the model's choices (DESIGN CHOICE log 11). -/
def Obligations.LinkTrainingMovesPorts : Prop :=
  (∀ (l : LinkId) (good peer : BitVec 4) (dev : Bool) (s : State), (s.lport l).tstate ≠ 6 → (s.lport l).width = 0 → s.gov.state ≠ .deep →
      s.dark = false → s.gov.porstLow = false → s.gov.vddl = true → s.gov.vddlh = true → s.gov.refclk = true →
      good &&& ~~~(s.lport l).retired &&& peer ≠ 0 →
    Completes (.linkTrain l true good peer dev) s fun t =>
      (t.lport l).tstate = 6 ∧ (t.lport l).peerRole = (if dev then 1 else 2) ∧ (t.lport l).failedTries = 0
      ∧ (t.lport l).inService = chosenLanes (good &&& ~~~(s.lport l).retired &&& peer) ∧ (t.lport l).width = popcount (t.lport l).inService
      ∧ (t.lport l).txSeq = 0 ∧ (t.lport l).rxSeq = 0 ∧ (∀ i : Fin 4, (t.lport l).c[i] = 0 ∧ (t.lport l).used[i] = 0 ∧ (t.lport l).glast[i] = 0)
      ∧ (t.lport l).g.toList = [32, 32, 128, 128] ∧ raised t (linkSrc l) ∧ t.lport (otherLink l) = s.lport (otherLink l)
      ∧ (t.gov.dom.toList.getD (lnkDomain l) .off = .on) ∧ onlyLink (s.powerDomain (lnkDomain l)) t
      ∧ t.out = s.out ++ [trainOut l 1 (~~~(s.lport l).retired), trainOut l 2 (~~~(s.lport l).retired), trainOut l 3 (~~~(s.lport l).retired),
          trainOut l 4 (good &&& ~~~(s.lport l).retired), trainOut l 5 (good &&& ~~~(s.lport l).retired)])
  ∧ (∀ (l : LinkId) (good peer : BitVec 4) (dev : Bool) (s : State), (s.lport l).tstate ≠ 6 → (s.lport l).failedTries ≠ 2 → s.gov.state ≠ .deep →
      s.dark = false → s.gov.porstLow = false →
    exec (.linkTrain l false good peer dev) s
      = .next (((s.powerDomain (lnkDomain l)).modLport l fun x => { x with energy := false, tstate := 1, failedTries := x.failedTries + 1 }).emit
          (trainOut l 1 (~~~(s.lport l).retired))))
  ∧ (∀ (l : LinkId) (good peer : BitVec 4) (dev : Bool) (s : State), (s.lport l).tstate ≠ 6 → (s.lport l).failedTries = 2 → s.gov.state ≠ .deep →
      s.dark = false → s.gov.porstLow = false →
    Completes (.linkTrain l false good peer dev) s fun t => (t.lport l).tstate = 0 ∧ (t.lport l).width = 0 ∧ raised t (linkSrc l + 1))
  ∧ (∀ (l : LinkId) (energy dev : Bool) (good peer : BitVec 4) (s : State), (s.lport l).tstate = 6 ∨ s.gov.state = .deep ∨ s.dark = true ∨ s.gov.porstLow = true →
    exec (.linkTrain l energy good peer dev) s = .next s)
  ∧ (∀ (l : LinkId) (s : State), (s.lport l).tstate = 0 → s.gov.state ≠ .deep → s.dark = false →
    exec (.linkDownRetry l) s = .next (s.modLport l fun x => { x with tstate := 1 }))
  ∧ (∀ (l : LinkId) (s : State), (s.lport l).tstate ≠ 0 ∨ s.gov.state = .deep ∨ s.dark = true → exec (.linkDownRetry l) s = .next s)
  ∧ (∀ (l : LinkId) (s : State), s.dark = false → (s.lport l).tstate ≠ 0 → Completes (.linkPortDown l) s fun t =>
      (t.lport l).tstate = 0 ∧ (t.lport l).width = 0 ∧ (t.lport l).inService = 0 ∧ (t.lport l).replay = [] ∧ (t.lport l).txq = []
      ∧ (t.lport (otherLink l)).fwd = [] ∧ (t.lport (otherLink l)).tstate = (s.lport (otherLink l)).tstate
      ∧ (t.lport l).cnt[(13 : Fin 14)] = (s.lport l).cnt[(13 : Fin 14)]
          + BitVec.ofNat 32 ((s.lport l).replay.length + (s.lport l).txq.length + (s.lport (otherLink l)).fwd.length)
      ∧ raised t (linkSrc l + 1) ∧ t.evt.epoch = (if s.facesOwner l then (s.evt.epoch + 1) % 16 else s.evt.epoch) ∧ onlyLink s t)
  ∧ (∀ (l : LinkId) (i : Fin 4) (s : State), s.lnkOn l = true → (s.lport l).inService.getLsbD i.val = true →
    Completes (.laneFault l i) s fun t =>
      (t.lport l).tstate = 1 ∧ (t.lport l).cntLaneFlt[i] = (s.lport l).cntLaneFlt[i] + 1
      ∧ (t.lport l).cnt[(0 : Fin 14)] = (s.lport l).cnt[(0 : Fin 14)] + 1 ∧ raised t (linkSrc l + 4)
      ∧ (t.lport l).replay.map Replay.frame = (s.lport l).replay.map Replay.frame ∧ (t.lport l).c = (s.lport l).c ∧ (t.lport l).g = (s.lport l).g
      ∧ (4 < (recent s.now 60000000000 (s.lport l).transients[i]).length → (t.lport l).retired.getLsbD i.val = true)
      ∧ ((recent s.now 60000000000 (s.lport l).transients[i]).length ≤ 4 → (t.lport l).retired = (s.lport l).retired)
      ∧ t.lport (otherLink l) = s.lport (otherLink l) ∧ onlyLink s t)
  ∧ (∀ (l : LinkId) (i : Fin 4) (s : State), s.lnkOn l = false ∨ (s.lport l).inService.getLsbD i.val = false →
    exec (.laneFault l i) s = .next s)
  ∧ (∀ (l : LinkId) (i : Fin 4) (sync : BitVec 2) (kind : Byte) (bits : BitVec 56) (s : State), laneError sync kind = false →
    exec (.laneBlockReceive l i sync kind bits) s = .next s)
  ∧ (∀ (l : LinkId) (i : Fin 4) (sync : BitVec 2) (kind : Byte) (bits : BitVec 56) (s : State), s.lnkOn l = true →
      (s.lport l).inService.getLsbD i.val = true → laneError sync kind = true →
    Completes (.laneBlockReceive l i sync kind bits) s fun t =>
      (t.lport l).cntLaneErr[i] = (s.lport l).cntLaneErr[i] + 1
      ∧ ((recent s.now 1000000 (s.lport l).laneErrs[i]).length < 16 → (t.lport l).tstate = 6 ∧ (t.lport l).cntLaneFlt = (s.lport l).cntLaneFlt)
      ∧ (16 ≤ (recent s.now 1000000 (s.lport l).laneErrs[i]).length →
          (t.lport l).tstate = 1 ∧ (t.lport l).cntLaneFlt[i] = (s.lport l).cntLaneFlt[i] + 1) ∧ onlyLink s t)
  ∧ ∀ (l : LinkId) (s : State), s.lnkOn l = true → Completes (.skipAlignInsert l) s fun t =>
      t.out = s.out ++ skipOut l (s.lport l).inService
          :: (if ((s.lport l).blocks + 4096) % 16384 = 0 then [alignOut l (s.lport l).inService] else [])
      ∧ (t.lport l).blocks = ((s.lport l).blocks + 4096) % 16384 ∧ onlyLink s t

/-- Starting and receiving frames (11 R349, R356 to R363, R365): a port starts its own frame when replay room, credit and the VC0 limit permit, under the next HSEQ, charging its credits and keeping a copy; a forwarded frame frees its credits on the port it came in by; a frame with the expected number and good CRCs is accepted once, a repeated number is discarded as a duplicate, any other number, a header CRC error and a payload CRC error that is not a stomp are answered by one NAK and accept nothing, a stomped frame is accepted and dropped with its credits returned, a frame whose CRC fails while it is cut through leaves stomped, and one beyond its credits is a credit overflow. The window of 2,048 numbers for a duplicate and the exit port on which a frame without a route counts are the model's readings (DEDUCED log 30). -/
def Obligations.FramesStartAndArrive : Prop :=
  (∀ (l : LinkId) (f : Frame) (rest : List Frame) (s : State), s.lnkOn l = true → (s.lport l).txq = f :: rest → f.vc = false →
      (s.lport (otherLink l)).fwd = [] → (s.lport l).held + f.padded ≤ 16384 → (s.lport l).vc0Used s.now + f.padded ≤ 2048 →
      (s.lport l).hasCredit (poolOf false (!s.chargesTerm l f)) f.cost = true →
    Completes (.frameTransmit l) s fun t =>
      t.out = s.out ++ [Out.link l (striped (s.lport l).inService ((s.lport l).nextIndex l) (frameBlocks (s.lport l).txSeq f false))] ∧ (t.lport l).txq = rest ∧ (t.lport l).txSeq = ((s.lport l).txSeq + 1) % 4096
      ∧ (t.lport l).replay = (s.lport l).replay ++ [{ hseq := (s.lport l).txSeq, frame := f, stomped := false, sends := 0 }]
      ∧ (t.lport l).c[poolOf false (!s.chargesTerm l f)] = (s.lport l).c[poolOf false (!s.chargesTerm l f)] + BitVec.ofNat 8 f.cost
      ∧ t.lport (otherLink l) = s.lport (otherLink l) ∧ onlyLink s t)
  ∧ (∀ (l : LinkId) (s : State), s.lnkOn l = false ∨ ((s.lport l).txq = [] ∧ (s.lport (otherLink l)).fwd = []) →
    exec (.frameTransmit l) s = .next s)
  ∧ (∀ (l : LinkId) (f : Frame) (rest : List Frame) (s : State), s.lnkOn (otherLink l) = true → (s.lport l).fwd = f :: rest → f.vc = false →
      (s.lport (otherLink l)).txq = [] → (s.lport (otherLink l)).held + f.padded ≤ 16384 →
      (s.lport (otherLink l)).vc0Used s.now + f.padded ≤ 2048 →
      (s.lport (otherLink l)).hasCredit (poolOf false (!s.chargesTerm (otherLink l) f)) f.cost = true →
    Completes (.frameForward l) s fun t =>
      t.out = s.out ++ [Out.link (otherLink l) (striped (s.lport (otherLink l)).inService ((s.lport (otherLink l)).nextIndex (otherLink l))
          (frameBlocks (s.lport (otherLink l)).txSeq f false))] ∧ (t.lport l).fwd = rest
      ∧ (t.lport l).g[(1 : Fin 4)] = (s.lport l).g[(1 : Fin 4)] + BitVec.ofNat 8 f.cost ∧ (t.lport l).creditDue = true
      ∧ (t.lport (otherLink l)).replay
          = (s.lport (otherLink l)).replay ++ [{ hseq := (s.lport (otherLink l)).txSeq, frame := f, stomped := false, sends := 0 }]
      ∧ onlyLink s t)
  ∧ (∀ (l : LinkId) (h : Nat) (bs : List Byte) (s : State), s.lnkOn l = true → (h + 4096 - (s.lport l).rxSeq) % 4096 = 0 →
      hcrcOk bs = true → crcOk bs = true → formatOk bs = true → s.isHere (frameOf bs) = true → (frameOf bs).vc = true →
      (frameOf bs).cost ≤ ((s.lport l).g[(2 : Fin 4)] - (s.lport l).used[(2 : Fin 4)]).toNat →
    Completes (.frameReceive l h bs) s fun t =>
      (t.lport l).term1 = (s.lport l).term1 ++ [frameOf bs] ∧ (t.lport l).rxSeq = ((s.lport l).rxSeq + 1) % 4096 ∧ (t.lport l).ackDue = true
      ∧ (t.lport l).nakSent = false ∧ (t.lport l).used[(2 : Fin 4)] = (s.lport l).used[(2 : Fin 4)] + BitVec.ofNat 8 (frameOf bs).cost
      ∧ t.lport (otherLink l) = s.lport (otherLink l) ∧ t.out = s.out ∧ onlyLink s t)
  ∧ (∀ (l : LinkId) (h : Nat) (bs : List Byte) (s : State), s.lnkOn l = true → (h + 4096 - (s.lport l).rxSeq) % 4096 = 0 →
      hcrcOk bs = true → crcOk bs = true → formatOk bs = true → s.isHere (frameOf bs) = false →
      (9 ≤ (frameOf bs).dest ∧ (frameOf bs).dest ≤ 14) ∨ (s.lport (otherLink l)).up = false →
      (frameOf bs).cost ≤ ((s.lport l).g[s.rxPool (frameOf bs)] - (s.lport l).used[s.rxPool (frameOf bs)]).toNat →
    Completes (.frameReceive l h bs) s fun t =>
      (t.lport (otherLink l)).cnt[(12 : Fin 14)] = (s.lport (otherLink l)).cnt[(12 : Fin 14)] + 1 ∧ (t.lport l).fwd = (s.lport l).fwd
      ∧ (t.lport l).term0 = (s.lport l).term0 ∧ (t.lport l).term1 = (s.lport l).term1 ∧ (t.lport l).rxSeq = ((s.lport l).rxSeq + 1) % 4096
      ∧ (t.lport l).g[s.rxPool (frameOf bs)] = (s.lport l).g[s.rxPool (frameOf bs)] + BitVec.ofNat 8 (frameOf bs).cost ∧ onlyLink s t)
  ∧ (∀ (l : LinkId) (h : Nat) (bs : List Byte) (s : State), s.lnkOn l = true → (h + 4096 - (s.lport l).rxSeq) % 4096 = 0 →
      hcrcOk bs = true → crcOk bs = true →
      ((s.lport l).g[s.rxPool (frameOf bs)] - (s.lport l).used[s.rxPool (frameOf bs)]).toNat < (frameOf bs).cost →
    Completes (.frameReceive l h bs) s fun t =>
      (t.lport l).cnt[(10 : Fin 14)] = (s.lport l).cnt[(10 : Fin 14)] + 1 ∧ raised t (linkSrc l + 5) ∧ (t.lport l).term0 = (s.lport l).term0
      ∧ (t.lport l).term1 = (s.lport l).term1 ∧ (t.lport l).fwd = (s.lport l).fwd ∧ onlyLink s t)
  ∧ (∀ (l : LinkId) (h : Nat) (bs : List Byte) (s : State), s.lnkOn l = true → 2048 ≤ (h + 4096 - (s.lport l).rxSeq) % 4096 →
    exec (.frameReceive l h bs) s = .next (s.modLport l fun y => y.count 9))
  ∧ (∀ (l : LinkId) (h : Nat) (bs : List Byte) (s : State), s.lnkOn l = true → 0 < (h + 4096 - (s.lport l).rxSeq) % 4096 →
      (h + 4096 - (s.lport l).rxSeq) % 4096 < 2048 → (s.lport l).nakSent = true → exec (.frameReceive l h bs) s = .next s)
  ∧ (∀ (l : LinkId) (h : Nat) (bs : List Byte) (s : State), s.lnkOn l = true →
      ((0 < (h + 4096 - (s.lport l).rxSeq) % 4096 ∧ (h + 4096 - (s.lport l).rxSeq) % 4096 < 2048 ∧ (s.lport l).nakSent = false)
        ∨ ((h + 4096 - (s.lport l).rxSeq) % 4096 = 0 ∧ hcrcOk bs = false)) →
    Completes (.frameReceive l h bs) s fun t =>
      t.out = s.out ++ [Out.link l [(laneAt (s.lport l).inService ((s.lport l).nextIndex l), ackBlock (((s.lport l).rxSeq + 4095) % 4096) true)]] ∧ (t.lport l).nakSent = true
      ∧ (t.lport l).cnt[(5 : Fin 14)] = (s.lport l).cnt[(5 : Fin 14)] + 1 ∧ (t.lport l).rxSeq = (s.lport l).rxSeq
      ∧ (t.lport l).term0 = (s.lport l).term0 ∧ (t.lport l).term1 = (s.lport l).term1 ∧ t.lport (otherLink l) = s.lport (otherLink l)
      ∧ onlyLink s t)
  ∧ (∀ (l : LinkId) (h : Nat) (bs : List Byte) (s : State), s.lnkOn l = true → (h + 4096 - (s.lport l).rxSeq) % 4096 = 0 →
      hcrcOk bs = true → crcOk bs = false → crcStomped bs = false →
    Completes (.frameReceive l h bs) s fun t =>
      (t.lport l).cnt[(2 : Fin 14)] = (s.lport l).cnt[(2 : Fin 14)] + 1 ∧ (t.lport l).cnt[(5 : Fin 14)] = (s.lport l).cnt[(5 : Fin 14)] + 1
      ∧ (t.lport l).nakSent = true ∧ (t.lport l).rxSeq = (s.lport l).rxSeq ∧ (t.lport l).term0 = (s.lport l).term0
      ∧ (t.lport l).term1 = (s.lport l).term1 ∧ (t.lport l).fwd = (s.lport l).fwd ∧ (t.lport l).used = (s.lport l).used ∧ onlyLink s t
      ∧ (s.cutsThrough l (frameOf bs) = false → t.lport (otherLink l) = s.lport (otherLink l) ∧ t.out = s.out
          ++ [Out.link l [(laneAt (s.lport l).inService ((s.lport l).nextIndex l), ackBlock (((s.lport l).rxSeq + 4095) % 4096) true)]])
      ∧ (s.cutsThrough l (frameOf bs) = true →
          (t.lport (otherLink l)).cnt[(4 : Fin 14)] = (s.lport (otherLink l)).cnt[(4 : Fin 14)] + 1
          ∧ (t.lport (otherLink l)).replay = (s.lport (otherLink l)).replay
              ++ [{ hseq := (s.lport (otherLink l)).txSeq, frame := frameOf bs, stomped := true, sends := 0 }]))
  ∧ (∀ (l : LinkId) (h : Nat) (bs : List Byte) (s : State), s.lnkOn l = true → (h + 4096 - (s.lport l).rxSeq) % 4096 = 0 →
      hcrcOk bs = true → crcOk bs = false → crcStomped bs = true →
      (frameOf bs).cost ≤ ((s.lport l).g[s.rxPool (frameOf bs)] - (s.lport l).used[s.rxPool (frameOf bs)]).toNat →
    Completes (.frameReceive l h bs) s fun t =>
      (t.lport l).cnt[(3 : Fin 14)] = (s.lport l).cnt[(3 : Fin 14)] + 1 ∧ (t.lport l).rxSeq = ((s.lport l).rxSeq + 1) % 4096
      ∧ (t.lport l).ackDue = true ∧ (t.lport l).term0 = (s.lport l).term0 ∧ (t.lport l).term1 = (s.lport l).term1
      ∧ (t.lport l).fwd = (s.lport l).fwd
      ∧ (t.lport l).g[s.rxPool (frameOf bs)] = (s.lport l).g[s.rxPool (frameOf bs)] + BitVec.ofNat 8 (frameOf bs).cost
      ∧ (t.lport l).used[s.rxPool (frameOf bs)] = (s.lport l).used[s.rxPool (frameOf bs)] + BitVec.ofNat 8 (frameOf bs).cost
      ∧ (t.lport l).creditDue = true ∧ onlyLink s t
      ∧ (s.cutsThrough l (frameOf bs) = false → t.lport (otherLink l) = s.lport (otherLink l) ∧ t.out = s.out))
  ∧ (∀ (l : LinkId) (h : Nat) (bs : List Byte) (s : State), s.lnkOn l = true → (h + 4096 - (s.lport l).rxSeq) % 4096 = 0 →
      hcrcOk bs = true → crcOk bs = false → crcStomped bs = true →
      ((s.lport l).g[s.rxPool (frameOf bs)] - (s.lport l).used[s.rxPool (frameOf bs)]).toNat < (frameOf bs).cost →
    Completes (.frameReceive l h bs) s fun t =>
      (t.lport l).cnt[(10 : Fin 14)] = (s.lport l).cnt[(10 : Fin 14)] + 1 ∧ raised t (linkSrc l + 5) ∧ onlyLink s t)
  ∧ ∀ (l : LinkId) (h : Nat) (bs : List Byte) (s : State), s.lnkOn l = false → exec (.frameReceive l h bs) s = .next s

/-- Acknowledgement, replay and credits (11 R357, R358, R361, R362): an ACK frees exactly the frames it covers and a NAK resends the others in order; an accepted frame is acknowledged with the last number accepted; 2 µs without a covering ACK resend the whole buffer; the fourth replay of a frame retrains the port; CREDIT carries the pools' counters. -/
def Obligations.AcknowledgementsAndCredits : Prop :=
  (∀ (l : LinkId) (a : Nat) (s : State), s.lnkOn l = true →
    exec (.ackReceive l a false) s = .next (s.modLport l fun x => { x with replay := x.uncovered a }))
  ∧ (∀ (l : LinkId) (a : Nat) (s : State), s.lnkOn l = true → (∀ r ∈ (s.lport l).uncovered a, r.sends < 3) →
    Completes (.ackReceive l a true) s fun t =>
      t.out = s.out ++ resent l (s.lport l).inService (s.lport l).stream ((s.lport l).uncovered a)
      ∧ (t.lport l).cnt[(6 : Fin 14)] = (s.lport l).cnt[(6 : Fin 14)] + 1
      ∧ (t.lport l).cnt[(7 : Fin 14)] = (s.lport l).cnt[(7 : Fin 14)] + BitVec.ofNat 32 ((s.lport l).uncovered a).length
      ∧ (t.lport l).replay = ((s.lport l).uncovered a).map (fun r => { r with sends := r.sends + 1 }) ∧ (t.lport l).tstate = 6
      ∧ t.lport (otherLink l) = s.lport (otherLink l) ∧ onlyLink s t)
  ∧ (∀ (l : LinkId) (a : Nat) (nak : Bool) (s : State), s.lnkOn l = false → exec (.ackReceive l a nak) s = .next s)
  ∧ (∀ (l : LinkId) (s : State), s.lnkOn l = true → (s.lport l).ackDue = true →
    exec (.ackTimer l) s
      = .next ((s.modLport l fun x => { x with ackDue := false }).sendBlocks l [ackBlock (((s.lport l).rxSeq + 4095) % 4096) false]))
  ∧ (∀ (l : LinkId) (s : State), (s.lport l).ackDue = false → exec (.ackTimer l) s = .next s)
  ∧ (∀ (l : LinkId) (s : State), s.lnkOn l = true → (s.lport l).replay ≠ [] → (∀ r ∈ (s.lport l).replay, r.sends < 3) →
    Completes (.replayTimeout l) s fun t =>
      t.out = s.out ++ resent l (s.lport l).inService (s.lport l).stream (s.lport l).replay ∧ (t.lport l).tstate = 6
      ∧ (t.lport l).cnt[(8 : Fin 14)] = (s.lport l).cnt[(8 : Fin 14)] + 1
      ∧ (t.lport l).replay = (s.lport l).replay.map (fun r => { r with sends := r.sends + 1 }) ∧ onlyLink s t)
  ∧ (∀ (l : LinkId) (r : Replay) (s : State), s.lnkOn l = true → r ∈ (s.lport l).replay → 3 ≤ r.sends →
    Completes (.replayTimeout l) s fun t => (t.lport l).tstate = 1 ∧ raised t (linkSrc l + 4) ∧ onlyLink s t)
  ∧ (∀ (l : LinkId) (s : State), (s.lport l).replay = [] → exec (.replayTimeout l) s = .next s)
  ∧ (∀ (l : LinkId) (a b c d : Byte) (s : State), s.lnkOn l = true →
    exec (.creditReceive l a b c d) s = .next (s.modLport l fun x => { x with glast := #v[a, b, c, d] }))
  ∧ (∀ (l : LinkId) (s : State), s.lnkOn l = true →
    exec (.creditSend l) s = .next ((s.modLport l fun x => { x with creditDue := false }).sendBlocks l [creditBlock (s.lport l).g]))
  ∧ ∀ (l : LinkId) (a b c d : Byte) (s : State), s.lnkOn l = false →
      exec (.creditReceive l a b c d) s = .next s ∧ exec (.creditSend l) s = .next s

/-- Register frames (11 R351 to R354, R368): a read answers its words little-endian in ascending order under its own TAG and EPOCH, and answers RANGE beyond the space; a write by a master that is not the owner answers DENIED and writes nothing; the owner's write of EVT_MASK takes effect and answers OK. The credits of the frame taken come free. Bulk data (11 R355, 07 R228, R231): the oldest VC1 frame of the open transfer delivers its bytes there; one of no open transfer is discarded and counted; one that the hopper has no room for waits in the pool. -/
def Obligations.RegisterFramesAndBulkAreServed : Prop :=
  ((∀ (l : LinkId) (f : Frame) (s : State), s.dark = false → served s l f 1 → f.payload = [] → f.argA % 4 = 0 → 1 ≤ f.argB → f.argB ≤ 64 →
      f.argA + 4 * f.argB ≤ 0x1000000 →
    Completes (.regRd l) s fun t =>
      responded s t f 2 0 f.argA f.argB ((s.readWords f.argA f.argB).flatMap fun w => leBytes 4 w.toNat)
      ∧ (t.lport l).g[(0 : Fin 4)] = (s.lport l).g[(0 : Fin 4)] + BitVec.ofNat 8 f.cost
      ∧ t = { s.afterRead f.argA f.argB with link := t.link })
  ∧ (∀ (l : LinkId) (f : Frame) (s : State), s.dark = false → served s l f 1 → f.payload = [] → f.argA % 4 = 0 → 1 ≤ f.argB → f.argB ≤ 64 →
      0x1000000 < f.argA + 4 * f.argB →
    Completes (.regRd l) s fun t => responded s t f 2 2 f.argA f.argB [] ∧ t = { s with link := t.link })
  ∧ (∀ (l : LinkId) (f : Frame) (m : Master) (k : Nat) (w : Word) (s : State), s.dark = false → served s l f 3 → masterOf f.src = some m → m ≠ .m14 →
      s.takesWrites m = true → s.fan.owner = some m → f.argB = 0 → k < 32 → f.argA = 0x4080 + 4 * k → f.payload = leBytes 4 w.toNat →
    Completes (.regWr l) s fun t => responded s t f 4 0 f.argA 0 [] ∧ wordAt t.evt.mask k = w
      ∧ (∀ j, j < 32 → j ≠ k → wordAt t.evt.mask j = wordAt s.evt.mask j) ∧ t.evt.stat = s.evt.stat
      ∧ t = { s with link := t.link, evt := { s.evt with mask := t.evt.mask } })
  ∧ (∀ (l : LinkId) (f : Frame) (m : Master) (s : State), s.dark = false → served s l f 3 → masterOf f.src = some m → m ≠ .m14 → s.fan.owner ≠ some m →
      f.argB = 0 → f.argA % 4 = 0 → 4 ≤ f.payload.length → f.argA / 0x4000 = 1 → f.argA + f.payload.length ≤ 0x1000000 →
    Completes (.regWr l) s fun t => responded s t f 4 1 f.argA 0 [] ∧ t.link.cntDenied = s.link.cntDenied + 1 ∧ t = { s with link := t.link })
  ∧ (∀ (l : LinkId) (f : Frame) (s : State), s.dark = false → served s l f 3 → f.argB = 0 → f.argA % 4 = 0 → f.payload ≠ [] → 0x1000000 < f.argA + f.payload.length →
    Completes (.regWr l) s fun t => responded s t f 4 2 f.argA 0 [] ∧ t = { s with link := t.link })
  ∧ ∀ (l : LinkId) (s : State), (s.lport l).term0 = [] → exec (.regRd l) s = .next s ∧ exec (.regWr l) s = .next s)
  ∧ ((∀ (l : LinkId) (f : Frame) (rest : List Frame) (x : Transfer) (s : State), s.dark = false → (s.lport l).term1 = f :: rest → s.hop.current = some x →
      x.id = f.argB → s.hop.takes f.argB f.argA f.payload = true →
    Completes (.bulk l) s fun t => t.hop = { s.hop with current := some (x.take f.argA f.payload).1 } ∧ (t.lport l).term1 = rest
      ∧ t.link.cntBulkDrop = s.link.cntBulkDrop + BitVec.ofNat 32 (x.take f.argA f.payload).2
      ∧ (t.lport l).g[(2 : Fin 4)] = (s.lport l).g[(2 : Fin 4)] + BitVec.ofNat 8 f.cost
      ∧ (∀ p, (t.port p).state = (s.port p).state ∧ (t.port p).brake = (s.port p).brake)
      ∧ t = { s with hop := t.hop, link := t.link, ports := t.ports, fab := t.fab, dge := t.dge, gov := { s.gov with dom := t.gov.dom } })
  ∧ (∀ (l : LinkId) (f : Frame) (rest : List Frame) (s : State), s.dark = false → (s.lport l).term1 = f :: rest →
      (s.hop.current = none ∨ ∃ x, s.hop.current = some x ∧ x.id ≠ f.argB) →
    Completes (.bulk l) s fun t => t.link.cntBulkDrop = s.link.cntBulkDrop + 1 ∧ (t.lport l).term1 = rest ∧ t = { s with link := t.link })
  ∧ (∀ (l : LinkId) (f : Frame) (rest : List Frame) (s : State), (s.lport l).term1 = f :: rest → s.hop.takes f.argB f.argA f.payload = false →
    exec (.bulk l) s = .next s)
  ∧ ∀ (l : LinkId) (s : State), (s.lport l).term1 = [] → exec (.bulk l) s = .next s)

/-- Event frames (11 R369, R370): the oldest event for a link owner goes out under the next tag while fewer than 32 wait, an unacknowledged one is sent again unchanged, and an EVT_ACK retires exactly the frame of its tag and epoch or is counted as stale. Enumeration (11 R371, R372): a SEEK with a device at LA passes on and changes no ID, and at the LA end of the chain the device takes node 1; an ASSIGN on LA gives its node ID, 0 beyond the eighth device, and on LB is a format error; a changed ID ends the session; DONE records the count and the overflow and passes on. -/
def Obligations.EventFramesAndEnumeration : Prop :=
  ((∀ (r : Record) (rest : List Record) (n : Nat) (s : State), s.dark = false → s.evt.toOwner = r :: rest → s.ownerNode = some n → s.evt.unacked.length < 32 →
      s.sys.node ≠ 0 → (s.lport (s.portTo n)).up = true →
    Completes .evtFrameSend s fun t => t.evt = { s.evt with toOwner := rest, unacked := s.evt.unacked ++ [(s.evt.nextTag, s.evt.epoch, r)],
                                                            nextTag := (s.evt.nextTag + 1) % 1024 }
      ∧ (t.lport (s.portTo n)).txq = (s.lport (s.portTo n)).txq
          ++ [{ type := 6, dest := n, src := s.sys.node, vc := false, bcast := false, epoch := s.evt.epoch, tag := s.evt.nextTag,
                status := 0, argA := 0, argB := 0, payload := r.toBytes }]
      ∧ t = { s with evt := t.evt, link := t.link })
  ∧ (∀ s : State, s.evt.toOwner = [] ∨ 32 ≤ s.evt.unacked.length ∨ s.ownerNode = none → exec .evtFrameSend s = .next s)
  ∧ (∀ (n : Nat) (s : State), s.dark = false → s.ownerNode = some n → s.sys.node ≠ 0 → (s.lport (s.portTo n)).up = true →
    Completes .evtResend s fun t => t.evt = s.evt ∧ t = { s with link := t.link }
      ∧ (t.lport (s.portTo n)).txq = (s.lport (s.portTo n)).txq ++ s.evt.unacked.map fun e =>
          { type := 6, dest := n, src := s.sys.node, vc := false, bcast := false, epoch := e.2.1, tag := e.1, status := 0, argA := 0, argB := 0,
            payload := e.2.2.toBytes })
  ∧ (∀ (l : LinkId) (f : Frame) (rest : List Frame) (s : State), s.dark = false → (s.lport l).term0 = f :: rest → f.type = 7 →
    Completes (.evtAck l) s fun t => t.evt = { s.evt with unacked := s.evt.unacked.filter fun e => !(e.1 == f.tag && e.2.1 == f.epoch) }
      ∧ (t.link.cntStale = if s.evt.unacked.any (fun e => e.1 == f.tag && e.2.1 == f.epoch) then s.link.cntStale else s.link.cntStale + 1)
      ∧ (t.lport l).term0 = rest ∧ t = { s with evt := t.evt, link := t.link })
  ∧ ∀ (l : LinkId) (s : State), (s.lport l).term0 = [] → exec (.evtAck l) s = .next s)
  ∧ ((∀ (f : Frame) (rest : List Frame) (s : State), s.dark = false → s.link.lb.term0 = f :: rest → f.type = 8 → f.argB % 16 = 1 → s.deviceOn .la = true →
    Completes (.enumSeek .lb) s fun t => t.sys = s.sys ∧ t.fan = s.fan ∧ t.link.lb.term0 = rest
      ∧ ∃ g, t.link.la.txq = s.link.la.txq ++ [g] ∧ g.type = 8 ∧ g.argB = 1)
  ∧ (∀ (l : LinkId) (f : Frame) (rest : List Frame) (s : State), s.dark = false → (s.lport l).term0 = f :: rest → f.type = 8 → f.argB % 16 = 1 →
      (l = .la ∨ s.deviceOn .la = false) →
    Completes (.enumSeek l) s fun t => t.sys.node = 1 ∧ raised t 656
      ∧ (s.deviceOn .lb = true → ∃ g ∈ t.link.lb.txq, g.type = 8 ∧ g.argB = 2 ∧ g.argA = 2 ∧ g.src = 1)
      ∧ (s.deviceOn .lb = false → t.sys.count = 1 ∧ t.sys.overflow = false))
  ∧ (∀ (f : Frame) (rest : List Frame) (s : State), s.dark = false → s.link.la.term0 = f :: rest → f.type = 8 → f.argB % 16 = 2 → 1 ≤ f.argA → f.argA ≤ 8 →
    Completes (.enumAssign .la) s fun t => t.sys.node = f.argA ∧ raised t 656
      ∧ (s.deviceOn .lb = true → ∃ g ∈ t.link.lb.txq, g.type = 8 ∧ g.argB = 2 ∧ g.argA = f.argA + 1)
      ∧ (s.deviceOn .lb = false → t.sys.count = f.argA ∧ t.sys.overflow = false)
      ∧ (s.sys.node ≠ 0 → s.sys.node ≠ f.argA → s.fan.owner.isSome = true → t.fan.owner = none ∧ raised t 658))
  ∧ (∀ (f : Frame) (rest : List Frame) (s : State), s.dark = false → s.link.la.term0 = f :: rest → f.type = 8 → f.argB % 16 = 2 → 8 < f.argA →
    Completes (.enumAssign .la) s fun t => t.sys.node = 0 ∧ t.sys.count = 8 ∧ t.sys.overflow = true ∧ raised t 657)
  ∧ (∀ (f : Frame) (rest : List Frame) (s : State), s.dark = false → s.link.lb.term0 = f :: rest → f.type = 8 → f.argB % 16 = 2 →
    Completes (.enumAssign .lb) s fun t => t.link.lb.cnt[(11 : Fin 14)] = s.link.lb.cnt[(11 : Fin 14)] + 1 ∧ t = { s with link := t.link })
  ∧ (∀ (l : LinkId) (f : Frame) (rest : List Frame) (s : State), s.dark = false → (s.lport l).term0 = f :: rest → f.type = 8 → f.argB % 16 = 3 →
    Completes (.enumDone l) s fun t => t.sys = { s.sys with count := f.argA % 16, overflow := f.argB.testBit 4 }
      ∧ (f.argB.testBit 4 = true → raised t 657)
      ∧ ((s.lport (otherLink l)).tstate = 6 → ∃ g ∈ (t.lport (otherLink l)).txq, g.type = 8 ∧ g.argB % 16 = 3 ∧ g.argA = f.argA ∧ g.bcast = f.bcast))
  ∧ ∀ (l : LinkId) (s : State), (s.lport l).term0 = [] →
      exec (.enumSeek l) s = .next s ∧ exec (.enumAssign l) s = .next s ∧ exec (.enumDone l) s = .next s)

/-! ### The fantail -/

/-- A CLAIM (11 R376, R377): a valid one in a window makes its master a candidate, a valid one outside is granted; priority 0, an owned device and an invalid claim are refused with their STATUS, counted and reported, and change no owner. -/
def Obligations.ClaimsAreHeldGrantedOrRefused : Prop :=
  (∀ (l : LinkId) (e : Bool) (f : Frame) (m : Master) (s : State), s.dark = false → fanFrom s l f 2 m → s.fan.prio m ≠ 0 → s.fan.owner = none →
      s.checkClaim m f.payload e = 0 → s.fan.window = true →
    Completes (.claim l e) s fun t => m ∈ t.fan.cands ∧ (∀ k, k ∈ t.fan.cands → k = m ∨ k ∈ s.fan.cands) ∧ t.fan.owner = none ∧ resulted s t f 1
      ∧ t = { s.wakeUp with fan := { s.fan with cands := t.fan.cands }, link := t.link })
  ∧ (∀ (l : LinkId) (e : Bool) (f : Frame) (m : Master) (s : State), s.dark = false → fanFrom s l f 2 m → s.fan.prio m ≠ 0 → s.fan.owner = none →
      s.checkClaim m f.payload e = 0 → s.fan.window = false →
    Completes (.claim l e) s fun t => granted s t m ∧ resulted s t f 0)
  ∧ (∀ (l : LinkId) (e : Bool) (f : Frame) (m : Master) (s : State), s.dark = false → fanFrom s l f 2 m → s.fan.prio m = 0 →
    Completes (.claim l e) s fun t => refused s t ∧ resulted s t f 4 ∧ raised t 662)
  ∧ (∀ (l : LinkId) (e : Bool) (f : Frame) (m : Master) (s : State), s.dark = false → fanFrom s l f 2 m → s.fan.prio m ≠ 0 → s.fan.owner.isSome = true →
    Completes (.claim l e) s fun t => refused s t ∧ resulted s t f 3 ∧ raised t 662)
  ∧ (∀ (l : LinkId) (e : Bool) (f : Frame) (m : Master) (s : State), s.dark = false → fanFrom s l f 2 m → s.fan.prio m ≠ 0 → s.fan.owner = none →
      s.checkClaim m f.payload e ≠ 0 →
    Completes (.claim l e) s fun t => refused s t ∧ resulted s t f (s.checkClaim m f.payload e) ∧ raised t 662)
  ∧ ∀ (l : LinkId) (s : State), (s.lport l).term0 = [] →
      exec (.claim l false) s = .next s ∧ exec (.renew l) s = .next s ∧ exec (.yieldOwner l) s = .next s

/-- RENEW and YIELD (11 R378, R379): the owner's RENEW gives 2 s more; its YIELD ends ownership with its event and opens a window or a directed offer to the named successor; from any other master either is answered NOT_OWNER and counted. Master 14's FAN_SEND (11 R374, 12 R397): while BUSY another KIND changes nothing but POSTERR; else the claim, renewal or yield in FAN_MSG is judged as a frame's is while the miller runs, and its STATUS stands in FAN_RESULT with NEW set and BUSY clear; while it does not run the message waits, BUSY. That the rows serve a posted KIND is the model's choice (DESIGN CHOICE log 103), and that a YIELD drops the nonces as an ownership change does is its reading (DEDUCED log 28). -/
def Obligations.OwnersRenewAndYield : Prop :=
  ((∀ (l : LinkId) (f : Frame) (m : Master) (s : State), s.dark = false → fanFrom s l f 3 m → s.fan.owner = some m →
    Completes (.renew l) s fun t => t.fan.leaseEnd = s.now + 2000000000 ∧ t.fan.owner = some m ∧ t.fan.epoch = s.fan.epoch ∧ resulted s t f 0
      ∧ t.evt = s.evt ∧ t.mbx = s.mbx)
  ∧ (∀ (l : LinkId) (f : Frame) (m : Master) (s : State), s.dark = false → fanFrom s l f 3 m → s.fan.owner ≠ some m →
    Completes (.renew l) s fun t => refused s t ∧ resulted s t f 5 ∧ t.evt = s.evt)
  ∧ (∀ (l : LinkId) (f : Frame) (m : Master) (s : State), s.dark = false → fanFrom s l f 4 m → s.fan.owner = some m → f.payload.length = 4 → field f.payload 0 1 = 0xFF → s.electionOk = true →
      s.fan.window = false →
    Completes (.yieldOwner l) s fun t => t.fan.owner = none ∧ t.fan.window = true ∧ t.fan.round = (s.fan.round + 1) % 256 ∧ raised t 661
      ∧ resulted s t f 0 ∧ t.fan.epoch = s.fan.epoch ∧ t.mbx.nonce = none ∧ t.dbg.nonce = none)
  ∧ (∀ (l : LinkId) (f : Frame) (m k : Master) (s : State), s.dark = false → fanFrom s l f 4 m → s.fan.owner = some m →
      f.payload.length = 4 → field f.payload 0 1 = masterId k →
    Completes (.yieldOwner l) s fun t => t.fan.owner = none ∧ t.fan.directed = some k ∧ t.fan.offered = true
      ∧ t.fan.windowEnd = s.now + 10000000 ∧ raised t 661 ∧ resulted s t f 0)
  ∧ ∀ (l : LinkId) (f : Frame) (m : Master) (s : State), s.dark = false → fanFrom s l f 4 m → s.fan.owner ≠ some m →
      Completes (.yieldOwner l) s fun t => refused s t ∧ resulted s t f 5 ∧ t.evt = s.evt)
  ∧ ((∀ (e : Bool) (s : State), s.takesWrites .m14 = true → s.fan.sendBusy = true →
    (s.fan.sendKind ≠ 2 → exec (.fanSendClaim e) s = .next { s with fan := { s.fan with sendPosterr := true } })
    ∧ (s.fan.sendKind ≠ 3 → exec .fanSendRenew s = .next { s with fan := { s.fan with sendPosterr := true } })
    ∧ (s.fan.sendKind ≠ 4 → exec .fanSendYield s = .next { s with fan := { s.fan with sendPosterr := true } }))
  ∧ (∀ (e : Bool) (s : State), s.takesWrites .m14 = true → s.serves = true → sendOpen s 2 → s.fan.prio14 ≠ 0 → s.fan.owner = none → s.fan.window = false →
      s.checkClaim .m14 (sendMsg s) e = 0 →
    Completes (.fanSendClaim e) s fun t => granted s t .m14 ∧ t.fan.resStatus = 0 ∧ t.fan.resNew = true ∧ t.fan.sendBusy = false
      ∧ t.fan.sendKind = 2 ∧ t.fan.resOwner = some .m14)
  ∧ (∀ (e : Bool) (s : State), s.takesWrites .m14 = true → s.serves = true → sendOpen s 2 → s.fan.prio14 ≠ 0 → s.fan.owner = none →
      s.checkClaim .m14 (sendMsg s) e ≠ 0 →
    Completes (.fanSendClaim e) s fun t => t.fan.owner = none ∧ t.fan.resStatus = s.checkClaim .m14 (sendMsg s) e
      ∧ t.fan.resNew = true ∧ t.fan.sendBusy = false ∧ t.fan.cntRefused = s.fan.cntRefused + 1 ∧ raised t 662)
  ∧ (∀ s : State, s.takesWrites .m14 = true → s.serves = true → sendOpen s 3 →
    Completes .fanSendRenew s fun t => t.fan.sendKind = 3 ∧ t.fan.resNew = true ∧ t.fan.sendBusy = false
      ∧ t.fan.owner = s.fan.owner ∧ t.fan.resStatus = (if s.fan.owner = some .m14 then 0 else 5)
      ∧ (s.fan.owner = some .m14 → t.fan.leaseEnd = s.now + 2000000000) ∧ (s.fan.owner ≠ some .m14 → t.fan.cntRefused = s.fan.cntRefused + 1)
      ∧ t = { (if s.fan.sendBusy then s else s.wakeUp) with fan := t.fan })
  ∧ (∀ s : State, s.takesWrites .m14 = true → s.serves = true → sendOpen s 4 →
    Completes .fanSendYield s fun t => t.fan.sendKind = 4 ∧ t.fan.resNew = true ∧ t.fan.sendBusy = false
      ∧ (s.fan.owner ≠ some .m14 → t.fan.resStatus = 5 ∧ t.fan.owner = s.fan.owner ∧ t.fan.cntRefused = s.fan.cntRefused + 1)
      ∧ (s.fan.owner = some .m14 → (sendMsg s).getD 0 0 = 0xFF → t.fan.resStatus = 0 ∧ t.fan.owner = none ∧ raised t 661))
  ∧ ∀ (e : Bool) (s : State), s.takesWrites .m14 = true → s.serves = false → s.fan.sendBusy = false →
      exec (.fanSendClaim e) s
        = .next { s.wakeUp with fan := { s.fan with sendKind := 2, sendBusy := true, sent := memReads s.fan.msg 0 232 } })

/-- The fantail's timers (11 R377 to R379): the first window, and no later one, opens when no link port is ACTIVE; an election window grants the candidate of the highest priority, ties to the lower master, and a window without candidates closes unowned, but no window ends while a claim received in it is unchecked; an unused directed offer is followed by a window; a lease that runs out ends ownership with its event; that it advances the EVT epoch, drops the nonces and keeps the session epoch is the model's reading (DEDUCED log 28). -/
def Obligations.ElectionTimersDecide : Prop :=
  (∀ s : State, s.dark = false → s.linkUp = false → s.fan.opened = false → s.fan.owner = none → s.fan.window = false → s.electionOk = true →
    Completes .firstWindowTimer s fun t => windowOpened s t)
  ∧ (∀ s : State, s.dark = false → s.linkUp = false → s.fan.opened = false → s.fan.owner = none → s.fan.window = false → s.electionOk = false →
    exec .firstWindowTimer s = .next { s.stir with fan := { s.fan with due := true } })
  ∧ (∀ s : State, s.linkUp = true ∨ s.fan.opened = true → exec .firstWindowTimer s = .next s)
  ∧ (∀ s : State, s.dark = false → s.fan.window = true → s.claimWaits = false → s.fan.cands ≠ [] → Completes .electionWindowExpiry s fun t =>
      ∃ m ∈ s.fan.cands, granted s t m ∧ t.now = max s.now s.fan.windowEnd
        ∧ ∀ k ∈ s.fan.cands, s.fan.prio k < s.fan.prio m ∨ (s.fan.prio k = s.fan.prio m ∧ masterId m ≤ masterId k))
  ∧ (∀ s : State, s.dark = false → s.fan.window = true → s.claimWaits = false → s.fan.cands = [] → Completes .electionWindowExpiry s fun t =>
      t.fan.window = false ∧ t.fan.owner = s.fan.owner ∧ t.fan.epoch = s.fan.epoch ∧ t.fan.resNew = true ∧ t.fan.resOwner = s.fan.owner)
  ∧ (∀ s : State, s.fan.window = false ∨ s.claimWaits = true → exec .electionWindowExpiry s = .next s)
  ∧ (∀ s : State, s.dark = false → s.fan.directed.isSome = true → s.claimWaits = false → s.fan.owner = none → s.fan.window = false → s.electionOk = true →
    Completes .directedOfferExpiry s fun t => t.fan.directed = none ∧ t.fan.window = true ∧ t.fan.nonce = s.draw 256
      ∧ t.now = max s.now s.fan.windowEnd)
  ∧ (∀ s : State, s.fan.directed = none → exec .directedOfferExpiry s = .next s)
  ∧ (∀ s : State, s.dark = false → s.fan.owner.isSome = true → s.fan.leasePaused = none → Completes .leaseExpiry s fun t => t.fan.owner = none ∧ raised t 660
      ∧ t.now = max s.now s.fan.leaseEnd ∧ t.evt.epoch = (s.evt.epoch + 1) % 16 ∧ t.mbx.nonce = none ∧ t.dbg.nonce = none
      ∧ t.fan.epoch = s.fan.epoch ∧ (s.electionOk = true → t.fan.window = true))
  ∧ ∀ s : State, s.fan.owner = none ∨ s.fan.leasePaused.isSome = true → exec .leaseExpiry s = .next s

/-! ### The register map and the black box -/

/-- Register writes by class and master (12 R385, R386, R389, R391, R396): a write by a master that may not write the location, to a read-only block or to a reserved address changes nothing; a W1C bit clears by a 1 and by nothing else; a mask takes the written word, or sets, clears or toggles through its aliases; a counter takes a base write and no alias write; a buffer takes its four bytes and no others; the doorbell and the acknowledgement act as their commands do, and the fantail's KIND sends FAN_MSG, or while BUSY sets POSTERR alone; where the log window's last word is read in the cycle of a write, BASE moves on, but a write of BASE wins and sets HWLOST (R393). In Locked every write but the owner's is refused, in End of life every write (R403; log 115). -/
def Obligations.RegisterWritesFollowTheirClass : Prop :=
  (∀ (m : Master) (a : Nat) (w : Word) (s : State), s.fan.owner ≠ some m → a / 0x4000 ≠ 4 → obsBlock (a / 0x4000) = none →
    exec (.registerWrite m a ⟨w, false⟩) s = .next s)
  ∧ (∀ (m : Master) (a : Nat) (w : Word) (s : State), s.fan.owner = some m →
      (a / 0x4000 ∈ [2, 9, 0xB, 0xE] ∨ (0x12 ≤ a / 0x4000 ∧ a / 0x4000 < 0x20) ∨ 0x40 ≤ a / 0x4000) →
    exec (.registerWrite m a ⟨w, false⟩) s = .next s)
  ∧ (∀ (m k : Master) (b : MbxId) (a : Nat) (w : Word) (s : State), obsBlock (a / 0x4000) = some (k, b) → (s.fan.owner = some m ∨ m ≠ k) →
    exec (.registerWrite m a ⟨w, false⟩) s = .next s)
  ∧ (∀ (m : Master) (k : Nat) (w : Word) (s : State), s.fan.owner = some m → s.dark = false → s.life.state ≠ .endOfLife → k < 32 →
    Completes (.registerWrite m (0x4000 + 4 * k) ⟨w, false⟩) s fun t =>
      (∀ i, i < 32 → t.evt.stat.getLsbD (32 * k + i) = (s.evt.stat.getLsbD (32 * k + i) && !w.getLsbD i))
      ∧ (∀ j, j < 1024 → j / 32 ≠ k → t.evt.stat.getLsbD j = s.evt.stat.getLsbD j)
      ∧ t = { s with evt := { s.evt with stat := t.evt.stat, latch := t.evt.latch } })
  ∧ (∀ (m : Master) (k q : Nat) (w : Word) (s : State), s.fan.owner = some m → s.dark = false → s.life.state ≠ .endOfLife → k < 32 → q < 4 →
    Completes (.registerWrite m (0x4080 + 0x1000 * q + 4 * k) ⟨w, false⟩) s fun t =>
      wordAt t.evt.mask k = (match q with
        | 0 => w | 1 => wordAt s.evt.mask k ||| w | 2 => wordAt s.evt.mask k &&& ~~~w | _ => wordAt s.evt.mask k ^^^ w)
      ∧ (∀ j, j < 32 → j ≠ k → wordAt t.evt.mask j = wordAt s.evt.mask j) ∧ t = { s with evt := { s.evt with mask := t.evt.mask } })
  ∧ (∀ (m : Master) (q : Nat) (w : Word) (s : State), s.fan.owner = some m → s.dark = false → s.life.state ≠ .endOfLife → q < 4 →
    exec (.registerWrite m (0xC300 + 0x1000 * q) ⟨w, false⟩) s
      = .next (if q = 0 then { s with link := { s.link with cntTagDup := w } } else s))
  ∧ (∀ (m : Master) (x : Nat) (w : Word) (s : State), s.fan.owner = some m → s.dark = false → s.life.state ≠ .endOfLife → x % 4 = 0 → x < 0x1000 →
      memWf s.mbx.owner.req = true →
    Completes (.registerWrite m (0x34000 + x) ⟨w, false⟩) s fun t => memWord t.mbx.owner.req x = w ∧ memWf t.mbx.owner.req = true
      ∧ (∀ y, y < x ∨ x + 4 ≤ y → memRead t.mbx.owner.req y = memRead s.mbx.owner.req y)
      ∧ t = { s.wakeUp with mbx := { s.mbx with owner := { s.mbx.owner with req := t.mbx.owner.req } } })
  ∧ (∀ (x : Nat) (w : Word) (s : State), s.takesWrites .m14 = true → x % 4 = 0 → x < 0x100 → memWf s.fan.msg = true →
    Completes (.registerWrite .m14 (0x10100 + x) ⟨w, false⟩) s fun t => memWord t.fan.msg x = w ∧ memWf t.fan.msg = true
      ∧ (∀ y, y < x ∨ x + 4 ≤ y → memRead t.fan.msg y = memRead s.fan.msg y) ∧ t = { s with fan := { s.fan with msg := t.fan.msg } })
  ∧ (∀ (m : Master) (s : State), s.fan.owner = some m → s.dark = false → s.life.state ≠ .endOfLife →
      exec (.registerWrite m 0x30000 ⟨1, false⟩) s = exec (.mailboxDoorbell ⟨.owner, {}⟩) s
      ∧ exec (.registerWrite m 0x30008 ⟨1, false⟩) s = exec (.mailboxRspAck ⟨.owner, {}⟩) s)
  ∧ (∀ (k : Nat) (s : State), s.takesWrites .m14 = true → k ∈ [2, 3, 4] → s.fan.sendBusy = false →
      exec (.registerWrite .m14 0x10004 ⟨BitVec.ofNat 32 k, false⟩) s
        = .next { s.wakeUp with fan := { s.fan with sendKind := k, sendBusy := true, sent := memReads s.fan.msg 0 232 } })
  ∧ (∀ (k : Nat) (s : State), s.takesWrites .m14 = true → k ∈ [2, 3, 4] → s.fan.sendBusy = true →
      exec (.registerWrite .m14 0x10004 ⟨BitVec.ofNat 32 k, false⟩) s = .next { s with fan := { s.fan with sendPosterr := true } })
  ∧ (∀ (m : Master) (a : Nat) (w : Word) (s u : State), a % 4 = 0 → a < 0x1000000 → s.dark = false →
      exec (.registerWrite m a ⟨w, false⟩) s = .next u →
    Completes (.registerWrite m a ⟨w, true⟩) s fun t => t = { u with log := t.log }
      ∧ (s.log.advance = false → t.log = u.log)
      ∧ (s.log.advance = true → s.fan.owner = some m → a = 0x2800C → t.log = { u.log with hwlost := true })
      ∧ (s.log.advance = true → (s.fan.owner ≠ some m ∨ a / 0x4000 ≠ 0x0A ∨ a % 0x1000 ≠ 0x00C) → t.log = { u.log with base := u.log.base + 512 }))
  ∧ (∀ (m : Master) (a : Nat) (w : Word) (s : State), s.takesWrites m = false → exec (.registerWrite m a ⟨w, false⟩) s = .next s)
  ∧ ∀ (m : Master) (a : Nat) (w : Word) (last : Bool) (s : State), a % 4 ≠ 0 → exec (.registerWrite m a ⟨w, last⟩) s = .next s

/-- The log window (12 R402, 16 R507, R512): the byte at offset y is byte y mod 32 of record (BASE + y div 32) mod 65,536, 0xFF in one never written; a read answers the words as they stand, and with ADVANCE set the one that takes the last word moves BASE on by 512. The 0xFF of a record never written and the 512 are the model's choice (DESIGN CHOICE log 66). -/
def Obligations.LogWindowShowsRecords : Prop :=
  (∀ (y i : Nat) (s : State), y % 4 = 0 → y < 0x4000 → i < 4 →
    (s.readReg (0x2C000 + y)).extractLsb' (8 * i) 8
      = (s.log.bytes ((s.log.base.toNat + (y + i) / 32) % 65536)).getD ((y + i) % 32) 0)
  ∧ (∀ (l : Log) (i : Nat), tblGet l.records i = none → l.bytes i = List.replicate 32 0xFF)
  ∧ (∀ (l : Log) (i : Nat) (r : Record), tblGet l.records i = some r → l.bytes i = r.toBytes ∧ r.toBytes.length = 32)
  ∧ (∀ (m : Master) (off n : Nat) (s : State), off % 4 = 0 → 0 < n → off + 4 * n ≤ 0x4000 → s.dark = false →
    Completes (.logWindowRead m off n) s fun t => t.out = s.out ++ [Out.logWords m ((List.range n).map fun i => s.readReg (0x2C000 + off + 4 * i))]
      ∧ (off + 4 * n = 0x4000 → s.log.advance = true → t.log = { s.log with base := s.log.base + 512 })
      ∧ (off + 4 * n < 0x4000 ∨ s.log.advance = false → t.log = s.log)
      ∧ t = { s with log := t.log, out := t.out, gov := { s.gov with dom := t.gov.dom }, fab := t.fab, dge := t.dge })
  ∧ ∀ (m : Master) (off n : Nat) (s : State), off % 4 ≠ 0 ∨ 0x4000 < off + 4 * n → exec (.logWindowRead m off n) s = .next s

/-- Committing records (16 R507 to R511): the oldest queued record takes LOG_HEAD's index and no other record changes; the foundation receives it in Production until it is full, else the race area, which wraps to 4,096; a record that reads back wrong is lost with its event, and its index goes to the next; filling the foundation and wrapping the race area raise their events (R504). -/
def Obligations.LogRecordsAreCommitted : Prop :=
  (∀ (r : Record) (rest : List Record) (s : State), s.log.queue = r :: rest → s.dark = false →
    Completes (.logRecordCommit true) s fun t => tblGet t.log.records s.logHead = some r
      ∧ (∀ k, k ≠ s.logHead → tblGet t.log.records k = tblGet s.log.records k)
      ∧ (s.life.state = .production → s.log.found < 4096 → s.logHead = s.log.found ∧ t.log.found = s.log.found + 1 ∧ t.log.race = s.log.race)
      ∧ (s.life.state ≠ .production ∨ 4096 ≤ s.log.found → s.logHead = s.log.race ∧ t.log.found = s.log.found
          ∧ t.log.race = (if s.log.race = 65535 then 4096 else s.log.race + 1))
      ∧ (s.logHead = 4095 → raised t 993) ∧ (s.logHead = 65535 → raised t 994)
      ∧ (s.logHead ≠ 4095 → s.logHead ≠ 65535 → t.log.queue = rest ∧ t.log.seq = s.log.seq ∧ t.evt = s.evt)
      ∧ t = { s with log := t.log, evt := t.evt })
  ∧ (∀ (r : Record) (rest : List Record) (s : State), s.log.queue = r :: rest → s.dark = false →
    Completes (.logRecordCommit false) s fun t => t.log.records = s.log.records ∧ t.logHead = s.logHead ∧ t.log.wfault = true
      ∧ (s.log.wfault = false → raised t 992) ∧ (s.log.wfault = true → t.log.queue = rest ∧ t.evt = s.evt)
      ∧ t = { s with log := t.log, evt := t.evt })
  ∧ (∀ (ok : Bool) (s : State), s.log.queue = [] ∨ s.dark = true → exec (.logRecordCommit ok) s = .next s)

/-! ### Tamper, monitors and power -/

/-- Pin samples (15 R474 to R476, R490): a static pin that samples its alarm level FILTER times in a row fires its monitor and latches TMP_PINS.ALARM, one good sample ends the run and its condition, and an OFF or fuse-disabled pin never fires; every mesh LFSR moves on. The voltage, clock, temperature and invalid-state monitors (15 R477 to R480): a level monitor fires when its condition comes and not again while it lasts, an edge each time; a fall of VDD or VDDM asserts every brake (06 R188); the lost clock's effect follows (17 R524), and the crystal's return ends the approximate time base. That monitor 23 drops the lock of the PLLs is the model's reading (DEDUCED log 62). -/
def Obligations.MonitorsFire : Prop :=
  ((∀ (level : BitVec 8) (i : Fin 8) (s : State), s.aonb.backup = false → s.pinDisabled i = false →
      ((pinMode s.mon.pins[i] = 1 ∧ level.getLsbD i.val = false) ∨ (pinMode s.mon.pins[i] = 2 ∧ level.getLsbD i.val = true)) →
      s.mon.runs[i] + 1 = pinFilter s.mon.pins[i] → s.mon.present.getLsbD i.val = false →
    Completes (.tamperPinSample level) s fun t => t.mon.pinAlarm.getLsbD i.val = true ∧ t.mon.present.getLsbD i.val = true
      ∧ (i.val, (s.mon.acts i.val).2) ∈ t.mon.detected ∧ t.mon.runs[i] = s.mon.runs[i] + 1 ∧ t.mon.pinLevel.getLsbD i.val = level.getLsbD i.val)
  ∧ (∀ (level : BitVec 8) (i : Fin 8) (s : State), s.aonb.backup = false → s.pinDisabled i = false →
      ((pinMode s.mon.pins[i] = 1 ∧ level.getLsbD i.val = true) ∨ (pinMode s.mon.pins[i] = 2 ∧ level.getLsbD i.val = false)) →
    Completes (.tamperPinSample level) s fun t => t.mon.runs[i] = 0 ∧ t.mon.present.getLsbD i.val = false
      ∧ t.mon.pinAlarm.getLsbD i.val = s.mon.pinAlarm.getLsbD i.val ∧ t.mon.pinLevel.getLsbD i.val = level.getLsbD i.val)
  ∧ (∀ (level : BitVec 8) (i : Fin 8) (s : State), s.aonb.backup = false → (s.pinDisabled i = true ∨ pinMode s.mon.pins[i] = 0) →
    Completes (.tamperPinSample level) s fun t => t.mon.runs[i] = 0 ∧ t.mon.pinAlarm.getLsbD i.val = s.mon.pinAlarm.getLsbD i.val
      ∧ t.mon.pinLevel.getLsbD i.val = s.mon.pinLevel.getLsbD i.val)
  ∧ ∀ (level : BitVec 8) (s : State), s.aonb.backup = false → Completes (.tamperPinSample level) s fun t =>
      t.mon.lfsr = s.mon.lfsr.map Config.lfsrNext ∧ t.mon.env = s.mon.env ∧ t = { s with mon := t.mon })
  ∧ ((∀ (m : Fin 64) (s : State), 16 ≤ m.val → m.val ≤ 19 → s.aonb.backup = false → s.mon.present.getLsbD m.val = false →
    Completes (.voltageMonitorTrip m true) s fun t => t.mon.env.getLsbD (m.val - 16) = true ∧ t.mon.present.getLsbD m.val = true ∧ fired s t m.val
      ∧ t.gov = (if m.val = 16 then { s.gov with vdd := false, vddm := !s.mon.present.getLsbD 18, vddLost := true }
          else if m.val = 18 then { s.gov with vdd := !s.mon.present.getLsbD 16, vddm := false, vddLost := s.gov.vddLost || s.mon.present.getLsbD 16 }
          else s.gov)
      ∧ (m.val = 16 ∨ m.val = 18 → ∀ p, (t.port p).brake = true) ∧ (m.val = 17 ∨ m.val = 19 → t.ports = s.ports)
      ∧ t = { s with mon := t.mon, gov := t.gov, ports := t.ports })
  ∧ (∀ (m : Fin 64) (on : Bool) (s : State), 16 ≤ m.val → m.val ≤ 19 → s.aonb.backup = false → s.mon.present.getLsbD m.val = on →
    Completes (.voltageMonitorTrip m on) s fun t => t.mon.detected = s.mon.detected ∧ t.mon.env = s.mon.env)
  ∧ (∀ s : State, s.aonb.backup = false → Completes (.voltageMonitorTrip 20 true) s fun t =>
      t.mon.env.getLsbD 4 = true ∧ fired s t 20 ∧ t.mon.present.getLsbD 20 = false ∧ t = { s with mon := t.mon })
  ∧ (∀ (m : Fin 64) (on : Bool) (s : State), m.val < 16 ∨ 20 < m.val → exec (.voltageMonitorTrip m on) s = .next s)
  ∧ (∀ (k : BitVec 3) (s : State), s.aonb.backup = false → s.mon.present.getLsbD 21 = false → Completes (.clockMonitorTrip 21 ⟨true, k⟩) s fun t =>
      fired s t 21 ∧ t.mon.env.getLsbD 5 = true ∧ t.aonb = { s.aonb with approx := true } ∧ t.gov = { s.gov with crystal := false })
  ∧ (∀ (k : BitVec 3) (s : State), s.aonb.backup = false → s.mon.present.getLsbD 22 = false → Completes (.clockMonitorTrip 22 ⟨true, k⟩) s fun t =>
      fired s t 22 ∧ t.mon.env.getLsbD 6 = true ∧ t.gov = { s.gov with refclk := false }
      ∧ ∀ l, (s.lport l).tstate = 6 → (t.lport l).tstate = 1 ∧ raised t (linkSrc l + 4))
  ∧ (∀ (k : BitVec 3) (s : State), s.aonb.backup = false → Completes (.clockMonitorTrip 22 ⟨false, k⟩) s fun t =>
      t.mon.present.getLsbD 22 = false ∧ t.mon.detected = s.mon.detected ∧ t.gov.refclk = s.gov.vddlh
      ∧ (s.gov.vddlh = true → s.gov.state ≠ .deep → s.mon.present.getLsbD 23 = false →
          t.gov.corePll = true ∧ t.gov.pkePll = true ∧ t.gov.millerPll = true)
      ∧ (s.gov.vddlh = false → t.gov = { s.gov with refclk := false }) ∧ t = { s with mon := t.mon, gov := t.gov })
  ∧ (∀ (k : BitVec 3) (s : State), s.aonb.backup = false → s.mon.present.getLsbD 23 = false → Completes (.clockMonitorTrip 23 ⟨true, k⟩) s fun t =>
      fired s t 23 ∧ t.mon.env.getLsbD 7 = true
      ∧ t.gov = { s.gov with
          corePll := s.gov.corePll && !k.getLsbD 0, pkePll := s.gov.pkePll && !k.getLsbD 1, millerPll := s.gov.millerPll && !k.getLsbD 2 } ∧ t = { s with mon := t.mon, gov := t.gov })
  ∧ (∀ (a b c d : BitVec 12) (s : State), s.aonb.backup = false → s.mon.present.getLsbD 24 = false →
      (∃ x ∈ [a, b, c, d], x.toInt < s.mon.tlow) → (∀ x ∈ [a, b, c, d], x.toInt ≤ s.mon.thigh) →
    Completes (.temperatureSample a b c d) s fun t => fired s t 24 ∧ t.mon.env.getLsbD 8 = true ∧ t.mon.temps = #v[a, b, c, d]
      ∧ t = { s with mon := t.mon })
  ∧ (∀ (a b c d : BitVec 12) (s : State), s.aonb.backup = false → s.mon.present.getLsbD 25 = false →
      (∃ x ∈ [a, b, c, d], s.mon.thigh < x.toInt) → (∀ x ∈ [a, b, c, d], s.mon.tlow ≤ x.toInt) →
    Completes (.temperatureSample a b c d) s fun t => fired s t 25 ∧ t.mon.env.getLsbD 9 = true ∧ t.mon.temps = #v[a, b, c, d])
  ∧ (∀ (a b c d : BitVec 12) (s : State), s.aonb.backup = false → (∀ x ∈ [a, b, c, d], s.mon.tlow + 40 ≤ x.toInt ∧ x.toInt ≤ s.mon.thigh - 40) →
    Completes (.temperatureSample a b c d) s fun t => t.mon.present.getLsbD 24 = false ∧ t.mon.present.getLsbD 25 = false
      ∧ t.mon.detected = s.mon.detected ∧ t.mon.env = s.mon.env)
  ∧ (∀ (m : Fin 64) (s : State), 32 ≤ m.val → m.val ≤ 48 → s.aonb.backup = false → Completes (.invalidStateDetect m) s fun t =>
      fired s t m.val ∧ t.mon.env.getLsbD 10 = true ∧ t.mon.present.getLsbD m.val = false ∧ t = { s with mon := t.mon })
  ∧ (∀ (m : Fin 64) (s : State), m.val < 32 ∨ 48 < m.val → exec (.invalidStateDetect m) s = .next s)
  ∧ ∀ s : State, exec .crystalPresent s = .next { s with gov := { s.gov with crystal := true }, aonb := { s.aonb with approx := false } })

/-- The combiner on one alarm (15 R481, R482, R485, R489, R144): its event and record are raised with the actions configured; ZERO zeroes the keys and the nonces and counts its class once in Production and Locked; HALT stops the miller; CONTAIN is in force on the ports of its mask alone, and a serving one is contained; in DEEP it wakes the block (17 R519); RESET makes a device reset pending, as a low VDD or VDDM does, and an alarm detected before that reset begins is combined first (R486); alarms detected together are recorded in ascending ID, each under the union's LOG (R485). Nothing detected changes nothing. Alarms on backup power (15 R490, R491): the AONB zeroes the seal key, writes an entry while one of the 16 is free, and latches the class; on main power the row changes nothing. -/
def Obligations.AlarmsAct : Prop :=
  ((∀ (env : RomEnv) (m : Nat) (mask : BitVec 32) (s : State), s.mon.detected = [(m, mask)] → s.aonb.backup = false → m ≤ 41 →
      severity (800 + m) ≠ none → m ≠ 16 → m ≠ 18 → (s.actsOf m).getLsbD 5 = false →
    Completes (.alarmCombine env) s fun t => t.mon.detected = [] ∧ raised t (800 + m) ∧ (s.gov.state = .deep → s.dark = false → t.gov.state = .active ∧ t.mil.asleep = false)
      ∧ ((s.actsOf m).getLsbD 3 = true → t.aonb.sealKey = none ∧ t.aonb.sealState = 0 ∧ t.pke.sealedKey = none ∧ t.idn.aliasPub = none
          ∧ t.mbx.nonce = none ∧ t.dbg.nonce = none ∧ t.dbg.session = none
          ∧ (s.life.state = .production ∨ s.life.state = .locked → ∀ c : Fin 8, c.val = s.classOf m → s.mon.counted.getLsbD c.val = false →
              t.otp.evidence[c] = s.otp.evidence[c] ||| (s.otp.evidence[c] + 1) ∧ t.mon.counted.getLsbD c.val = true))
      ∧ ((s.actsOf m).getLsbD 3 = false → t.aonb = s.aonb ∧ t.otp = s.otp ∧ t.mbx = s.mbx) ∧ t.mon.resetDue = s.mon.resetDue
      ∧ ((s.actsOf m).getLsbD 4 = true → t.mil.halted = true) ∧ ((s.actsOf m).getLsbD 4 = false → s.gov.state ≠ .deep → t.mil = s.mil)
      ∧ (∀ p : PortId, (s.actsOf m).getLsbD 2 = true → mask.getLsbD p.val = true → m ∈ (t.port p).containBy
          ∧ ((s.port p).state = .service ∨ (s.port p).state = .substitute → (t.port p).state = .contained ∧ (t.port p).brake = true))
      ∧ ∀ p : PortId, (s.actsOf m).getLsbD 2 = false ∨ mask.getLsbD p.val = false → t.port p = s.port p)
  ∧ (∀ (env : RomEnv) (m : Nat) (mask : BitVec 32) (s : State), s.mon.detected = [(m, mask)] → s.aonb.backup = false → m ≤ 41 →
      ((s.actsOf m).getLsbD 5 = true ∨ m = 16 ∨ m = 18) →
    Completes (.alarmCombine env) s fun t => t.mon.resetDue = true ∧ t.mon.detected = [] ∧ t.sys.cause = s.sys.cause
      ∧ t.gov.romPending = s.gov.romPending)
  ∧ (∀ (env : RomEnv) (a b : Nat) (x y : BitVec 32) (s : State), s.mon.detected = [(a, x), (b, y)] → a < b → b ≤ 41 → s.aonb.backup = false →
      s.actsOf a ||| s.actsOf b = 1#6 → severity (800 + a) ≠ none → severity (800 + b) ≠ none → s.log.queue.length < 63 →
    Completes (.alarmCombine env) s fun t => raised t (800 + a) ∧ raised t (800 + b)
      ∧ t.log.queue.map Record.source = s.log.queue.map Record.source ++ [800 + a, 800 + b])
  ∧ (∀ (env : RomEnv) (s : State), s.mon.detected = [] → exec (.alarmCombine env) s = .next s)
  ∧ (∀ (m : Fin 64) (s : State), s.mon.present.getLsbD m.val = false → s.mon.status m.val = false →
    Completes (.alarmContainClear m) s fun t => (∀ p : PortId, m.val ∉ (t.port p).containBy
        ∧ (∀ k, k ≠ m.val → (k ∈ (t.port p).containBy ↔ k ∈ (s.port p).containBy)) ∧ (t.port p).state = (s.port p).state)
      ∧ t = { s with ports := t.ports })
  ∧ ∀ (m : Fin 64) (s : State), s.mon.present.getLsbD m.val = true ∨ s.mon.status m.val = true → exec (.alarmContainClear m) s = .next s)
  ∧ ((∀ (m : Fin 64) (s : State), s.aonb.backup = true → s.aonb.lostPower = false → m.val = 20 ∨ m.val = 21 →
    Completes (.backupAlarm m) s fun t => t.aonb.sealKey = none ∧ t.aonb.sealState = 0
      ∧ t.aonb.latched.getLsbD (monClass m.val false) = true
      ∧ (s.aonb.evidence.length < 16 → t.aonb.evidence = s.aonb.evidence ++ [{ tick := s.tick, monitor := m.val, cls := monClass m.val false }])
      ∧ (16 ≤ s.aonb.evidence.length → t.aonb.evidence = s.aonb.evidence)
      ∧ t = { s with aonb := t.aonb, gov := { s.gov with crystal := s.gov.crystal && m.val = 20 } } ∧ (m.val = 21 → t.aonb.approx = true))
  ∧ (∀ (m : Fin 64) (i : Fin 8) (s : State), s.aonb.backup = true → s.aonb.lostPower = false → m.val = i.val → s.pinDisabled i = false → pinMode s.mon.pins[i] = 1 ∨ pinMode s.mon.pins[i] = 2 →
    Completes (.backupAlarm m) s fun t => t.aonb.sealKey = none ∧ t.aonb.latched.getLsbD 0 = true ∧ t = { s with aonb := t.aonb })
  ∧ (∀ (m : Fin 64) (i : Fin 8) (s : State), m.val = i.val → s.pinDisabled i = true ∨ pinMode s.mon.pins[i] = 0 → exec (.backupAlarm m) s = .next s)
  ∧ ∀ (m : Fin 64) (s : State), s.aonb.backup = false ∨ s.aonb.lostPower = true → exec (.backupAlarm m) s = .next s)

/-- Rows of the logic that VDD feeds: the ports and their engines, the stones, the public-key engine and its DRBG, the link and the election (17 R514, R528). -/
def needsPower : Instr → Bool
  | .mapEngineRetry .. | .sluiceCaptureRead .. | .granuleFill .. | .leafTableLoad .. | .measurementRootCompare .. | .deferredResetTimer
  | .mailboxResponse .. | .digestFinalizeDone .. | .electionWindowExpiry | .directedOfferExpiry | .leaseExpiry | .modeEntryWipExpiry ..
  | .heldCommandIssue .. | .absorbWelClear .. | .statusPoll .. | .absorbEmulationExpiry .. | .suspendIssue .. | .suspendLatencyExpiry ..
  | .heldResumeIssue .. | .debugD2AccessOpen | .laneFault .. | .linkPortDown .. | .pkeOperationComplete .. | .pkeGrantTimeout ..
  | .pkeRecoveryEnd .. | .granuleRefillDone .. | .settleElapsed .. | .portRelease | .hrstPulse .. | .virtualDeviceReset ..
  | .virtualDeviceRecovery .. | .portResetBegin .. | .hopperProgramComplete .. | .drbgReseed | .blockAgePromote | .completionRead ..
  | .epochVerdict .. | .epochDeadline .. | .verdictRereadDone .. | .evtFrameSend | .evtResend | .laneBlockReceive ..
  | .skipAlignInsert .. | .linkDownRetry .. | .linkTrain .. | .frameTransmit .. | .frameForward .. | .frameReceive .. | .ackReceive ..
  | .ackTimer .. | .replayTimeout .. | .creditReceive .. | .creditSend .. | .dgeAlloc | .dgeStart .. | .dgeData .. | .dgeFinal ..
  | .dgeFree .. | .pkeRequest | .pkeGo | .pkeAbort | .pkeRelease | .pkeMillerRequest .. | .hssLmsVerify .. | .entropyHealthFail
  | .mailboxDoorbell .. | .mailboxRspAck .. | .registerWrite .. | .fanSendClaim .. | .fanSendRenew | .fanSendYield | .firstWindowTimer
  | .logRecordCommit .. | .stoneBlockComplete .. | .stoneTimeout .. | .stoneKat .. | .scrubGranule .. | .wake | .powerStateEntry
  | .domainPowerUp .. => true
  | _ => false

/-- Power states (17 R514 to R519, R523, R528, R531): without VDD or in BACKUP the rows of the logic that VDD feeds do nothing; each state is entered from the one above it under its conditions, and not otherwise; the domains that a serving port uses stay as they are and no port changes (R517); DEEP ends the debug session with DEEP_ENTRY; a wake source returns to ACTIVE; a domain in demand comes up; a lost supply has its own effect. The model's own choices, which the rules do not give: that an entry whose hold time ends at the time of a wake which met it under way goes no further, for R520's 'whichever came first' (DESIGN CHOICE log 12), that a domain in demand is found On through DOMAIN_POWER_UP and a wake (log 33), the rail number that the SUPPLY_LOSS command names a supply by (DESIGN CHOICE log 15), and that a lost VBAT raises event 866 (DEDUCED log 62). -/
def Obligations.PowerStatesMove : Prop :=
  (∀ (i : Instr) (s : State), s.dark = true → needsPower i = true → exec i s = .next s)
  ∧ (∀ s : State, s.gov.state = .active → s.dark = false → s.gov.wokenAt ≠ some s.now → s.dozeOk = true → Completes .powerStateEntry s fun t =>
      t.gov.state = .doze ∧ t.mil = { s.mil with asleep := true }
      ∧ (∀ g : Fin 24, 11 ≤ g.val → g.val ≤ 18 → s.groupUsed (g.val - 11) = true → t.gov.dom[g] = s.gov.dom[g])
      ∧ t = { s with gov := { s.gov with state := .doze, dom := t.gov.dom }, mil := t.mil })
  ∧ (∀ s : State, s.gov.state = .doze → s.dark = false → s.gov.wokenAt ≠ some s.now → s.dozeOk = true →
      (∀ p : PortId, (s.port p).state = .disabled ∨ (s.port p).state = .failed ∨ (s.port p).state = .isolated) → s.pond.used = false →
      s.pond.extents = [] → s.hop.current = none →
    Completes .powerStateEntry s fun t => t.gov.state = .park ∧ t.ports = s.ports ∧ t.evt = s.evt)
  ∧ (∀ (p : PortId) (s : State), s.gov.state = .doze → s.gov.wokenAt ≠ some s.now → (s.port p).state = .service ∨ (s.port p).state = .substitute →
    exec .powerStateEntry s = .next s)
  ∧ (∀ s : State, s.gov.state = .park → s.dark = false → s.gov.wokenAt ≠ some s.now → s.dozeOk = true → s.parkOk = true → s.link.la.tstate = 0 → s.link.lb.tstate = 0 →
      s.link.la.energy = false → s.link.lb.energy = false → s.ctxUsed = false →
    Completes .powerStateEntry s fun t => t.gov.state = .deep ∧ (t.gov.corePll = false ∧ t.gov.pkePll = false ∧ t.gov.millerPll = false) ∧ raised t 876 ∧ t.dbg.session = none ∧ t.dbg.level = s.dbg.level
      ∧ t.ports = s.ports)
  ∧ (∀ s : State, s.gov.wokenAt ≠ some s.now → s.dozeOk = false ∨ s.gov.state = .deep → exec .powerStateEntry s = .next s)
  ∧ (∀ s : State, s.dark = false → s.gov.wokenAt = some s.now →
      exec .powerStateEntry s = .next { s with gov := { s.gov with wokenAt := none } })
  ∧ (∀ s : State, s.dark = false → Completes .wake s fun t =>
      t.gov.state = .active ∧ t.mil = { s.mil with asleep := false } ∧ t.gov.dom[2] = .on
      ∧ t.gov.wokenAt = (if s.entering = true then some s.now else s.gov.wokenAt)
      ∧ (s.gov.state = .deep → s.gov.refclk = true → s.mon.present.getLsbD 23 = false →
          t.gov.corePll = true ∧ t.gov.pkePll = true ∧ t.gov.millerPll = true)
      ∧ t = { s with gov := t.gov, mil := t.mil })
  ∧ (∀ (d : Fin 24) (s : State), s.dark = false → s.demand d.val = true → s.fab.queue = [] →
      (d.val = 4 ∨ d.val = 5 → s.gov.dom[d] ≠ .off) →
    exec (.domainPowerUp d) s = .next { s with gov := { s.gov with dom := s.gov.dom.set d .on } })
  ∧ (∀ (d : Fin 24) (s : State), s.dark = false → s.demand d.val = true → s.fab.queue = [] → d.val = 4 ∨ d.val = 5 → s.gov.dom[d] = .off →
    Completes (.domainPowerUp d) s fun t => t.gov = { s.gov with dom := s.gov.dom.set d .on }
      ∧ (∀ n : Fin 32, (n.val < 16 ↔ d.val = 4) → (t.fab.stones[n]).katDue = true)
      ∧ (∀ n : Fin 32, ¬ (n.val < 16 ↔ d.val = 4) → t.fab.stones[n] = s.fab.stones[n]) ∧ t = { s with gov := t.gov, fab := t.fab })
  ∧ (∀ (d : Fin 24) (s : State), s.dark = true ∨ s.demand d.val = false → exec (.domainPowerUp d) s = .next s)
  ∧ (∀ (r : Fin 6) (s : State), s.aonb.backup = false → r.val < 2 → Completes (.supplyLoss r) s fun t =>
      t.link.la.tstate = 0 ∧ raised t 865 ∧ (r.val = 0 → t.gov.vddl = false) ∧ (r.val = 1 → t.gov.vddlh = false ∧ t.gov.refclk = false)
        ∧ (s.link.la.tstate ≠ 0 → raised t 641) ∧ (s.link.lb.tstate ≠ 0 → raised t 649) ∧ t.link.lb.tstate = 0 ∧ t.ports = s.ports)
  ∧ (∀ s : State, s.aonb.backup = false → Completes (.supplyLoss 2) s fun t => t.gov = { s.gov with vioHome := false } ∧ raised t 864 ∧ t.ports = s.ports)
  ∧ (∀ s : State, s.aonb.backup = false → Completes (.supplyLoss 3) s fun t => t.gov = { s.gov with vbat := false } ∧ raised t 866
      ∧ t.ports = s.ports ∧ t.link = s.link)
  ∧ (∀ s : State, s.aonb.backup = false → s.gov.vbat = true → Completes (.supplyLoss 4) s fun t => t.gov = s.gov ∧ raised t 866
      ∧ t.ports = s.ports ∧ t.link = s.link)
  ∧ (∀ s : State, s.aonb.backup = true → s.aonb.lostPower = false → Completes (.supplyLoss 3) s fun t =>
      t.gov.vbat = false ∧ t.gov.vaux = false ∧ t.gov.crystal = false ∧ t.gov.dom[0] = .off ∧ t.aonb.lostPower = true
      ∧ t.aonb.sealKey = none ∧ t.aonb.evidence = []
      ∧ t = { s with gov := t.gov, aonb := t.aonb, mon := t.mon })
  ∧ (∀ s : State, s.aonb.backup = false → Completes (.supplyLoss 5) s fun t => t.gov.vaux = false ∧ t.gov.romPending = true
      ∧ t.aonb.backup = true ∧ (∀ p, (t.port p).state = .waiting ∧ (t.port p).brake = true)
      ∧ (s.gov.vbat = true → t.gov.state = .backup ∧ t.gov.dom[0] = .on ∧ t.aonb.sealKey = s.aonb.sealKey)
      ∧ (s.gov.vbat = false → t.gov.dom[0] = .off ∧ t.aonb.sealKey = none ∧ t.aonb.lostPower = true)
      ∧ (∀ d : Fin 24, d ≠ 0 → t.gov.dom[d] = .off))
  ∧ ∀ (r : Fin 6) (s : State), s.aonb.backup = true → r.val ≠ 3 ∨ s.aonb.lostPower = true → exec (.supplyLoss r) s = .next s

/-! ### The TAP -/

/-- An instruction that is not offered: without power, and while TRST# holds the TAP in reset, nothing happens, else it selects BYPASS, whose register captures 0, and what a boundary-scan instruction drove is driven no more (14 R467, R471, 18 R538). -/
def bypassed (s t : State) : Prop :=
  (s.tapOn = false → t = s)
    ∧ (s.tapOn = true → t.dbg.ir = 0xFF ∧ t.dbg.drive = 0 ∧ t.out = s.out ++ [Out.tap [false]] ∧ t.dbg.session = s.dbg.session
        ∧ t.dbg.level = s.dbg.level ∧ t.dbg.nonce = s.dbg.nonce ∧ t = { s with dbg := t.dbg, out := t.out, fresh := t.fresh })

/-- Debug over the TAP (14 R460 to R469): DBG_CHAL captures a fresh nonce with the serial for a level that is permitted, DBG_TOKEN uses the nonce up and opens or refuses with its code, DBG_STAT is shifted out and its close bit ends the session and leaves the level, and an instruction that the state does not offer selects BYPASS (R467); a token in whose cycle the session is ended opens none and uses the nonce up (R465). DBG_ACCESS and boundary scan (14 R467, R468): without a session BYPASS is selected; a space above the session's level is denied; a write of a read-only space is denied and changes no register; a D2 session reads and writes one word of the miller's RAM; EXTEST, CLAMP and HIGHZ drive the balls in Blank and Test alone, SAMPLE/PRELOAD in every state but End of life. The order of DBG_CHAL's bits (log 89), the 0 that BYPASS captures, the register selected first and that only BYPASS and IDCODE are offered before the ROM (log 104), the nonce used up where no core verifies (log 97) and RESUME winning over HALT (log 59) are the model's choices. -/
def Obligations.TapInstructionsActWhereOffered : Prop :=
  ((∀ (level : BitVec 8) (s : State), s.tapDebug = true → s.levelOk level.toNat = true → s.drbg.failed = false →
    Completes (.dbgChal level) s fun t => t.dbg.nonce = some (s.draw 256) ∧ t.dbg.chal = (s.draw 256 : BitVec 256) ++ s.sys.serial
      ∧ t.dbg.session = s.dbg.session ∧ t.dbg.level = s.dbg.level ∧ t.fresh = s.fresh + 1)
  ∧ (∀ (level : BitVec 8) (s : State), s.tapDebug = true → s.levelOk level.toNat = false →
    exec (.dbgChal level) s = .next { s with dbg := { s.dbg with ir := 0x10, drive := 0, lastResult := 6 } })
  ∧ (∀ (pk sg : List Byte) (fault : Bool) (s : State), s.tapDebug = true → s.life.state = .production → s.dbg.level = 0 → s.dbg.nonce = none →
    Completes (.dbgToken 1 pk ⟨sg, fault, false⟩) s fun t => t.dbg = { s.dbg with ir := 0x11, drive := 0, lastResult := 8 } ∧ raised t 904)
  ∧ (∀ (pk sg : List Byte) (n : BitVec 256) (s : State), s.tapDebug = true → s.life.state = .production → s.dbg.level = 0 → s.dbg.nonce = some n →
      s.engineUp = true → pk.length = 97 → sg.length = 96 →
    Completes (.dbgToken 1 pk ⟨sg, false, false⟩) s fun t =>
      if keyMatches s.otp.keys[(8 : Fin 10)] (Config.sha384 ([0x01, 0x00] ++ pk)) = true ∧ keyPointOk 1 pk = true
          ∧ Config.sigValid 1 pk [] (s.tokenMsg n 1) sg = true
      then t.dbg = { s.dbg with level := 1, session := some 1, nonce := none, lastResult := 0, ir := 0x11, drive := 0 } ∧ raised t 902
      else t.dbg.level = 0 ∧ t.dbg.session = s.dbg.session ∧ t.dbg.nonce = none ∧ (t.dbg.lastResult = 7 ∨ t.dbg.lastResult = 9) ∧ raised t 904)
  ∧ (∀ (pk sg : List Byte) (n : BitVec 256) (fault : Bool) (s : State), s.tapDebug = true → s.life.state = .production → s.dbg.level = 0 →
      s.dbg.nonce = some n → (s.engineUp = false ∨ fault = true) →
    Completes (.dbgToken 1 pk ⟨sg, fault, false⟩) s fun t => t.dbg.level = 0 ∧ t.dbg.session = s.dbg.session ∧ t.dbg.nonce = none ∧ raised t 904)
  ∧ (∀ (level : BitVec 8) (pk sg : List Byte) (fault : Bool) (s : State), s.tapDebug = false →
      Completes (.dbgChal level) s (bypassed s) ∧ Completes (.dbgToken level pk ⟨sg, fault, false⟩) s (bypassed s))
  ∧ (∀ (pk sg : List Byte) (s : State), s.tapDebug = true → Completes (.dbgToken 1 pk ⟨sg, false, true⟩) s fun t =>
      t.dbg.level = s.dbg.level ∧ t.dbg.session = s.dbg.session ∧ t.dbg.nonce = none ∧ t.dbg.d2Opening = s.dbg.d2Opening)
  ∧ (∀ (n : Nat) (s : State), s.tapStat = true → s.dbg.session = some n →
    Completes .dbgStatClose s fun t => t.dbg = { s.dbg with session := none, d2Opening := false, ir := 0x12, drive := 0 } ∧ raised t 910
      ∧ t.out = s.out ++ [Out.tap (bitsOf s.dbgStat)])
  ∧ (∀ s : State, s.tapStat = true → s.dbg.session = none → s.dbg.d2Opening = false →
      exec .dbgStatClose s = .next { s with dbg := { s.dbg with ir := 0x12, drive := 0 }, out := s.out ++ [Out.tap (bitsOf s.dbgStat)] })
  ∧ (∀ s : State, s.tapStat = false → Completes .dbgStatClose s (bypassed s))
  ∧ (∀ s : State, s.dark = true ∨ s.dbg.trstHigh = false ∨ s.gov.romPending = true → s.tapDebug = false ∧ s.tapStat = false ∧ s.tapOpen = false)
  ∧ (∀ (scan : List Bool) (load : Bool) (s : State), s.dark = false → Completes (.samplePreload scan ⟨load, .hold⟩) s fun t =>
      t.dbg.trstHigh = false ∧ t.dbg.ir = 0x02 ∧ t.dbg.drive = 0 ∧ t.dbg.scan = s.dbg.scan ∧ t.dbg.session = s.dbg.session ∧ t.out = s.out
      ∧ t.tapOn = false ∧ t = { s with dbg := t.dbg, fresh := t.fresh })
  ∧ (∀ (scan : List Bool) (s : State), s.dark = false → s.gov.romPending = false → s.life.state ≠ .endOfLife →
      Completes (.samplePreload scan ⟨true, .reset⟩) s fun t =>
        t.dbg.trstHigh = true ∧ t.out = s.out ++ [Out.tap (bitsOf (0x132405F3#32))] ∧ t.dbg.scan = scan ∧ t.dbg.ir = 0x01 ∧ t.dbg.drive = 0
        ∧ t.dbg.session = s.dbg.session ∧ t = { s with dbg := t.dbg, out := t.out, fresh := t.fresh })
  ∧ (∀ (scan : List Bool) (s : State), s.tapStat = true →
      (Completes (.samplePreload scan ⟨true, .idcode⟩) s fun t =>
        t.out = s.out ++ [Out.tap (bitsOf (0x132405F3#32))] ∧ t.dbg.scan = scan ∧ t.dbg.ir = 0x01 ∧ t.dbg.drive = 0 ∧ t.dbg.session = s.dbg.session
        ∧ t = { s with dbg := t.dbg, out := t.out, fresh := t.fresh })
      ∧ (Completes (.samplePreload scan ⟨true, .stat⟩) s fun t =>
        t.out = s.out ++ [Out.tap (bitsOf s.dbgStat)] ∧ t.dbg.scan = scan ∧ t.dbg.session = s.dbg.session ∧ t.dbg.level = s.dbg.level))
  ∧ ∀ (scan : List Bool) (load : Bool) (s : State), s.tapUp = true → s.life.state = .endOfLife →
      Completes (.samplePreload scan ⟨load, .idcode⟩) s fun t =>
        t.out = s.out ++ [Out.tap (bitsOf (0x132405F3#32)), Out.tap [false]] ∧ t.dbg.ir = 0xFF ∧ t.dbg.scan = s.dbg.scan)
  ∧ ((∀ (w : Bool) (k : BitVec 4) (a d : Word) (s : State), s.dbg.session = none ∨ s.tapUp = false → Completes (.dbgAccess w k a d) s (bypassed s))
  ∧ (∀ (w : Bool) (k : BitVec 4) (a d : Word) (s : State), s.tapUp = true → s.dbg.session = some 1 → k = 2 ∨ k = 3 →
    Completes (.dbgAccess w k a d) s fun t => t.dbg.accStatus = 2 ∧ t.dbg.accAddr = a ∧ t.mil = s.mil ∧ t.dbg.session = some 1)
  ∧ (∀ (n : Nat) (a d : Word) (s : State), s.tapUp = true → s.dbg.session = some n → 1 ≤ n → a.toNat < 0x1000000 → a.toNat % 4 = 0 → a.toNat ≠ 0x2FFFC →
    Completes (.dbgAccess false 0 a d) s fun t => t.dbg.accStatus = 0 ∧ t.dbg.accAddr = a ∧ t.dbg.accData = s.readReg a.toNat ∧ t.log = s.log
      ∧ t.out = s.out ++ [Out.tap s.dbg.capture] ∧ t = { s.afterRead a.toNat 1 with dbg := t.dbg, out := t.out })
  ∧ (∀ (n : Nat) (a d : Word) (s : State), s.tapUp = true → s.dbg.session = some n → 1 ≤ n →
    Completes (.dbgAccess true 0 a d) s fun t => t.dbg.accStatus = 2
      ∧ t = { s with dbg := t.dbg, out := t.out, fresh := t.fresh })
  ∧ (∀ (a d : Word) (s : State), s.tapUp = true → s.dbg.session = some 2 → a.toNat % 4 = 0 → memWf s.mil.ram = true →
    Completes (.dbgAccess true 2 a d) s fun t => memWord t.mil.ram a.toNat = d ∧ memWf t.mil.ram = true ∧ t.dbg.accStatus = 0
      ∧ (∀ y, y < a.toNat ∨ a.toNat + 4 ≤ y → memRead t.mil.ram y = memRead s.mil.ram y))
  ∧ (∀ (a d : Word) (s : State), s.tapUp = true → s.dbg.session = some 2 → a.toNat % 4 = 0 →
    Completes (.dbgAccess false 2 a d) s fun t => t.dbg.accData = memWord s.mil.ram a.toNat ∧ t.dbg.accStatus = 0 ∧ t.mil = s.mil)
  ∧ (∀ (d : Word) (s : State), s.tapUp = true → s.dbg.session = some 2 → Completes (.dbgAccess true 3 0 d) s fun t => t.dbg.accStatus = 0
      ∧ (d.getLsbD 2 = true → t.mil.dbgHalt = false) ∧ (d.getLsbD 2 = false → d.getLsbD 0 = true → t.mil.dbgHalt = true)
      ∧ t.mil.ram = s.mil.ram)
  ∧ (∀ (scan : List Bool) (s : State), s.tapOpen = true → Completes (.extest scan) s fun t =>
      t = { s with dbg := { s.dbg with scan, drive := 1, ir := 0x00 }, out := s.out ++ [Out.tap s.dbg.scan] })
  ∧ (∀ s : State, s.tapOpen = true → exec .clamp s = .next { s with dbg := { s.dbg with drive := 2, ir := 0x03 }, out := s.out ++ [Out.tap [false]] }
      ∧ exec .highz s = .next { s with dbg := { s.dbg with drive := 3, ir := 0x04 }, out := s.out ++ [Out.tap [false]] })
  ∧ (∀ (scan : List Bool) (s : State), s.tapOpen = false →
      Completes (.extest scan) s (bypassed s) ∧ Completes .clamp s (bypassed s) ∧ Completes .highz s (bypassed s))
  ∧ (∀ (scan : List Bool) (s : State), s.tapStat = true →
      exec (.samplePreload scan ⟨true, .nothing⟩) s = .next { s with dbg := { s.dbg with scan, drive := 0, ir := 0x01 } }
      ∧ exec (.samplePreload scan ⟨false, .nothing⟩) s = .next { s with dbg := { s.dbg with scan, drive := 0, ir := 0x01 }, out := s.out ++ [Out.tap scan] })
  ∧ ∀ (scan : List Bool) (load : Bool) (s : State), s.tapStat = false → Completes (.samplePreload scan ⟨load, .nothing⟩) s (bypassed s))

/-! ### Headline results -/

/-- Every command completes in every state, with a next state: nothing faults and nothing is refused. That a command which cannot arise in a state leaves it as it is, where the rules give it no effect there, is the model's choice (DESIGN CHOICE log 2). -/
def Obligations.EveryCommandCompletes : Prop := ∀ (c : Instr) (s : State), ∃ t, exec c s = .next t

/-- OTP bits are blown and never cleared: across every step each bit set in the array stays set (14 R443, R444, 03 R110, 15 R487). -/
def Obligations.OtpBitsNeverClear : Prop := ∀ s t : State, step s = .next t → otpLe s.otp t.otp

/-- Every port that is not in SERVICE or SUBSTITUTE holds its host in reset, across every step (04 R117, 06 R188). -/
def Obligations.HostsStayHeld : Prop := ∀ s t : State, s.hostsHeld → step s = .next t → t.hostsHeld

/-- The mailbox buffers, the object buffer, FAN_MSG and the miller's RAM keep their canonical form across every step, so that equal contents are equal data. -/
def Obligations.BuffersStayCanonical : Prop := ∀ s t : State, s.buffersWf → step s = .next t → t.buffersWf

/-- The two invariants above hold after reset. -/
def Obligations.ResetMeetsTheInvariants : Prop := State.reset.hostsHeld ∧ State.reset.buffersWf

/-- Only the release sequencer releases a brake: after any command but its evaluation, every asserted brake is still asserted, and after its evaluation only a MEASURED port's brake can be released; a device reset and the fall of PORST# assert every brake (06 R188, R202). -/
def Obligations.OnlyTheSequencerReleases : Prop :=
  (∀ (c : Instr) (s t : State) (p : PortId), c ≠ .portRelease → exec c s = .next t → (s.port p).brake = true → (t.port p).brake = true)
  ∧ (∀ (s t : State) (p : PortId), exec .portRelease s = .next t → (s.port p).brake = true → (t.port p).brake = false →
      (s.port p).state = .measured ∧ ((t.port p).state = .service ∨ (t.port p).state = .substitute))
  ∧ ∀ (cause : DevCause) (s t : State) (p : PortId), (s.aonb.backup = false ∧ exec (.deviceResetBegin cause) s = .next t) ∨ exec .porstFalls s = .next t →
      (t.port p).brake = true

/-- A qualified HRDY stays qualified until the port's brake next asserts, whatever command runs (06 R195), in states in which the hosts of ports that do not serve are held; a later fall of HRDY while the brake is released leaves the qualification and raises the HRDY-dropped event, of severity Info. -/
def Obligations.QualifiedHrdyStays : Prop :=
  (∀ (c : Instr) (s t : State) (p : PortId), s.hostsHeld → exec c s = .next t → (s.port p).brake = false → (s.port p).hrdyQ = true →
      (t.port p).brake = false → (t.port p).hrdyQ = true)
  ∧ ∀ (p : PortId) (s : State), (s.port p).brake = false → (s.port p).hrdyQ = true →
      Completes (.hrdyDropped p) s fun t =>
        (t.port p).hrdyQ = true ∧ (t.port p).brake = false ∧ raised t (20 * p.val + 12) ∧ severity (20 * p.val + 12) = some 0
end

