-- ==== Sys2Proof/Laws/State.lean ====
section
/-! SUPPORT. What each shared update does to each field of State: one lemma a field, all for simp, so that no proof unfolds a record update. -/

namespace Sys2Proof.Machine

open Sys2Proof

@[simp] theorem State.emit_pending (s : State) (o : Out) : (s.emit o).pending = s.pending := rfl
@[simp] theorem State.emit_now (s : State) (o : Out) : (s.emit o).now = s.now := rfl
@[simp] theorem State.emit_fresh (s : State) (o : Out) : (s.emit o).fresh = s.fresh := rfl
@[simp] theorem State.emit_out (s : State) (o : Out) : (s.emit o).out = s.out ++ [o] := rfl
@[simp] theorem State.emit_sys (s : State) (o : Out) : (s.emit o).sys = s.sys := rfl
@[simp] theorem State.emit_gov (s : State) (o : Out) : (s.emit o).gov = s.gov := rfl
@[simp] theorem State.emit_otp (s : State) (o : Out) : (s.emit o).otp = s.otp := rfl
@[simp] theorem State.emit_life (s : State) (o : Out) : (s.emit o).life = s.life := rfl
@[simp] theorem State.emit_dbg (s : State) (o : Out) : (s.emit o).dbg = s.dbg := rfl
@[simp] theorem State.emit_aonb (s : State) (o : Out) : (s.emit o).aonb = s.aonb := rfl
@[simp] theorem State.emit_mon (s : State) (o : Out) : (s.emit o).mon = s.mon := rfl
@[simp] theorem State.emit_evt (s : State) (o : Out) : (s.emit o).evt = s.evt := rfl
@[simp] theorem State.emit_log (s : State) (o : Out) : (s.emit o).log = s.log := rfl
@[simp] theorem State.emit_rel (s : State) (o : Out) : (s.emit o).rel = s.rel := rfl
@[simp] theorem State.emit_ports (s : State) (o : Out) : (s.emit o).ports = s.ports := rfl
@[simp] theorem State.emit_pond (s : State) (o : Out) : (s.emit o).pond = s.pond := rfl
@[simp] theorem State.emit_fab (s : State) (o : Out) : (s.emit o).fab = s.fab := rfl
@[simp] theorem State.emit_store (s : State) (o : Out) : (s.emit o).store = s.store := rfl
@[simp] theorem State.emit_hop (s : State) (o : Out) : (s.emit o).hop = s.hop := rfl
@[simp] theorem State.emit_mil (s : State) (o : Out) : (s.emit o).mil = s.mil := rfl
@[simp] theorem State.emit_idn (s : State) (o : Out) : (s.emit o).idn = s.idn := rfl
@[simp] theorem State.emit_drbg (s : State) (o : Out) : (s.emit o).drbg = s.drbg := rfl
@[simp] theorem State.emit_spdm (s : State) (o : Out) : (s.emit o).spdm = s.spdm := rfl
@[simp] theorem State.emit_pke (s : State) (o : Out) : (s.emit o).pke = s.pke := rfl
@[simp] theorem State.emit_dge (s : State) (o : Out) : (s.emit o).dge = s.dge := rfl
@[simp] theorem State.emit_link (s : State) (o : Out) : (s.emit o).link = s.link := rfl
@[simp] theorem State.emit_fan (s : State) (o : Out) : (s.emit o).fan = s.fan := rfl
@[simp] theorem State.emit_mbx (s : State) (o : Out) : (s.emit o).mbx = s.mbx := rfl
@[simp] theorem State.emit_i3c (s : State) (o : Out) : (s.emit o).i3c = s.i3c := rfl

@[simp] theorem State.upTo_pending (s : State) (t : Nat) : (s.upTo t).pending = s.pending := rfl
@[simp] theorem State.upTo_now (s : State) (t : Nat) : (s.upTo t).now = max s.now t := rfl
@[simp] theorem State.upTo_fresh (s : State) (t : Nat) : (s.upTo t).fresh = s.fresh := rfl
@[simp] theorem State.upTo_out (s : State) (t : Nat) : (s.upTo t).out = s.out := rfl
@[simp] theorem State.upTo_sys (s : State) (t : Nat) : (s.upTo t).sys = s.sys := rfl
@[simp] theorem State.upTo_gov (s : State) (t : Nat) : (s.upTo t).gov = s.gov := rfl
@[simp] theorem State.upTo_otp (s : State) (t : Nat) : (s.upTo t).otp = s.otp := rfl
@[simp] theorem State.upTo_life (s : State) (t : Nat) : (s.upTo t).life = s.life := rfl
@[simp] theorem State.upTo_dbg (s : State) (t : Nat) : (s.upTo t).dbg = s.dbg := rfl
@[simp] theorem State.upTo_aonb (s : State) (t : Nat) : (s.upTo t).aonb = s.aonb := rfl
@[simp] theorem State.upTo_mon (s : State) (t : Nat) : (s.upTo t).mon = s.mon := rfl
@[simp] theorem State.upTo_evt (s : State) (t : Nat) : (s.upTo t).evt = s.evt := rfl
@[simp] theorem State.upTo_log (s : State) (t : Nat) : (s.upTo t).log = s.log := rfl
@[simp] theorem State.upTo_rel (s : State) (t : Nat) : (s.upTo t).rel = s.rel := rfl
@[simp] theorem State.upTo_ports (s : State) (t : Nat) : (s.upTo t).ports = s.ports := rfl
@[simp] theorem State.upTo_pond (s : State) (t : Nat) : (s.upTo t).pond = s.pond := rfl
@[simp] theorem State.upTo_fab (s : State) (t : Nat) : (s.upTo t).fab = s.fab := rfl
@[simp] theorem State.upTo_store (s : State) (t : Nat) : (s.upTo t).store = s.store := rfl
@[simp] theorem State.upTo_hop (s : State) (t : Nat) : (s.upTo t).hop = s.hop := rfl
@[simp] theorem State.upTo_mil (s : State) (t : Nat) : (s.upTo t).mil = s.mil := rfl
@[simp] theorem State.upTo_idn (s : State) (t : Nat) : (s.upTo t).idn = s.idn := rfl
@[simp] theorem State.upTo_drbg (s : State) (t : Nat) : (s.upTo t).drbg = s.drbg := rfl
@[simp] theorem State.upTo_spdm (s : State) (t : Nat) : (s.upTo t).spdm = s.spdm := rfl
@[simp] theorem State.upTo_pke (s : State) (t : Nat) : (s.upTo t).pke = s.pke := rfl
@[simp] theorem State.upTo_dge (s : State) (t : Nat) : (s.upTo t).dge = s.dge := rfl
@[simp] theorem State.upTo_link (s : State) (t : Nat) : (s.upTo t).link = s.link := rfl
@[simp] theorem State.upTo_fan (s : State) (t : Nat) : (s.upTo t).fan = s.fan := rfl
@[simp] theorem State.upTo_mbx (s : State) (t : Nat) : (s.upTo t).mbx = s.mbx := rfl
@[simp] theorem State.upTo_i3c (s : State) (t : Nat) : (s.upTo t).i3c = s.i3c := rfl

@[simp] theorem State.skipFree_pending (s : State) (n : Nat) : (s.skipFree n).pending = s.pending := rfl
@[simp] theorem State.skipFree_now (s : State) (n : Nat) : (s.skipFree n).now = s.now := rfl
@[simp] theorem State.skipFree_fresh (s : State) (n : Nat) : (s.skipFree n).fresh = s.fresh + n := rfl
@[simp] theorem State.skipFree_out (s : State) (n : Nat) : (s.skipFree n).out = s.out := rfl
@[simp] theorem State.skipFree_sys (s : State) (n : Nat) : (s.skipFree n).sys = s.sys := rfl
@[simp] theorem State.skipFree_gov (s : State) (n : Nat) : (s.skipFree n).gov = s.gov := rfl
@[simp] theorem State.skipFree_otp (s : State) (n : Nat) : (s.skipFree n).otp = s.otp := rfl
@[simp] theorem State.skipFree_life (s : State) (n : Nat) : (s.skipFree n).life = s.life := rfl
@[simp] theorem State.skipFree_dbg (s : State) (n : Nat) : (s.skipFree n).dbg = s.dbg := rfl
@[simp] theorem State.skipFree_aonb (s : State) (n : Nat) : (s.skipFree n).aonb = s.aonb := rfl
@[simp] theorem State.skipFree_mon (s : State) (n : Nat) : (s.skipFree n).mon = s.mon := rfl
@[simp] theorem State.skipFree_evt (s : State) (n : Nat) : (s.skipFree n).evt = s.evt := rfl
@[simp] theorem State.skipFree_log (s : State) (n : Nat) : (s.skipFree n).log = s.log := rfl
@[simp] theorem State.skipFree_rel (s : State) (n : Nat) : (s.skipFree n).rel = s.rel := rfl
@[simp] theorem State.skipFree_ports (s : State) (n : Nat) : (s.skipFree n).ports = s.ports := rfl
@[simp] theorem State.skipFree_pond (s : State) (n : Nat) : (s.skipFree n).pond = s.pond := rfl
@[simp] theorem State.skipFree_fab (s : State) (n : Nat) : (s.skipFree n).fab = s.fab := rfl
@[simp] theorem State.skipFree_store (s : State) (n : Nat) : (s.skipFree n).store = s.store := rfl
@[simp] theorem State.skipFree_hop (s : State) (n : Nat) : (s.skipFree n).hop = s.hop := rfl
@[simp] theorem State.skipFree_mil (s : State) (n : Nat) : (s.skipFree n).mil = s.mil := rfl
@[simp] theorem State.skipFree_idn (s : State) (n : Nat) : (s.skipFree n).idn = s.idn := rfl
@[simp] theorem State.skipFree_drbg (s : State) (n : Nat) : (s.skipFree n).drbg = s.drbg := rfl
@[simp] theorem State.skipFree_spdm (s : State) (n : Nat) : (s.skipFree n).spdm = s.spdm := rfl
@[simp] theorem State.skipFree_pke (s : State) (n : Nat) : (s.skipFree n).pke = s.pke := rfl
@[simp] theorem State.skipFree_dge (s : State) (n : Nat) : (s.skipFree n).dge = s.dge := rfl
@[simp] theorem State.skipFree_link (s : State) (n : Nat) : (s.skipFree n).link = s.link := rfl
@[simp] theorem State.skipFree_fan (s : State) (n : Nat) : (s.skipFree n).fan = s.fan := rfl
@[simp] theorem State.skipFree_mbx (s : State) (n : Nat) : (s.skipFree n).mbx = s.mbx := rfl
@[simp] theorem State.skipFree_i3c (s : State) (n : Nat) : (s.skipFree n).i3c = s.i3c := rfl

@[simp] theorem State.drawn_pending (s : State) : s.drawn.pending = s.pending := rfl
@[simp] theorem State.drawn_now (s : State) : s.drawn.now = s.now := rfl
@[simp] theorem State.drawn_fresh (s : State) : s.drawn.fresh = s.fresh + 1 := rfl
@[simp] theorem State.drawn_out (s : State) : s.drawn.out = s.out := rfl
@[simp] theorem State.drawn_sys (s : State) : s.drawn.sys = s.sys := rfl
@[simp] theorem State.drawn_gov (s : State) : s.drawn.gov = s.gov := rfl
@[simp] theorem State.drawn_otp (s : State) : s.drawn.otp = s.otp := rfl
@[simp] theorem State.drawn_life (s : State) : s.drawn.life = s.life := rfl
@[simp] theorem State.drawn_dbg (s : State) : s.drawn.dbg = s.dbg := rfl
@[simp] theorem State.drawn_aonb (s : State) : s.drawn.aonb = s.aonb := rfl
@[simp] theorem State.drawn_mon (s : State) : s.drawn.mon = s.mon := rfl
@[simp] theorem State.drawn_evt (s : State) : s.drawn.evt = s.evt := rfl
@[simp] theorem State.drawn_log (s : State) : s.drawn.log = s.log := rfl
@[simp] theorem State.drawn_rel (s : State) : s.drawn.rel = s.rel := rfl
@[simp] theorem State.drawn_ports (s : State) : s.drawn.ports = s.ports := rfl
@[simp] theorem State.drawn_pond (s : State) : s.drawn.pond = s.pond := rfl
@[simp] theorem State.drawn_fab (s : State) : s.drawn.fab = s.fab := rfl
@[simp] theorem State.drawn_store (s : State) : s.drawn.store = s.store := rfl
@[simp] theorem State.drawn_hop (s : State) : s.drawn.hop = s.hop := rfl
@[simp] theorem State.drawn_mil (s : State) : s.drawn.mil = s.mil := rfl
@[simp] theorem State.drawn_idn (s : State) : s.drawn.idn = s.idn := rfl
@[simp] theorem State.drawn_drbg (s : State) : s.drawn.drbg = s.drbg.generate := rfl
@[simp] theorem State.drawn_spdm (s : State) : s.drawn.spdm = s.spdm := rfl
@[simp] theorem State.drawn_pke (s : State) : s.drawn.pke = s.pke := rfl
@[simp] theorem State.drawn_dge (s : State) : s.drawn.dge = s.dge := rfl
@[simp] theorem State.drawn_link (s : State) : s.drawn.link = s.link := rfl
@[simp] theorem State.drawn_fan (s : State) : s.drawn.fan = s.fan := rfl
@[simp] theorem State.drawn_mbx (s : State) : s.drawn.mbx = s.mbx := rfl
@[simp] theorem State.drawn_i3c (s : State) : s.drawn.i3c = s.i3c := rfl

@[simp] theorem State.setPort_pending (s : State) (p : PortId) (x : Port) : (s.setPort p x).pending = s.pending := rfl
@[simp] theorem State.setPort_now (s : State) (p : PortId) (x : Port) : (s.setPort p x).now = s.now := rfl
@[simp] theorem State.setPort_fresh (s : State) (p : PortId) (x : Port) : (s.setPort p x).fresh = s.fresh := rfl
@[simp] theorem State.setPort_out (s : State) (p : PortId) (x : Port) : (s.setPort p x).out = s.out := rfl
@[simp] theorem State.setPort_sys (s : State) (p : PortId) (x : Port) : (s.setPort p x).sys = s.sys := rfl
@[simp] theorem State.setPort_gov (s : State) (p : PortId) (x : Port) : (s.setPort p x).gov = s.gov := rfl
@[simp] theorem State.setPort_otp (s : State) (p : PortId) (x : Port) : (s.setPort p x).otp = s.otp := rfl
@[simp] theorem State.setPort_life (s : State) (p : PortId) (x : Port) : (s.setPort p x).life = s.life := rfl
@[simp] theorem State.setPort_dbg (s : State) (p : PortId) (x : Port) : (s.setPort p x).dbg = s.dbg := rfl
@[simp] theorem State.setPort_aonb (s : State) (p : PortId) (x : Port) : (s.setPort p x).aonb = s.aonb := rfl
@[simp] theorem State.setPort_mon (s : State) (p : PortId) (x : Port) : (s.setPort p x).mon = s.mon := rfl
@[simp] theorem State.setPort_evt (s : State) (p : PortId) (x : Port) : (s.setPort p x).evt = s.evt := rfl
@[simp] theorem State.setPort_log (s : State) (p : PortId) (x : Port) : (s.setPort p x).log = s.log := rfl
@[simp] theorem State.setPort_rel (s : State) (p : PortId) (x : Port) : (s.setPort p x).rel = s.rel := rfl
@[simp] theorem State.setPort_ports (s : State) (p : PortId) (x : Port) : (s.setPort p x).ports = s.ports.set p x := rfl
@[simp] theorem State.setPort_pond (s : State) (p : PortId) (x : Port) : (s.setPort p x).pond = s.pond := rfl
@[simp] theorem State.setPort_fab (s : State) (p : PortId) (x : Port) : (s.setPort p x).fab = s.fab := rfl
@[simp] theorem State.setPort_store (s : State) (p : PortId) (x : Port) : (s.setPort p x).store = s.store := rfl
@[simp] theorem State.setPort_hop (s : State) (p : PortId) (x : Port) : (s.setPort p x).hop = s.hop := rfl
@[simp] theorem State.setPort_mil (s : State) (p : PortId) (x : Port) : (s.setPort p x).mil = s.mil := rfl
@[simp] theorem State.setPort_idn (s : State) (p : PortId) (x : Port) : (s.setPort p x).idn = s.idn := rfl
@[simp] theorem State.setPort_drbg (s : State) (p : PortId) (x : Port) : (s.setPort p x).drbg = s.drbg := rfl
@[simp] theorem State.setPort_spdm (s : State) (p : PortId) (x : Port) : (s.setPort p x).spdm = s.spdm := rfl
@[simp] theorem State.setPort_pke (s : State) (p : PortId) (x : Port) : (s.setPort p x).pke = s.pke := rfl
@[simp] theorem State.setPort_dge (s : State) (p : PortId) (x : Port) : (s.setPort p x).dge = s.dge := rfl
@[simp] theorem State.setPort_link (s : State) (p : PortId) (x : Port) : (s.setPort p x).link = s.link := rfl
@[simp] theorem State.setPort_fan (s : State) (p : PortId) (x : Port) : (s.setPort p x).fan = s.fan := rfl
@[simp] theorem State.setPort_mbx (s : State) (p : PortId) (x : Port) : (s.setPort p x).mbx = s.mbx := rfl
@[simp] theorem State.setPort_i3c (s : State) (p : PortId) (x : Port) : (s.setPort p x).i3c = s.i3c := rfl

@[simp] theorem State.modPort_pending (s : State) (p : PortId) (f : Port → Port) : (s.modPort p f).pending = s.pending := rfl
@[simp] theorem State.modPort_now (s : State) (p : PortId) (f : Port → Port) : (s.modPort p f).now = s.now := rfl
@[simp] theorem State.modPort_fresh (s : State) (p : PortId) (f : Port → Port) : (s.modPort p f).fresh = s.fresh := rfl
@[simp] theorem State.modPort_out (s : State) (p : PortId) (f : Port → Port) : (s.modPort p f).out = s.out := rfl
@[simp] theorem State.modPort_sys (s : State) (p : PortId) (f : Port → Port) : (s.modPort p f).sys = s.sys := rfl
@[simp] theorem State.modPort_gov (s : State) (p : PortId) (f : Port → Port) : (s.modPort p f).gov = s.gov := rfl
@[simp] theorem State.modPort_otp (s : State) (p : PortId) (f : Port → Port) : (s.modPort p f).otp = s.otp := rfl
@[simp] theorem State.modPort_life (s : State) (p : PortId) (f : Port → Port) : (s.modPort p f).life = s.life := rfl
@[simp] theorem State.modPort_dbg (s : State) (p : PortId) (f : Port → Port) : (s.modPort p f).dbg = s.dbg := rfl
@[simp] theorem State.modPort_aonb (s : State) (p : PortId) (f : Port → Port) : (s.modPort p f).aonb = s.aonb := rfl
@[simp] theorem State.modPort_mon (s : State) (p : PortId) (f : Port → Port) : (s.modPort p f).mon = s.mon := rfl
@[simp] theorem State.modPort_evt (s : State) (p : PortId) (f : Port → Port) : (s.modPort p f).evt = s.evt := rfl
@[simp] theorem State.modPort_log (s : State) (p : PortId) (f : Port → Port) : (s.modPort p f).log = s.log := rfl
@[simp] theorem State.modPort_rel (s : State) (p : PortId) (f : Port → Port) : (s.modPort p f).rel = s.rel := rfl
@[simp] theorem State.modPort_ports (s : State) (p : PortId) (f : Port → Port) : (s.modPort p f).ports = s.ports.set p (f (s.port p)) := rfl
@[simp] theorem State.modPort_pond (s : State) (p : PortId) (f : Port → Port) : (s.modPort p f).pond = s.pond := rfl
@[simp] theorem State.modPort_fab (s : State) (p : PortId) (f : Port → Port) : (s.modPort p f).fab = s.fab := rfl
@[simp] theorem State.modPort_store (s : State) (p : PortId) (f : Port → Port) : (s.modPort p f).store = s.store := rfl
@[simp] theorem State.modPort_hop (s : State) (p : PortId) (f : Port → Port) : (s.modPort p f).hop = s.hop := rfl
@[simp] theorem State.modPort_mil (s : State) (p : PortId) (f : Port → Port) : (s.modPort p f).mil = s.mil := rfl
@[simp] theorem State.modPort_idn (s : State) (p : PortId) (f : Port → Port) : (s.modPort p f).idn = s.idn := rfl
@[simp] theorem State.modPort_drbg (s : State) (p : PortId) (f : Port → Port) : (s.modPort p f).drbg = s.drbg := rfl
@[simp] theorem State.modPort_spdm (s : State) (p : PortId) (f : Port → Port) : (s.modPort p f).spdm = s.spdm := rfl
@[simp] theorem State.modPort_pke (s : State) (p : PortId) (f : Port → Port) : (s.modPort p f).pke = s.pke := rfl
@[simp] theorem State.modPort_dge (s : State) (p : PortId) (f : Port → Port) : (s.modPort p f).dge = s.dge := rfl
@[simp] theorem State.modPort_link (s : State) (p : PortId) (f : Port → Port) : (s.modPort p f).link = s.link := rfl
@[simp] theorem State.modPort_fan (s : State) (p : PortId) (f : Port → Port) : (s.modPort p f).fan = s.fan := rfl
@[simp] theorem State.modPort_mbx (s : State) (p : PortId) (f : Port → Port) : (s.modPort p f).mbx = s.mbx := rfl
@[simp] theorem State.modPort_i3c (s : State) (p : PortId) (f : Port → Port) : (s.modPort p f).i3c = s.i3c := rfl

@[simp] theorem State.setPstore_pending (s : State) (p : PortId) (x : PortStore) : (s.setPstore p x).pending = s.pending := rfl
@[simp] theorem State.setPstore_now (s : State) (p : PortId) (x : PortStore) : (s.setPstore p x).now = s.now := rfl
@[simp] theorem State.setPstore_fresh (s : State) (p : PortId) (x : PortStore) : (s.setPstore p x).fresh = s.fresh := rfl
@[simp] theorem State.setPstore_out (s : State) (p : PortId) (x : PortStore) : (s.setPstore p x).out = s.out := rfl
@[simp] theorem State.setPstore_sys (s : State) (p : PortId) (x : PortStore) : (s.setPstore p x).sys = s.sys := rfl
@[simp] theorem State.setPstore_gov (s : State) (p : PortId) (x : PortStore) : (s.setPstore p x).gov = s.gov := rfl
@[simp] theorem State.setPstore_otp (s : State) (p : PortId) (x : PortStore) : (s.setPstore p x).otp = s.otp := rfl
@[simp] theorem State.setPstore_life (s : State) (p : PortId) (x : PortStore) : (s.setPstore p x).life = s.life := rfl
@[simp] theorem State.setPstore_dbg (s : State) (p : PortId) (x : PortStore) : (s.setPstore p x).dbg = s.dbg := rfl
@[simp] theorem State.setPstore_aonb (s : State) (p : PortId) (x : PortStore) : (s.setPstore p x).aonb = s.aonb := rfl
@[simp] theorem State.setPstore_mon (s : State) (p : PortId) (x : PortStore) : (s.setPstore p x).mon = s.mon := rfl
@[simp] theorem State.setPstore_evt (s : State) (p : PortId) (x : PortStore) : (s.setPstore p x).evt = s.evt := rfl
@[simp] theorem State.setPstore_log (s : State) (p : PortId) (x : PortStore) : (s.setPstore p x).log = s.log := rfl
@[simp] theorem State.setPstore_rel (s : State) (p : PortId) (x : PortStore) : (s.setPstore p x).rel = s.rel := rfl
@[simp] theorem State.setPstore_ports (s : State) (p : PortId) (x : PortStore) : (s.setPstore p x).ports = s.ports := rfl
@[simp] theorem State.setPstore_pond (s : State) (p : PortId) (x : PortStore) : (s.setPstore p x).pond = s.pond := rfl
@[simp] theorem State.setPstore_fab (s : State) (p : PortId) (x : PortStore) : (s.setPstore p x).fab = s.fab := rfl
@[simp] theorem State.setPstore_store (s : State) (p : PortId) (x : PortStore) : (s.setPstore p x).store = { s.store with ports := s.store.ports.set p x } := rfl
@[simp] theorem State.setPstore_hop (s : State) (p : PortId) (x : PortStore) : (s.setPstore p x).hop = s.hop := rfl
@[simp] theorem State.setPstore_mil (s : State) (p : PortId) (x : PortStore) : (s.setPstore p x).mil = s.mil := rfl
@[simp] theorem State.setPstore_idn (s : State) (p : PortId) (x : PortStore) : (s.setPstore p x).idn = s.idn := rfl
@[simp] theorem State.setPstore_drbg (s : State) (p : PortId) (x : PortStore) : (s.setPstore p x).drbg = s.drbg := rfl
@[simp] theorem State.setPstore_spdm (s : State) (p : PortId) (x : PortStore) : (s.setPstore p x).spdm = s.spdm := rfl
@[simp] theorem State.setPstore_pke (s : State) (p : PortId) (x : PortStore) : (s.setPstore p x).pke = s.pke := rfl
@[simp] theorem State.setPstore_dge (s : State) (p : PortId) (x : PortStore) : (s.setPstore p x).dge = s.dge := rfl
@[simp] theorem State.setPstore_link (s : State) (p : PortId) (x : PortStore) : (s.setPstore p x).link = s.link := rfl
@[simp] theorem State.setPstore_fan (s : State) (p : PortId) (x : PortStore) : (s.setPstore p x).fan = s.fan := rfl
@[simp] theorem State.setPstore_mbx (s : State) (p : PortId) (x : PortStore) : (s.setPstore p x).mbx = s.mbx := rfl
@[simp] theorem State.setPstore_i3c (s : State) (p : PortId) (x : PortStore) : (s.setPstore p x).i3c = s.i3c := rfl

@[simp] theorem State.modSlot_pending (s : State) (p : PortId) (i : SlotId) (f : SlotRec → SlotRec) : (s.modSlot p i f).pending = s.pending := rfl
@[simp] theorem State.modSlot_now (s : State) (p : PortId) (i : SlotId) (f : SlotRec → SlotRec) : (s.modSlot p i f).now = s.now := rfl
@[simp] theorem State.modSlot_fresh (s : State) (p : PortId) (i : SlotId) (f : SlotRec → SlotRec) : (s.modSlot p i f).fresh = s.fresh := rfl
@[simp] theorem State.modSlot_out (s : State) (p : PortId) (i : SlotId) (f : SlotRec → SlotRec) : (s.modSlot p i f).out = s.out := rfl
@[simp] theorem State.modSlot_sys (s : State) (p : PortId) (i : SlotId) (f : SlotRec → SlotRec) : (s.modSlot p i f).sys = s.sys := rfl
@[simp] theorem State.modSlot_gov (s : State) (p : PortId) (i : SlotId) (f : SlotRec → SlotRec) : (s.modSlot p i f).gov = s.gov := rfl
@[simp] theorem State.modSlot_otp (s : State) (p : PortId) (i : SlotId) (f : SlotRec → SlotRec) : (s.modSlot p i f).otp = s.otp := rfl
@[simp] theorem State.modSlot_life (s : State) (p : PortId) (i : SlotId) (f : SlotRec → SlotRec) : (s.modSlot p i f).life = s.life := rfl
@[simp] theorem State.modSlot_dbg (s : State) (p : PortId) (i : SlotId) (f : SlotRec → SlotRec) : (s.modSlot p i f).dbg = s.dbg := rfl
@[simp] theorem State.modSlot_aonb (s : State) (p : PortId) (i : SlotId) (f : SlotRec → SlotRec) : (s.modSlot p i f).aonb = s.aonb := rfl
@[simp] theorem State.modSlot_mon (s : State) (p : PortId) (i : SlotId) (f : SlotRec → SlotRec) : (s.modSlot p i f).mon = s.mon := rfl
@[simp] theorem State.modSlot_evt (s : State) (p : PortId) (i : SlotId) (f : SlotRec → SlotRec) : (s.modSlot p i f).evt = s.evt := rfl
@[simp] theorem State.modSlot_log (s : State) (p : PortId) (i : SlotId) (f : SlotRec → SlotRec) : (s.modSlot p i f).log = s.log := rfl
@[simp] theorem State.modSlot_rel (s : State) (p : PortId) (i : SlotId) (f : SlotRec → SlotRec) : (s.modSlot p i f).rel = s.rel := rfl
@[simp] theorem State.modSlot_ports (s : State) (p : PortId) (i : SlotId) (f : SlotRec → SlotRec) : (s.modSlot p i f).ports = s.ports := rfl
@[simp] theorem State.modSlot_pond (s : State) (p : PortId) (i : SlotId) (f : SlotRec → SlotRec) : (s.modSlot p i f).pond = s.pond := rfl
@[simp] theorem State.modSlot_fab (s : State) (p : PortId) (i : SlotId) (f : SlotRec → SlotRec) : (s.modSlot p i f).fab = s.fab := rfl
@[simp] theorem State.modSlot_hop (s : State) (p : PortId) (i : SlotId) (f : SlotRec → SlotRec) : (s.modSlot p i f).hop = s.hop := rfl
@[simp] theorem State.modSlot_mil (s : State) (p : PortId) (i : SlotId) (f : SlotRec → SlotRec) : (s.modSlot p i f).mil = s.mil := rfl
@[simp] theorem State.modSlot_idn (s : State) (p : PortId) (i : SlotId) (f : SlotRec → SlotRec) : (s.modSlot p i f).idn = s.idn := rfl
@[simp] theorem State.modSlot_drbg (s : State) (p : PortId) (i : SlotId) (f : SlotRec → SlotRec) : (s.modSlot p i f).drbg = s.drbg := rfl
@[simp] theorem State.modSlot_spdm (s : State) (p : PortId) (i : SlotId) (f : SlotRec → SlotRec) : (s.modSlot p i f).spdm = s.spdm := rfl
@[simp] theorem State.modSlot_pke (s : State) (p : PortId) (i : SlotId) (f : SlotRec → SlotRec) : (s.modSlot p i f).pke = s.pke := rfl
@[simp] theorem State.modSlot_dge (s : State) (p : PortId) (i : SlotId) (f : SlotRec → SlotRec) : (s.modSlot p i f).dge = s.dge := rfl
@[simp] theorem State.modSlot_link (s : State) (p : PortId) (i : SlotId) (f : SlotRec → SlotRec) : (s.modSlot p i f).link = s.link := rfl
@[simp] theorem State.modSlot_fan (s : State) (p : PortId) (i : SlotId) (f : SlotRec → SlotRec) : (s.modSlot p i f).fan = s.fan := rfl
@[simp] theorem State.modSlot_mbx (s : State) (p : PortId) (i : SlotId) (f : SlotRec → SlotRec) : (s.modSlot p i f).mbx = s.mbx := rfl
@[simp] theorem State.modSlot_i3c (s : State) (p : PortId) (i : SlotId) (f : SlotRec → SlotRec) : (s.modSlot p i f).i3c = s.i3c := rfl

@[simp] theorem State.setLost_pending (s : State) (p : PortId) (i : Option SlotId) : (s.setLost p i).pending = s.pending := rfl
@[simp] theorem State.setLost_now (s : State) (p : PortId) (i : Option SlotId) : (s.setLost p i).now = s.now := rfl
@[simp] theorem State.setLost_fresh (s : State) (p : PortId) (i : Option SlotId) : (s.setLost p i).fresh = s.fresh := rfl
@[simp] theorem State.setLost_out (s : State) (p : PortId) (i : Option SlotId) : (s.setLost p i).out = s.out := rfl
@[simp] theorem State.setLost_sys (s : State) (p : PortId) (i : Option SlotId) : (s.setLost p i).sys = s.sys := rfl
@[simp] theorem State.setLost_gov (s : State) (p : PortId) (i : Option SlotId) : (s.setLost p i).gov = s.gov := rfl
@[simp] theorem State.setLost_otp (s : State) (p : PortId) (i : Option SlotId) : (s.setLost p i).otp = s.otp := rfl
@[simp] theorem State.setLost_life (s : State) (p : PortId) (i : Option SlotId) : (s.setLost p i).life = s.life := rfl
@[simp] theorem State.setLost_dbg (s : State) (p : PortId) (i : Option SlotId) : (s.setLost p i).dbg = s.dbg := rfl
@[simp] theorem State.setLost_aonb (s : State) (p : PortId) (i : Option SlotId) : (s.setLost p i).aonb = s.aonb := rfl
@[simp] theorem State.setLost_mon (s : State) (p : PortId) (i : Option SlotId) : (s.setLost p i).mon = s.mon := rfl
@[simp] theorem State.setLost_evt (s : State) (p : PortId) (i : Option SlotId) : (s.setLost p i).evt = s.evt := rfl
@[simp] theorem State.setLost_log (s : State) (p : PortId) (i : Option SlotId) : (s.setLost p i).log = s.log := rfl
@[simp] theorem State.setLost_rel (s : State) (p : PortId) (i : Option SlotId) : (s.setLost p i).rel = s.rel := rfl
@[simp] theorem State.setLost_ports (s : State) (p : PortId) (i : Option SlotId) : (s.setLost p i).ports = s.ports := rfl
@[simp] theorem State.setLost_pond (s : State) (p : PortId) (i : Option SlotId) : (s.setLost p i).pond = s.pond := rfl
@[simp] theorem State.setLost_fab (s : State) (p : PortId) (i : Option SlotId) : (s.setLost p i).fab = s.fab := rfl
@[simp] theorem State.setLost_store (s : State) (p : PortId) (i : Option SlotId) : (s.setLost p i).store = { s.store with ports := s.store.ports.set p { s.pstore p with lost := i } } := rfl
@[simp] theorem State.setLost_hop (s : State) (p : PortId) (i : Option SlotId) : (s.setLost p i).hop = s.hop := rfl
@[simp] theorem State.setLost_mil (s : State) (p : PortId) (i : Option SlotId) : (s.setLost p i).mil = s.mil := rfl
@[simp] theorem State.setLost_idn (s : State) (p : PortId) (i : Option SlotId) : (s.setLost p i).idn = s.idn := rfl
@[simp] theorem State.setLost_drbg (s : State) (p : PortId) (i : Option SlotId) : (s.setLost p i).drbg = s.drbg := rfl
@[simp] theorem State.setLost_spdm (s : State) (p : PortId) (i : Option SlotId) : (s.setLost p i).spdm = s.spdm := rfl
@[simp] theorem State.setLost_pke (s : State) (p : PortId) (i : Option SlotId) : (s.setLost p i).pke = s.pke := rfl
@[simp] theorem State.setLost_dge (s : State) (p : PortId) (i : Option SlotId) : (s.setLost p i).dge = s.dge := rfl
@[simp] theorem State.setLost_link (s : State) (p : PortId) (i : Option SlotId) : (s.setLost p i).link = s.link := rfl
@[simp] theorem State.setLost_fan (s : State) (p : PortId) (i : Option SlotId) : (s.setLost p i).fan = s.fan := rfl
@[simp] theorem State.setLost_mbx (s : State) (p : PortId) (i : Option SlotId) : (s.setLost p i).mbx = s.mbx := rfl
@[simp] theorem State.setLost_i3c (s : State) (p : PortId) (i : Option SlotId) : (s.setLost p i).i3c = s.i3c := rfl

@[simp] theorem State.mapPorts_pending (s : State) (f : PortId → Port → Port) : (s.mapPorts f).pending = s.pending := by simp only [State.mapPorts]
@[simp] theorem State.mapPorts_now (s : State) (f : PortId → Port → Port) : (s.mapPorts f).now = s.now := by simp only [State.mapPorts]
@[simp] theorem State.mapPorts_fresh (s : State) (f : PortId → Port → Port) : (s.mapPorts f).fresh = s.fresh := by simp only [State.mapPorts]
@[simp] theorem State.mapPorts_out (s : State) (f : PortId → Port → Port) : (s.mapPorts f).out = s.out := by simp only [State.mapPorts]
@[simp] theorem State.mapPorts_sys (s : State) (f : PortId → Port → Port) : (s.mapPorts f).sys = s.sys := by simp only [State.mapPorts]
@[simp] theorem State.mapPorts_gov (s : State) (f : PortId → Port → Port) : (s.mapPorts f).gov = s.gov := by simp only [State.mapPorts]
@[simp] theorem State.mapPorts_otp (s : State) (f : PortId → Port → Port) : (s.mapPorts f).otp = s.otp := by simp only [State.mapPorts]
@[simp] theorem State.mapPorts_life (s : State) (f : PortId → Port → Port) : (s.mapPorts f).life = s.life := by simp only [State.mapPorts]
@[simp] theorem State.mapPorts_dbg (s : State) (f : PortId → Port → Port) : (s.mapPorts f).dbg = s.dbg := by simp only [State.mapPorts]
@[simp] theorem State.mapPorts_aonb (s : State) (f : PortId → Port → Port) : (s.mapPorts f).aonb = s.aonb := by simp only [State.mapPorts]
@[simp] theorem State.mapPorts_mon (s : State) (f : PortId → Port → Port) : (s.mapPorts f).mon = s.mon := by simp only [State.mapPorts]
@[simp] theorem State.mapPorts_evt (s : State) (f : PortId → Port → Port) : (s.mapPorts f).evt = s.evt := by simp only [State.mapPorts]
@[simp] theorem State.mapPorts_log (s : State) (f : PortId → Port → Port) : (s.mapPorts f).log = s.log := by simp only [State.mapPorts]
@[simp] theorem State.mapPorts_rel (s : State) (f : PortId → Port → Port) : (s.mapPorts f).rel = s.rel := by simp only [State.mapPorts]
@[simp] theorem State.mapPorts_pond (s : State) (f : PortId → Port → Port) : (s.mapPorts f).pond = s.pond := by simp only [State.mapPorts]
@[simp] theorem State.mapPorts_fab (s : State) (f : PortId → Port → Port) : (s.mapPorts f).fab = s.fab := by simp only [State.mapPorts]
@[simp] theorem State.mapPorts_store (s : State) (f : PortId → Port → Port) : (s.mapPorts f).store = s.store := by simp only [State.mapPorts]
@[simp] theorem State.mapPorts_hop (s : State) (f : PortId → Port → Port) : (s.mapPorts f).hop = s.hop := by simp only [State.mapPorts]
@[simp] theorem State.mapPorts_mil (s : State) (f : PortId → Port → Port) : (s.mapPorts f).mil = s.mil := by simp only [State.mapPorts]
@[simp] theorem State.mapPorts_idn (s : State) (f : PortId → Port → Port) : (s.mapPorts f).idn = s.idn := by simp only [State.mapPorts]
@[simp] theorem State.mapPorts_drbg (s : State) (f : PortId → Port → Port) : (s.mapPorts f).drbg = s.drbg := by simp only [State.mapPorts]
@[simp] theorem State.mapPorts_spdm (s : State) (f : PortId → Port → Port) : (s.mapPorts f).spdm = s.spdm := by simp only [State.mapPorts]
@[simp] theorem State.mapPorts_pke (s : State) (f : PortId → Port → Port) : (s.mapPorts f).pke = s.pke := by simp only [State.mapPorts]
@[simp] theorem State.mapPorts_dge (s : State) (f : PortId → Port → Port) : (s.mapPorts f).dge = s.dge := by simp only [State.mapPorts]
@[simp] theorem State.mapPorts_link (s : State) (f : PortId → Port → Port) : (s.mapPorts f).link = s.link := by simp only [State.mapPorts]
@[simp] theorem State.mapPorts_fan (s : State) (f : PortId → Port → Port) : (s.mapPorts f).fan = s.fan := by simp only [State.mapPorts]
@[simp] theorem State.mapPorts_mbx (s : State) (f : PortId → Port → Port) : (s.mapPorts f).mbx = s.mbx := by simp only [State.mapPorts]
@[simp] theorem State.mapPorts_i3c (s : State) (f : PortId → Port → Port) : (s.mapPorts f).i3c = s.i3c := by simp only [State.mapPorts]

@[simp] theorem State.setLport_pending (s : State) (l : LinkId) (x : LinkPort) : (s.setLport l x).pending = s.pending := by cases l <;> rfl
@[simp] theorem State.setLport_now (s : State) (l : LinkId) (x : LinkPort) : (s.setLport l x).now = s.now := by cases l <;> rfl
@[simp] theorem State.setLport_fresh (s : State) (l : LinkId) (x : LinkPort) : (s.setLport l x).fresh = s.fresh := by cases l <;> rfl
@[simp] theorem State.setLport_out (s : State) (l : LinkId) (x : LinkPort) : (s.setLport l x).out = s.out := by cases l <;> rfl
@[simp] theorem State.setLport_sys (s : State) (l : LinkId) (x : LinkPort) : (s.setLport l x).sys = s.sys := by cases l <;> rfl
@[simp] theorem State.setLport_gov (s : State) (l : LinkId) (x : LinkPort) : (s.setLport l x).gov = s.gov := by cases l <;> rfl
@[simp] theorem State.setLport_otp (s : State) (l : LinkId) (x : LinkPort) : (s.setLport l x).otp = s.otp := by cases l <;> rfl
@[simp] theorem State.setLport_life (s : State) (l : LinkId) (x : LinkPort) : (s.setLport l x).life = s.life := by cases l <;> rfl
@[simp] theorem State.setLport_dbg (s : State) (l : LinkId) (x : LinkPort) : (s.setLport l x).dbg = s.dbg := by cases l <;> rfl
@[simp] theorem State.setLport_aonb (s : State) (l : LinkId) (x : LinkPort) : (s.setLport l x).aonb = s.aonb := by cases l <;> rfl
@[simp] theorem State.setLport_mon (s : State) (l : LinkId) (x : LinkPort) : (s.setLport l x).mon = s.mon := by cases l <;> rfl
@[simp] theorem State.setLport_evt (s : State) (l : LinkId) (x : LinkPort) : (s.setLport l x).evt = s.evt := by cases l <;> rfl
@[simp] theorem State.setLport_log (s : State) (l : LinkId) (x : LinkPort) : (s.setLport l x).log = s.log := by cases l <;> rfl
@[simp] theorem State.setLport_rel (s : State) (l : LinkId) (x : LinkPort) : (s.setLport l x).rel = s.rel := by cases l <;> rfl
@[simp] theorem State.setLport_ports (s : State) (l : LinkId) (x : LinkPort) : (s.setLport l x).ports = s.ports := by cases l <;> rfl
@[simp] theorem State.setLport_pond (s : State) (l : LinkId) (x : LinkPort) : (s.setLport l x).pond = s.pond := by cases l <;> rfl
@[simp] theorem State.setLport_fab (s : State) (l : LinkId) (x : LinkPort) : (s.setLport l x).fab = s.fab := by cases l <;> rfl
@[simp] theorem State.setLport_store (s : State) (l : LinkId) (x : LinkPort) : (s.setLport l x).store = s.store := by cases l <;> rfl
@[simp] theorem State.setLport_hop (s : State) (l : LinkId) (x : LinkPort) : (s.setLport l x).hop = s.hop := by cases l <;> rfl
@[simp] theorem State.setLport_mil (s : State) (l : LinkId) (x : LinkPort) : (s.setLport l x).mil = s.mil := by cases l <;> rfl
@[simp] theorem State.setLport_idn (s : State) (l : LinkId) (x : LinkPort) : (s.setLport l x).idn = s.idn := by cases l <;> rfl
@[simp] theorem State.setLport_drbg (s : State) (l : LinkId) (x : LinkPort) : (s.setLport l x).drbg = s.drbg := by cases l <;> rfl
@[simp] theorem State.setLport_spdm (s : State) (l : LinkId) (x : LinkPort) : (s.setLport l x).spdm = s.spdm := by cases l <;> rfl
@[simp] theorem State.setLport_pke (s : State) (l : LinkId) (x : LinkPort) : (s.setLport l x).pke = s.pke := by cases l <;> rfl
@[simp] theorem State.setLport_dge (s : State) (l : LinkId) (x : LinkPort) : (s.setLport l x).dge = s.dge := by cases l <;> rfl
@[simp] theorem State.setLport_fan (s : State) (l : LinkId) (x : LinkPort) : (s.setLport l x).fan = s.fan := by cases l <;> rfl
@[simp] theorem State.setLport_mbx (s : State) (l : LinkId) (x : LinkPort) : (s.setLport l x).mbx = s.mbx := by cases l <;> rfl
@[simp] theorem State.setLport_i3c (s : State) (l : LinkId) (x : LinkPort) : (s.setLport l x).i3c = s.i3c := by cases l <;> rfl

@[simp] theorem State.modLport_pending (s : State) (l : LinkId) (f : LinkPort → LinkPort) : (s.modLport l f).pending = s.pending := by cases l <;> rfl
@[simp] theorem State.modLport_now (s : State) (l : LinkId) (f : LinkPort → LinkPort) : (s.modLport l f).now = s.now := by cases l <;> rfl
@[simp] theorem State.modLport_fresh (s : State) (l : LinkId) (f : LinkPort → LinkPort) : (s.modLport l f).fresh = s.fresh := by cases l <;> rfl
@[simp] theorem State.modLport_out (s : State) (l : LinkId) (f : LinkPort → LinkPort) : (s.modLport l f).out = s.out := by cases l <;> rfl
@[simp] theorem State.modLport_sys (s : State) (l : LinkId) (f : LinkPort → LinkPort) : (s.modLport l f).sys = s.sys := by cases l <;> rfl
@[simp] theorem State.modLport_gov (s : State) (l : LinkId) (f : LinkPort → LinkPort) : (s.modLport l f).gov = s.gov := by cases l <;> rfl
@[simp] theorem State.modLport_otp (s : State) (l : LinkId) (f : LinkPort → LinkPort) : (s.modLport l f).otp = s.otp := by cases l <;> rfl
@[simp] theorem State.modLport_life (s : State) (l : LinkId) (f : LinkPort → LinkPort) : (s.modLport l f).life = s.life := by cases l <;> rfl
@[simp] theorem State.modLport_dbg (s : State) (l : LinkId) (f : LinkPort → LinkPort) : (s.modLport l f).dbg = s.dbg := by cases l <;> rfl
@[simp] theorem State.modLport_aonb (s : State) (l : LinkId) (f : LinkPort → LinkPort) : (s.modLport l f).aonb = s.aonb := by cases l <;> rfl
@[simp] theorem State.modLport_mon (s : State) (l : LinkId) (f : LinkPort → LinkPort) : (s.modLport l f).mon = s.mon := by cases l <;> rfl
@[simp] theorem State.modLport_evt (s : State) (l : LinkId) (f : LinkPort → LinkPort) : (s.modLport l f).evt = s.evt := by cases l <;> rfl
@[simp] theorem State.modLport_log (s : State) (l : LinkId) (f : LinkPort → LinkPort) : (s.modLport l f).log = s.log := by cases l <;> rfl
@[simp] theorem State.modLport_rel (s : State) (l : LinkId) (f : LinkPort → LinkPort) : (s.modLport l f).rel = s.rel := by cases l <;> rfl
@[simp] theorem State.modLport_ports (s : State) (l : LinkId) (f : LinkPort → LinkPort) : (s.modLport l f).ports = s.ports := by cases l <;> rfl
@[simp] theorem State.modLport_pond (s : State) (l : LinkId) (f : LinkPort → LinkPort) : (s.modLport l f).pond = s.pond := by cases l <;> rfl
@[simp] theorem State.modLport_fab (s : State) (l : LinkId) (f : LinkPort → LinkPort) : (s.modLport l f).fab = s.fab := by cases l <;> rfl
@[simp] theorem State.modLport_store (s : State) (l : LinkId) (f : LinkPort → LinkPort) : (s.modLport l f).store = s.store := by cases l <;> rfl
@[simp] theorem State.modLport_hop (s : State) (l : LinkId) (f : LinkPort → LinkPort) : (s.modLport l f).hop = s.hop := by cases l <;> rfl
@[simp] theorem State.modLport_mil (s : State) (l : LinkId) (f : LinkPort → LinkPort) : (s.modLport l f).mil = s.mil := by cases l <;> rfl
@[simp] theorem State.modLport_idn (s : State) (l : LinkId) (f : LinkPort → LinkPort) : (s.modLport l f).idn = s.idn := by cases l <;> rfl
@[simp] theorem State.modLport_drbg (s : State) (l : LinkId) (f : LinkPort → LinkPort) : (s.modLport l f).drbg = s.drbg := by cases l <;> rfl
@[simp] theorem State.modLport_spdm (s : State) (l : LinkId) (f : LinkPort → LinkPort) : (s.modLport l f).spdm = s.spdm := by cases l <;> rfl
@[simp] theorem State.modLport_pke (s : State) (l : LinkId) (f : LinkPort → LinkPort) : (s.modLport l f).pke = s.pke := by cases l <;> rfl
@[simp] theorem State.modLport_dge (s : State) (l : LinkId) (f : LinkPort → LinkPort) : (s.modLport l f).dge = s.dge := by cases l <;> rfl
@[simp] theorem State.modLport_fan (s : State) (l : LinkId) (f : LinkPort → LinkPort) : (s.modLport l f).fan = s.fan := by cases l <;> rfl
@[simp] theorem State.modLport_mbx (s : State) (l : LinkId) (f : LinkPort → LinkPort) : (s.modLport l f).mbx = s.mbx := by cases l <;> rfl
@[simp] theorem State.modLport_i3c (s : State) (l : LinkId) (f : LinkPort → LinkPort) : (s.modLport l f).i3c = s.i3c := by cases l <;> rfl

@[simp] theorem State.setMbox_pending (s : State) (m : MbxId) (x : Mailbox) : (s.setMbox m x).pending = s.pending := by cases m <;> rfl
@[simp] theorem State.setMbox_now (s : State) (m : MbxId) (x : Mailbox) : (s.setMbox m x).now = s.now := by cases m <;> rfl
@[simp] theorem State.setMbox_fresh (s : State) (m : MbxId) (x : Mailbox) : (s.setMbox m x).fresh = s.fresh := by cases m <;> rfl
@[simp] theorem State.setMbox_out (s : State) (m : MbxId) (x : Mailbox) : (s.setMbox m x).out = s.out := by cases m <;> rfl
@[simp] theorem State.setMbox_sys (s : State) (m : MbxId) (x : Mailbox) : (s.setMbox m x).sys = s.sys := by cases m <;> rfl
@[simp] theorem State.setMbox_gov (s : State) (m : MbxId) (x : Mailbox) : (s.setMbox m x).gov = s.gov := by cases m <;> rfl
@[simp] theorem State.setMbox_otp (s : State) (m : MbxId) (x : Mailbox) : (s.setMbox m x).otp = s.otp := by cases m <;> rfl
@[simp] theorem State.setMbox_life (s : State) (m : MbxId) (x : Mailbox) : (s.setMbox m x).life = s.life := by cases m <;> rfl
@[simp] theorem State.setMbox_dbg (s : State) (m : MbxId) (x : Mailbox) : (s.setMbox m x).dbg = s.dbg := by cases m <;> rfl
@[simp] theorem State.setMbox_aonb (s : State) (m : MbxId) (x : Mailbox) : (s.setMbox m x).aonb = s.aonb := by cases m <;> rfl
@[simp] theorem State.setMbox_mon (s : State) (m : MbxId) (x : Mailbox) : (s.setMbox m x).mon = s.mon := by cases m <;> rfl
@[simp] theorem State.setMbox_evt (s : State) (m : MbxId) (x : Mailbox) : (s.setMbox m x).evt = s.evt := by cases m <;> rfl
@[simp] theorem State.setMbox_log (s : State) (m : MbxId) (x : Mailbox) : (s.setMbox m x).log = s.log := by cases m <;> rfl
@[simp] theorem State.setMbox_rel (s : State) (m : MbxId) (x : Mailbox) : (s.setMbox m x).rel = s.rel := by cases m <;> rfl
@[simp] theorem State.setMbox_ports (s : State) (m : MbxId) (x : Mailbox) : (s.setMbox m x).ports = s.ports := by cases m <;> rfl
@[simp] theorem State.setMbox_pond (s : State) (m : MbxId) (x : Mailbox) : (s.setMbox m x).pond = s.pond := by cases m <;> rfl
@[simp] theorem State.setMbox_fab (s : State) (m : MbxId) (x : Mailbox) : (s.setMbox m x).fab = s.fab := by cases m <;> rfl
@[simp] theorem State.setMbox_store (s : State) (m : MbxId) (x : Mailbox) : (s.setMbox m x).store = s.store := by cases m <;> rfl
@[simp] theorem State.setMbox_hop (s : State) (m : MbxId) (x : Mailbox) : (s.setMbox m x).hop = s.hop := by cases m <;> rfl
@[simp] theorem State.setMbox_mil (s : State) (m : MbxId) (x : Mailbox) : (s.setMbox m x).mil = s.mil := by cases m <;> rfl
@[simp] theorem State.setMbox_idn (s : State) (m : MbxId) (x : Mailbox) : (s.setMbox m x).idn = s.idn := by cases m <;> rfl
@[simp] theorem State.setMbox_drbg (s : State) (m : MbxId) (x : Mailbox) : (s.setMbox m x).drbg = s.drbg := by cases m <;> rfl
@[simp] theorem State.setMbox_spdm (s : State) (m : MbxId) (x : Mailbox) : (s.setMbox m x).spdm = s.spdm := by cases m <;> rfl
@[simp] theorem State.setMbox_pke (s : State) (m : MbxId) (x : Mailbox) : (s.setMbox m x).pke = s.pke := by cases m <;> rfl
@[simp] theorem State.setMbox_dge (s : State) (m : MbxId) (x : Mailbox) : (s.setMbox m x).dge = s.dge := by cases m <;> rfl
@[simp] theorem State.setMbox_link (s : State) (m : MbxId) (x : Mailbox) : (s.setMbox m x).link = s.link := by cases m <;> rfl
@[simp] theorem State.setMbox_fan (s : State) (m : MbxId) (x : Mailbox) : (s.setMbox m x).fan = s.fan := by cases m <;> rfl
@[simp] theorem State.setMbox_i3c (s : State) (m : MbxId) (x : Mailbox) : (s.setMbox m x).i3c = s.i3c := by cases m <;> rfl

@[simp] theorem State.endStaging_pending (s : State) (p : PortId) (b : Bool) : (s.endStaging p b).pending = s.pending := by cases b <;> simp [State.endStaging]
@[simp] theorem State.endStaging_now (s : State) (p : PortId) (b : Bool) : (s.endStaging p b).now = s.now := by cases b <;> simp [State.endStaging]
@[simp] theorem State.endStaging_fresh (s : State) (p : PortId) (b : Bool) : (s.endStaging p b).fresh = s.fresh := by cases b <;> simp [State.endStaging]
@[simp] theorem State.endStaging_out (s : State) (p : PortId) (b : Bool) : (s.endStaging p b).out = s.out := by cases b <;> simp [State.endStaging]
@[simp] theorem State.endStaging_sys (s : State) (p : PortId) (b : Bool) : (s.endStaging p b).sys = s.sys := by cases b <;> simp [State.endStaging]
@[simp] theorem State.endStaging_gov (s : State) (p : PortId) (b : Bool) : (s.endStaging p b).gov = s.gov := by cases b <;> simp [State.endStaging]
@[simp] theorem State.endStaging_otp (s : State) (p : PortId) (b : Bool) : (s.endStaging p b).otp = s.otp := by cases b <;> simp [State.endStaging]
@[simp] theorem State.endStaging_life (s : State) (p : PortId) (b : Bool) : (s.endStaging p b).life = s.life := by cases b <;> simp [State.endStaging]
@[simp] theorem State.endStaging_dbg (s : State) (p : PortId) (b : Bool) : (s.endStaging p b).dbg = s.dbg := by cases b <;> simp [State.endStaging]
@[simp] theorem State.endStaging_aonb (s : State) (p : PortId) (b : Bool) : (s.endStaging p b).aonb = s.aonb := by cases b <;> simp [State.endStaging]
@[simp] theorem State.endStaging_mon (s : State) (p : PortId) (b : Bool) : (s.endStaging p b).mon = s.mon := by cases b <;> simp [State.endStaging]
@[simp] theorem State.endStaging_evt (s : State) (p : PortId) (b : Bool) : (s.endStaging p b).evt = s.evt := by cases b <;> simp [State.endStaging]
@[simp] theorem State.endStaging_log (s : State) (p : PortId) (b : Bool) : (s.endStaging p b).log = s.log := by cases b <;> simp [State.endStaging]
@[simp] theorem State.endStaging_rel (s : State) (p : PortId) (b : Bool) : (s.endStaging p b).rel = s.rel := by cases b <;> simp [State.endStaging]
@[simp] theorem State.endStaging_fab (s : State) (p : PortId) (b : Bool) : (s.endStaging p b).fab = s.fab := by cases b <;> simp [State.endStaging]
@[simp] theorem State.endStaging_store (s : State) (p : PortId) (b : Bool) : (s.endStaging p b).store = s.store := by cases b <;> simp [State.endStaging]
@[simp] theorem State.endStaging_hop (s : State) (p : PortId) (b : Bool) : (s.endStaging p b).hop = s.hop := by cases b <;> simp [State.endStaging]
@[simp] theorem State.endStaging_mil (s : State) (p : PortId) (b : Bool) : (s.endStaging p b).mil = s.mil := by cases b <;> simp [State.endStaging]
@[simp] theorem State.endStaging_idn (s : State) (p : PortId) (b : Bool) : (s.endStaging p b).idn = s.idn := by cases b <;> simp [State.endStaging]
@[simp] theorem State.endStaging_drbg (s : State) (p : PortId) (b : Bool) : (s.endStaging p b).drbg = s.drbg := by cases b <;> simp [State.endStaging]
@[simp] theorem State.endStaging_spdm (s : State) (p : PortId) (b : Bool) : (s.endStaging p b).spdm = s.spdm := by cases b <;> simp [State.endStaging]
@[simp] theorem State.endStaging_pke (s : State) (p : PortId) (b : Bool) : (s.endStaging p b).pke = s.pke := by cases b <;> simp [State.endStaging]
@[simp] theorem State.endStaging_dge (s : State) (p : PortId) (b : Bool) : (s.endStaging p b).dge = s.dge := by cases b <;> simp [State.endStaging]
@[simp] theorem State.endStaging_link (s : State) (p : PortId) (b : Bool) : (s.endStaging p b).link = s.link := by cases b <;> simp [State.endStaging]
@[simp] theorem State.endStaging_fan (s : State) (p : PortId) (b : Bool) : (s.endStaging p b).fan = s.fan := by cases b <;> simp [State.endStaging]
@[simp] theorem State.endStaging_mbx (s : State) (p : PortId) (b : Bool) : (s.endStaging p b).mbx = s.mbx := by cases b <;> simp [State.endStaging]
@[simp] theorem State.endStaging_i3c (s : State) (p : PortId) (b : Bool) : (s.endStaging p b).i3c = s.i3c := by cases b <;> simp [State.endStaging]

@[simp] theorem State.contain_pending (s : State) (p : PortId) (c : ContainCause) : (s.contain p c).pending = s.pending := rfl
@[simp] theorem State.contain_now (s : State) (p : PortId) (c : ContainCause) : (s.contain p c).now = s.now := rfl
@[simp] theorem State.contain_fresh (s : State) (p : PortId) (c : ContainCause) : (s.contain p c).fresh = s.fresh := rfl
@[simp] theorem State.contain_out (s : State) (p : PortId) (c : ContainCause) : (s.contain p c).out = s.out := rfl
@[simp] theorem State.contain_sys (s : State) (p : PortId) (c : ContainCause) : (s.contain p c).sys = s.sys := rfl
@[simp] theorem State.contain_gov (s : State) (p : PortId) (c : ContainCause) : (s.contain p c).gov = s.gov := rfl
@[simp] theorem State.contain_otp (s : State) (p : PortId) (c : ContainCause) : (s.contain p c).otp = s.otp := rfl
@[simp] theorem State.contain_life (s : State) (p : PortId) (c : ContainCause) : (s.contain p c).life = s.life := rfl
@[simp] theorem State.contain_dbg (s : State) (p : PortId) (c : ContainCause) : (s.contain p c).dbg = s.dbg := rfl
@[simp] theorem State.contain_aonb (s : State) (p : PortId) (c : ContainCause) : (s.contain p c).aonb = s.aonb := rfl
@[simp] theorem State.contain_mon (s : State) (p : PortId) (c : ContainCause) : (s.contain p c).mon = s.mon := rfl
@[simp] theorem State.contain_evt (s : State) (p : PortId) (c : ContainCause) : (s.contain p c).evt = s.evt := rfl
@[simp] theorem State.contain_log (s : State) (p : PortId) (c : ContainCause) : (s.contain p c).log = s.log := rfl
@[simp] theorem State.contain_rel (s : State) (p : PortId) (c : ContainCause) : (s.contain p c).rel = s.rel := rfl
@[simp] theorem State.contain_ports (s : State) (p : PortId) (c : ContainCause) : (s.contain p c).ports = s.ports.set p ((s.port p).contain s.now c) := rfl
@[simp] theorem State.contain_pond (s : State) (p : PortId) (c : ContainCause) : (s.contain p c).pond = s.pond := rfl
@[simp] theorem State.contain_fab (s : State) (p : PortId) (c : ContainCause) : (s.contain p c).fab = s.fab := rfl
@[simp] theorem State.contain_store (s : State) (p : PortId) (c : ContainCause) : (s.contain p c).store = s.store := rfl
@[simp] theorem State.contain_hop (s : State) (p : PortId) (c : ContainCause) : (s.contain p c).hop = s.hop := rfl
@[simp] theorem State.contain_mil (s : State) (p : PortId) (c : ContainCause) : (s.contain p c).mil = s.mil := rfl
@[simp] theorem State.contain_idn (s : State) (p : PortId) (c : ContainCause) : (s.contain p c).idn = s.idn := rfl
@[simp] theorem State.contain_drbg (s : State) (p : PortId) (c : ContainCause) : (s.contain p c).drbg = s.drbg := rfl
@[simp] theorem State.contain_spdm (s : State) (p : PortId) (c : ContainCause) : (s.contain p c).spdm = s.spdm := rfl
@[simp] theorem State.contain_pke (s : State) (p : PortId) (c : ContainCause) : (s.contain p c).pke = s.pke := rfl
@[simp] theorem State.contain_dge (s : State) (p : PortId) (c : ContainCause) : (s.contain p c).dge = s.dge := rfl
@[simp] theorem State.contain_link (s : State) (p : PortId) (c : ContainCause) : (s.contain p c).link = s.link := rfl
@[simp] theorem State.contain_fan (s : State) (p : PortId) (c : ContainCause) : (s.contain p c).fan = s.fan := rfl
@[simp] theorem State.contain_mbx (s : State) (p : PortId) (c : ContainCause) : (s.contain p c).mbx = s.mbx := rfl
@[simp] theorem State.contain_i3c (s : State) (p : PortId) (c : ContainCause) : (s.contain p c).i3c = s.i3c := rfl

@[simp] theorem State.settle_pending (s : State) (ds : List Nat) : (s.settle ds).pending = s.pending := rfl
@[simp] theorem State.settle_now (s : State) (ds : List Nat) : (s.settle ds).now = s.now := rfl
@[simp] theorem State.settle_fresh (s : State) (ds : List Nat) : (s.settle ds).fresh = s.fresh := rfl
@[simp] theorem State.settle_out (s : State) (ds : List Nat) : (s.settle ds).out = s.out := rfl
@[simp] theorem State.settle_sys (s : State) (ds : List Nat) : (s.settle ds).sys = s.sys := rfl
@[simp] theorem State.settle_gov (s : State) (ds : List Nat) : (s.settle ds).gov = { s.gov with dom := s.settled ds } := rfl
@[simp] theorem State.settle_otp (s : State) (ds : List Nat) : (s.settle ds).otp = s.otp := rfl
@[simp] theorem State.settle_life (s : State) (ds : List Nat) : (s.settle ds).life = s.life := rfl
@[simp] theorem State.settle_dbg (s : State) (ds : List Nat) : (s.settle ds).dbg = s.dbg := rfl
@[simp] theorem State.settle_aonb (s : State) (ds : List Nat) : (s.settle ds).aonb = s.aonb := rfl
@[simp] theorem State.settle_mon (s : State) (ds : List Nat) : (s.settle ds).mon = s.mon := rfl
@[simp] theorem State.settle_evt (s : State) (ds : List Nat) : (s.settle ds).evt = s.evt := rfl
@[simp] theorem State.settle_log (s : State) (ds : List Nat) : (s.settle ds).log = s.log := rfl
@[simp] theorem State.settle_rel (s : State) (ds : List Nat) : (s.settle ds).rel = s.rel := rfl
@[simp] theorem State.settle_ports (s : State) (ds : List Nat) : (s.settle ds).ports = s.ports := rfl
@[simp] theorem State.settle_pond (s : State) (ds : List Nat) : (s.settle ds).pond = s.pond := rfl
@[simp] theorem State.settle_fab (s : State) (ds : List Nat) : (s.settle ds).fab = s.fab := rfl
@[simp] theorem State.settle_store (s : State) (ds : List Nat) : (s.settle ds).store = s.store := rfl
@[simp] theorem State.settle_hop (s : State) (ds : List Nat) : (s.settle ds).hop = s.hop := rfl
@[simp] theorem State.settle_mil (s : State) (ds : List Nat) : (s.settle ds).mil = s.mil := rfl
@[simp] theorem State.settle_idn (s : State) (ds : List Nat) : (s.settle ds).idn = s.idn := rfl
@[simp] theorem State.settle_drbg (s : State) (ds : List Nat) : (s.settle ds).drbg = s.drbg := rfl
@[simp] theorem State.settle_spdm (s : State) (ds : List Nat) : (s.settle ds).spdm = s.spdm := rfl
@[simp] theorem State.settle_pke (s : State) (ds : List Nat) : (s.settle ds).pke = s.pke := rfl
@[simp] theorem State.settle_dge (s : State) (ds : List Nat) : (s.settle ds).dge = s.dge := rfl
@[simp] theorem State.settle_link (s : State) (ds : List Nat) : (s.settle ds).link = s.link := rfl
@[simp] theorem State.settle_fan (s : State) (ds : List Nat) : (s.settle ds).fan = s.fan := rfl
@[simp] theorem State.settle_mbx (s : State) (ds : List Nat) : (s.settle ds).mbx = s.mbx := rfl
@[simp] theorem State.settle_i3c (s : State) (ds : List Nat) : (s.settle ds).i3c = s.i3c := rfl

@[simp] theorem State.resetPort_pending (s : State) (p : PortId) : (s.resetPort p).pending = s.pending := by unfold State.resetPort; split <;> simp
@[simp] theorem State.resetPort_now (s : State) (p : PortId) : (s.resetPort p).now = s.now := by unfold State.resetPort; split <;> simp
@[simp] theorem State.resetPort_fresh (s : State) (p : PortId) : (s.resetPort p).fresh = s.fresh := by unfold State.resetPort; split <;> simp
@[simp] theorem State.resetPort_out (s : State) (p : PortId) : (s.resetPort p).out = s.out := by unfold State.resetPort; split <;> simp
@[simp] theorem State.resetPort_sys (s : State) (p : PortId) : (s.resetPort p).sys = s.sys := by unfold State.resetPort; split <;> simp
@[simp] theorem State.resetPort_otp (s : State) (p : PortId) : (s.resetPort p).otp = s.otp := by unfold State.resetPort; split <;> simp
@[simp] theorem State.resetPort_life (s : State) (p : PortId) : (s.resetPort p).life = s.life := by unfold State.resetPort; split <;> simp
@[simp] theorem State.resetPort_dbg (s : State) (p : PortId) : (s.resetPort p).dbg = s.dbg := by unfold State.resetPort; split <;> simp
@[simp] theorem State.resetPort_aonb (s : State) (p : PortId) : (s.resetPort p).aonb = s.aonb := by unfold State.resetPort; split <;> simp
@[simp] theorem State.resetPort_mon (s : State) (p : PortId) : (s.resetPort p).mon = s.mon := by unfold State.resetPort; split <;> simp
@[simp] theorem State.resetPort_evt (s : State) (p : PortId) : (s.resetPort p).evt = s.evt := by unfold State.resetPort; split <;> simp
@[simp] theorem State.resetPort_log (s : State) (p : PortId) : (s.resetPort p).log = s.log := by unfold State.resetPort; split <;> simp
@[simp] theorem State.resetPort_rel (s : State) (p : PortId) : (s.resetPort p).rel = s.rel := by unfold State.resetPort; split <;> simp
@[simp] theorem State.resetPort_fab (s : State) (p : PortId) : (s.resetPort p).fab = s.fab := by unfold State.resetPort; split <;> simp
@[simp] theorem State.resetPort_store (s : State) (p : PortId) : (s.resetPort p).store = s.store := by unfold State.resetPort; split <;> simp
@[simp] theorem State.resetPort_hop (s : State) (p : PortId) : (s.resetPort p).hop = s.hop := by unfold State.resetPort; split <;> simp
@[simp] theorem State.resetPort_mil (s : State) (p : PortId) : (s.resetPort p).mil = s.mil := by unfold State.resetPort; split <;> simp
@[simp] theorem State.resetPort_idn (s : State) (p : PortId) : (s.resetPort p).idn = s.idn := by unfold State.resetPort; split <;> simp
@[simp] theorem State.resetPort_drbg (s : State) (p : PortId) : (s.resetPort p).drbg = s.drbg := by unfold State.resetPort; split <;> simp
@[simp] theorem State.resetPort_spdm (s : State) (p : PortId) : (s.resetPort p).spdm = s.spdm := by unfold State.resetPort; split <;> simp
@[simp] theorem State.resetPort_pke (s : State) (p : PortId) : (s.resetPort p).pke = s.pke := by unfold State.resetPort; split <;> simp
@[simp] theorem State.resetPort_dge (s : State) (p : PortId) : (s.resetPort p).dge = s.dge := by unfold State.resetPort; split <;> simp
@[simp] theorem State.resetPort_link (s : State) (p : PortId) : (s.resetPort p).link = s.link := by unfold State.resetPort; split <;> simp
@[simp] theorem State.resetPort_fan (s : State) (p : PortId) : (s.resetPort p).fan = s.fan := by unfold State.resetPort; split <;> simp
@[simp] theorem State.resetPort_mbx (s : State) (p : PortId) : (s.resetPort p).mbx = s.mbx := by unfold State.resetPort; split <;> simp
@[simp] theorem State.resetPort_i3c (s : State) (p : PortId) : (s.resetPort p).i3c = s.i3c := by unfold State.resetPort; split <;> simp

@[simp] theorem State.raiseOne_pending (s : State) (e : Raised) : (s.raiseOne e).pending = s.pending := by unfold State.raiseOne; split <;> simp only []
@[simp] theorem State.raiseOne_now (s : State) (e : Raised) : (s.raiseOne e).now = s.now := by unfold State.raiseOne; split <;> simp only []
@[simp] theorem State.raiseOne_fresh (s : State) (e : Raised) : (s.raiseOne e).fresh = s.fresh := by unfold State.raiseOne; split <;> simp only []
@[simp] theorem State.raiseOne_out (s : State) (e : Raised) : (s.raiseOne e).out = s.out := by unfold State.raiseOne; split <;> simp only []
@[simp] theorem State.raiseOne_sys (s : State) (e : Raised) : (s.raiseOne e).sys = s.sys := by unfold State.raiseOne; split <;> simp only []
@[simp] theorem State.raiseOne_gov (s : State) (e : Raised) : (s.raiseOne e).gov = s.gov := by unfold State.raiseOne; split <;> simp only []
@[simp] theorem State.raiseOne_otp (s : State) (e : Raised) : (s.raiseOne e).otp = s.otp := by unfold State.raiseOne; split <;> simp only []
@[simp] theorem State.raiseOne_life (s : State) (e : Raised) : (s.raiseOne e).life = s.life := by unfold State.raiseOne; split <;> simp only []
@[simp] theorem State.raiseOne_dbg (s : State) (e : Raised) : (s.raiseOne e).dbg = s.dbg := by unfold State.raiseOne; split <;> simp only []
@[simp] theorem State.raiseOne_aonb (s : State) (e : Raised) : (s.raiseOne e).aonb = s.aonb := by unfold State.raiseOne; split <;> simp only []
@[simp] theorem State.raiseOne_mon (s : State) (e : Raised) : (s.raiseOne e).mon = s.mon := by unfold State.raiseOne; split <;> simp only []
@[simp] theorem State.raiseOne_rel (s : State) (e : Raised) : (s.raiseOne e).rel = s.rel := by unfold State.raiseOne; split <;> simp only []
@[simp] theorem State.raiseOne_ports (s : State) (e : Raised) : (s.raiseOne e).ports = s.ports := by unfold State.raiseOne; split <;> simp only []
@[simp] theorem State.raiseOne_pond (s : State) (e : Raised) : (s.raiseOne e).pond = s.pond := by unfold State.raiseOne; split <;> simp only []
@[simp] theorem State.raiseOne_fab (s : State) (e : Raised) : (s.raiseOne e).fab = s.fab := by unfold State.raiseOne; split <;> simp only []
@[simp] theorem State.raiseOne_store (s : State) (e : Raised) : (s.raiseOne e).store = s.store := by unfold State.raiseOne; split <;> simp only []
@[simp] theorem State.raiseOne_hop (s : State) (e : Raised) : (s.raiseOne e).hop = s.hop := by unfold State.raiseOne; split <;> simp only []
@[simp] theorem State.raiseOne_mil (s : State) (e : Raised) : (s.raiseOne e).mil = s.mil := by unfold State.raiseOne; split <;> simp only []
@[simp] theorem State.raiseOne_idn (s : State) (e : Raised) : (s.raiseOne e).idn = s.idn := by unfold State.raiseOne; split <;> simp only []
@[simp] theorem State.raiseOne_drbg (s : State) (e : Raised) : (s.raiseOne e).drbg = s.drbg := by unfold State.raiseOne; split <;> simp only []
@[simp] theorem State.raiseOne_spdm (s : State) (e : Raised) : (s.raiseOne e).spdm = s.spdm := by unfold State.raiseOne; split <;> simp only []
@[simp] theorem State.raiseOne_pke (s : State) (e : Raised) : (s.raiseOne e).pke = s.pke := by unfold State.raiseOne; split <;> simp only []
@[simp] theorem State.raiseOne_dge (s : State) (e : Raised) : (s.raiseOne e).dge = s.dge := by unfold State.raiseOne; split <;> simp only []
@[simp] theorem State.raiseOne_link (s : State) (e : Raised) : (s.raiseOne e).link = s.link := by unfold State.raiseOne; split <;> simp only []
@[simp] theorem State.raiseOne_fan (s : State) (e : Raised) : (s.raiseOne e).fan = s.fan := by unfold State.raiseOne; split <;> simp only []
@[simp] theorem State.raiseOne_mbx (s : State) (e : Raised) : (s.raiseOne e).mbx = s.mbx := by unfold State.raiseOne; split <;> simp only []
@[simp] theorem State.raiseOne_i3c (s : State) (e : Raised) : (s.raiseOne e).i3c = s.i3c := by unfold State.raiseOne; split <;> simp only []

@[simp] theorem State.raise_pending (s : State) (e : Raised) : (s.raise e).pending = s.pending := by unfold State.raise State.lossEvent; split <;> simp
@[simp] theorem State.raise_now (s : State) (e : Raised) : (s.raise e).now = s.now := by unfold State.raise State.lossEvent; split <;> simp
@[simp] theorem State.raise_fresh (s : State) (e : Raised) : (s.raise e).fresh = s.fresh := by unfold State.raise State.lossEvent; split <;> simp
@[simp] theorem State.raise_out (s : State) (e : Raised) : (s.raise e).out = s.out := by unfold State.raise State.lossEvent; split <;> simp
@[simp] theorem State.raise_sys (s : State) (e : Raised) : (s.raise e).sys = s.sys := by unfold State.raise State.lossEvent; split <;> simp
@[simp] theorem State.raise_gov (s : State) (e : Raised) : (s.raise e).gov = s.gov := by unfold State.raise State.lossEvent; split <;> simp
@[simp] theorem State.raise_otp (s : State) (e : Raised) : (s.raise e).otp = s.otp := by unfold State.raise State.lossEvent; split <;> simp
@[simp] theorem State.raise_life (s : State) (e : Raised) : (s.raise e).life = s.life := by unfold State.raise State.lossEvent; split <;> simp
@[simp] theorem State.raise_dbg (s : State) (e : Raised) : (s.raise e).dbg = s.dbg := by unfold State.raise State.lossEvent; split <;> simp
@[simp] theorem State.raise_aonb (s : State) (e : Raised) : (s.raise e).aonb = s.aonb := by unfold State.raise State.lossEvent; split <;> simp
@[simp] theorem State.raise_mon (s : State) (e : Raised) : (s.raise e).mon = s.mon := by unfold State.raise State.lossEvent; split <;> simp
@[simp] theorem State.raise_rel (s : State) (e : Raised) : (s.raise e).rel = s.rel := by unfold State.raise State.lossEvent; split <;> simp
@[simp] theorem State.raise_ports (s : State) (e : Raised) : (s.raise e).ports = s.ports := by unfold State.raise State.lossEvent; split <;> simp
@[simp] theorem State.raise_pond (s : State) (e : Raised) : (s.raise e).pond = s.pond := by unfold State.raise State.lossEvent; split <;> simp
@[simp] theorem State.raise_fab (s : State) (e : Raised) : (s.raise e).fab = s.fab := by unfold State.raise State.lossEvent; split <;> simp
@[simp] theorem State.raise_store (s : State) (e : Raised) : (s.raise e).store = s.store := by unfold State.raise State.lossEvent; split <;> simp
@[simp] theorem State.raise_hop (s : State) (e : Raised) : (s.raise e).hop = s.hop := by unfold State.raise State.lossEvent; split <;> simp
@[simp] theorem State.raise_mil (s : State) (e : Raised) : (s.raise e).mil = s.mil := by unfold State.raise State.lossEvent; split <;> simp
@[simp] theorem State.raise_idn (s : State) (e : Raised) : (s.raise e).idn = s.idn := by unfold State.raise State.lossEvent; split <;> simp
@[simp] theorem State.raise_drbg (s : State) (e : Raised) : (s.raise e).drbg = s.drbg := by unfold State.raise State.lossEvent; split <;> simp
@[simp] theorem State.raise_spdm (s : State) (e : Raised) : (s.raise e).spdm = s.spdm := by unfold State.raise State.lossEvent; split <;> simp
@[simp] theorem State.raise_pke (s : State) (e : Raised) : (s.raise e).pke = s.pke := by unfold State.raise State.lossEvent; split <;> simp
@[simp] theorem State.raise_dge (s : State) (e : Raised) : (s.raise e).dge = s.dge := by unfold State.raise State.lossEvent; split <;> simp
@[simp] theorem State.raise_link (s : State) (e : Raised) : (s.raise e).link = s.link := by unfold State.raise State.lossEvent; split <;> simp
@[simp] theorem State.raise_fan (s : State) (e : Raised) : (s.raise e).fan = s.fan := by unfold State.raise State.lossEvent; split <;> simp
@[simp] theorem State.raise_mbx (s : State) (e : Raised) : (s.raise e).mbx = s.mbx := by unfold State.raise State.lossEvent; split <;> simp
@[simp] theorem State.raise_i3c (s : State) (e : Raised) : (s.raise e).i3c = s.i3c := by unfold State.raise State.lossEvent; split <;> simp

@[simp] theorem State.event_pending (s : State) (n : Nat) (d : List Byte) : (s.event n d).pending = s.pending := by simp [State.event]
@[simp] theorem State.event_now (s : State) (n : Nat) (d : List Byte) : (s.event n d).now = s.now := by simp [State.event]
@[simp] theorem State.event_fresh (s : State) (n : Nat) (d : List Byte) : (s.event n d).fresh = s.fresh := by simp [State.event]
@[simp] theorem State.event_out (s : State) (n : Nat) (d : List Byte) : (s.event n d).out = s.out := by simp [State.event]
@[simp] theorem State.event_sys (s : State) (n : Nat) (d : List Byte) : (s.event n d).sys = s.sys := by simp [State.event]
@[simp] theorem State.event_gov (s : State) (n : Nat) (d : List Byte) : (s.event n d).gov = s.gov := by simp [State.event]
@[simp] theorem State.event_otp (s : State) (n : Nat) (d : List Byte) : (s.event n d).otp = s.otp := by simp [State.event]
@[simp] theorem State.event_life (s : State) (n : Nat) (d : List Byte) : (s.event n d).life = s.life := by simp [State.event]
@[simp] theorem State.event_dbg (s : State) (n : Nat) (d : List Byte) : (s.event n d).dbg = s.dbg := by simp [State.event]
@[simp] theorem State.event_aonb (s : State) (n : Nat) (d : List Byte) : (s.event n d).aonb = s.aonb := by simp [State.event]
@[simp] theorem State.event_mon (s : State) (n : Nat) (d : List Byte) : (s.event n d).mon = s.mon := by simp [State.event]
@[simp] theorem State.event_rel (s : State) (n : Nat) (d : List Byte) : (s.event n d).rel = s.rel := by simp [State.event]
@[simp] theorem State.event_ports (s : State) (n : Nat) (d : List Byte) : (s.event n d).ports = s.ports := by simp [State.event]
@[simp] theorem State.event_pond (s : State) (n : Nat) (d : List Byte) : (s.event n d).pond = s.pond := by simp [State.event]
@[simp] theorem State.event_fab (s : State) (n : Nat) (d : List Byte) : (s.event n d).fab = s.fab := by simp [State.event]
@[simp] theorem State.event_store (s : State) (n : Nat) (d : List Byte) : (s.event n d).store = s.store := by simp [State.event]
@[simp] theorem State.event_hop (s : State) (n : Nat) (d : List Byte) : (s.event n d).hop = s.hop := by simp [State.event]
@[simp] theorem State.event_mil (s : State) (n : Nat) (d : List Byte) : (s.event n d).mil = s.mil := by simp [State.event]
@[simp] theorem State.event_idn (s : State) (n : Nat) (d : List Byte) : (s.event n d).idn = s.idn := by simp [State.event]
@[simp] theorem State.event_drbg (s : State) (n : Nat) (d : List Byte) : (s.event n d).drbg = s.drbg := by simp [State.event]
@[simp] theorem State.event_spdm (s : State) (n : Nat) (d : List Byte) : (s.event n d).spdm = s.spdm := by simp [State.event]
@[simp] theorem State.event_pke (s : State) (n : Nat) (d : List Byte) : (s.event n d).pke = s.pke := by simp [State.event]
@[simp] theorem State.event_dge (s : State) (n : Nat) (d : List Byte) : (s.event n d).dge = s.dge := by simp [State.event]
@[simp] theorem State.event_link (s : State) (n : Nat) (d : List Byte) : (s.event n d).link = s.link := by simp [State.event]
@[simp] theorem State.event_fan (s : State) (n : Nat) (d : List Byte) : (s.event n d).fan = s.fan := by simp [State.event]
@[simp] theorem State.event_mbx (s : State) (n : Nat) (d : List Byte) : (s.event n d).mbx = s.mbx := by simp [State.event]
@[simp] theorem State.event_i3c (s : State) (n : Nat) (d : List Byte) : (s.event n d).i3c = s.i3c := by simp [State.event]

@[simp] theorem State.wakeUp_pending (s : State) : s.wakeUp.pending = s.pending := by unfold State.wakeUp; split <;> rfl
@[simp] theorem State.wakeUp_now (s : State) : s.wakeUp.now = s.now := by unfold State.wakeUp; split <;> rfl
@[simp] theorem State.wakeUp_fresh (s : State) : s.wakeUp.fresh = s.fresh := by unfold State.wakeUp; split <;> rfl
@[simp] theorem State.wakeUp_out (s : State) : s.wakeUp.out = s.out := by unfold State.wakeUp; split <;> rfl
@[simp] theorem State.wakeUp_sys (s : State) : s.wakeUp.sys = s.sys := by unfold State.wakeUp; split <;> rfl
@[simp] theorem State.wakeUp_otp (s : State) : s.wakeUp.otp = s.otp := by unfold State.wakeUp; split <;> rfl
@[simp] theorem State.wakeUp_life (s : State) : s.wakeUp.life = s.life := by unfold State.wakeUp; split <;> rfl
@[simp] theorem State.wakeUp_dbg (s : State) : s.wakeUp.dbg = s.dbg := by unfold State.wakeUp; split <;> rfl
@[simp] theorem State.wakeUp_aonb (s : State) : s.wakeUp.aonb = s.aonb := by unfold State.wakeUp; split <;> rfl
@[simp] theorem State.wakeUp_mon (s : State) : s.wakeUp.mon = s.mon := by unfold State.wakeUp; split <;> rfl
@[simp] theorem State.wakeUp_evt (s : State) : s.wakeUp.evt = s.evt := by unfold State.wakeUp; split <;> rfl
@[simp] theorem State.wakeUp_log (s : State) : s.wakeUp.log = s.log := by unfold State.wakeUp; split <;> rfl
@[simp] theorem State.wakeUp_rel (s : State) : s.wakeUp.rel = s.rel := by unfold State.wakeUp; split <;> rfl
@[simp] theorem State.wakeUp_ports (s : State) : s.wakeUp.ports = s.ports := by unfold State.wakeUp; split <;> rfl
@[simp] theorem State.wakeUp_pond (s : State) : s.wakeUp.pond = s.pond := by unfold State.wakeUp; split <;> rfl
@[simp] theorem State.wakeUp_fab (s : State) : s.wakeUp.fab = s.fab := by unfold State.wakeUp; split <;> rfl
@[simp] theorem State.wakeUp_store (s : State) : s.wakeUp.store = s.store := by unfold State.wakeUp; split <;> rfl
@[simp] theorem State.wakeUp_hop (s : State) : s.wakeUp.hop = s.hop := by unfold State.wakeUp; split <;> rfl
@[simp] theorem State.wakeUp_idn (s : State) : s.wakeUp.idn = s.idn := by unfold State.wakeUp; split <;> rfl
@[simp] theorem State.wakeUp_drbg (s : State) : s.wakeUp.drbg = s.drbg := by unfold State.wakeUp; split <;> rfl
@[simp] theorem State.wakeUp_spdm (s : State) : s.wakeUp.spdm = s.spdm := by unfold State.wakeUp; split <;> rfl
@[simp] theorem State.wakeUp_pke (s : State) : s.wakeUp.pke = s.pke := by unfold State.wakeUp; split <;> rfl
@[simp] theorem State.wakeUp_dge (s : State) : s.wakeUp.dge = s.dge := by unfold State.wakeUp; split <;> rfl
@[simp] theorem State.wakeUp_link (s : State) : s.wakeUp.link = s.link := by unfold State.wakeUp; split <;> rfl
@[simp] theorem State.wakeUp_fan (s : State) : s.wakeUp.fan = s.fan := by unfold State.wakeUp; split <;> rfl
@[simp] theorem State.wakeUp_mbx (s : State) : s.wakeUp.mbx = s.mbx := by unfold State.wakeUp; split <;> rfl
@[simp] theorem State.wakeUp_i3c (s : State) : s.wakeUp.i3c = s.i3c := by unfold State.wakeUp; split <;> rfl

@[simp] theorem State.stir_pending (s : State) : s.stir.pending = s.pending := by unfold State.stir; split <;> simp
@[simp] theorem State.stir_now (s : State) : s.stir.now = s.now := by unfold State.stir; split <;> simp
@[simp] theorem State.stir_fresh (s : State) : s.stir.fresh = s.fresh := by unfold State.stir; split <;> simp
@[simp] theorem State.stir_out (s : State) : s.stir.out = s.out := by unfold State.stir; split <;> simp
@[simp] theorem State.stir_sys (s : State) : s.stir.sys = s.sys := by unfold State.stir; split <;> simp
@[simp] theorem State.stir_otp (s : State) : s.stir.otp = s.otp := by unfold State.stir; split <;> simp
@[simp] theorem State.stir_life (s : State) : s.stir.life = s.life := by unfold State.stir; split <;> simp
@[simp] theorem State.stir_dbg (s : State) : s.stir.dbg = s.dbg := by unfold State.stir; split <;> simp
@[simp] theorem State.stir_aonb (s : State) : s.stir.aonb = s.aonb := by unfold State.stir; split <;> simp
@[simp] theorem State.stir_mon (s : State) : s.stir.mon = s.mon := by unfold State.stir; split <;> simp
@[simp] theorem State.stir_evt (s : State) : s.stir.evt = s.evt := by unfold State.stir; split <;> simp
@[simp] theorem State.stir_log (s : State) : s.stir.log = s.log := by unfold State.stir; split <;> simp
@[simp] theorem State.stir_rel (s : State) : s.stir.rel = s.rel := by unfold State.stir; split <;> simp
@[simp] theorem State.stir_ports (s : State) : s.stir.ports = s.ports := by unfold State.stir; split <;> simp
@[simp] theorem State.stir_pond (s : State) : s.stir.pond = s.pond := by unfold State.stir; split <;> simp
@[simp] theorem State.stir_fab (s : State) : s.stir.fab = s.fab := by unfold State.stir; split <;> simp
@[simp] theorem State.stir_store (s : State) : s.stir.store = s.store := by unfold State.stir; split <;> simp
@[simp] theorem State.stir_hop (s : State) : s.stir.hop = s.hop := by unfold State.stir; split <;> simp
@[simp] theorem State.stir_idn (s : State) : s.stir.idn = s.idn := by unfold State.stir; split <;> simp
@[simp] theorem State.stir_drbg (s : State) : s.stir.drbg = s.drbg := by unfold State.stir; split <;> simp
@[simp] theorem State.stir_spdm (s : State) : s.stir.spdm = s.spdm := by unfold State.stir; split <;> simp
@[simp] theorem State.stir_pke (s : State) : s.stir.pke = s.pke := by unfold State.stir; split <;> simp
@[simp] theorem State.stir_dge (s : State) : s.stir.dge = s.dge := by unfold State.stir; split <;> simp
@[simp] theorem State.stir_link (s : State) : s.stir.link = s.link := by unfold State.stir; split <;> simp
@[simp] theorem State.stir_fan (s : State) : s.stir.fan = s.fan := by unfold State.stir; split <;> simp
@[simp] theorem State.stir_mbx (s : State) : s.stir.mbx = s.mbx := by unfold State.stir; split <;> simp
@[simp] theorem State.stir_i3c (s : State) : s.stir.i3c = s.i3c := by unfold State.stir; split <;> simp

@[simp] theorem State.portEvent_pending (s : State) (p : PortId) (n : Nat) (d : List Byte) (c : Bool) : (s.portEvent p n d c).pending = s.pending := by unfold State.portEvent; simp only []; split <;> simp
@[simp] theorem State.portEvent_now (s : State) (p : PortId) (n : Nat) (d : List Byte) (c : Bool) : (s.portEvent p n d c).now = s.now := by unfold State.portEvent; simp only []; split <;> simp
@[simp] theorem State.portEvent_fresh (s : State) (p : PortId) (n : Nat) (d : List Byte) (c : Bool) : (s.portEvent p n d c).fresh = s.fresh := by unfold State.portEvent; simp only []; split <;> simp
@[simp] theorem State.portEvent_out (s : State) (p : PortId) (n : Nat) (d : List Byte) (c : Bool) : (s.portEvent p n d c).out = s.out := by unfold State.portEvent; simp only []; split <;> simp
@[simp] theorem State.portEvent_sys (s : State) (p : PortId) (n : Nat) (d : List Byte) (c : Bool) : (s.portEvent p n d c).sys = s.sys := by unfold State.portEvent; simp only []; split <;> simp
@[simp] theorem State.portEvent_otp (s : State) (p : PortId) (n : Nat) (d : List Byte) (c : Bool) : (s.portEvent p n d c).otp = s.otp := by unfold State.portEvent; simp only []; split <;> simp
@[simp] theorem State.portEvent_life (s : State) (p : PortId) (n : Nat) (d : List Byte) (c : Bool) : (s.portEvent p n d c).life = s.life := by unfold State.portEvent; simp only []; split <;> simp
@[simp] theorem State.portEvent_dbg (s : State) (p : PortId) (n : Nat) (d : List Byte) (c : Bool) : (s.portEvent p n d c).dbg = s.dbg := by unfold State.portEvent; simp only []; split <;> simp
@[simp] theorem State.portEvent_aonb (s : State) (p : PortId) (n : Nat) (d : List Byte) (c : Bool) : (s.portEvent p n d c).aonb = s.aonb := by unfold State.portEvent; simp only []; split <;> simp
@[simp] theorem State.portEvent_mon (s : State) (p : PortId) (n : Nat) (d : List Byte) (c : Bool) : (s.portEvent p n d c).mon = s.mon := by unfold State.portEvent; simp only []; split <;> simp
@[simp] theorem State.portEvent_rel (s : State) (p : PortId) (n : Nat) (d : List Byte) (c : Bool) : (s.portEvent p n d c).rel = s.rel := by unfold State.portEvent; simp only []; split <;> simp
@[simp] theorem State.portEvent_ports (s : State) (p : PortId) (n : Nat) (d : List Byte) (c : Bool) : (s.portEvent p n d c).ports = s.ports := by unfold State.portEvent; simp only []; split <;> simp
@[simp] theorem State.portEvent_pond (s : State) (p : PortId) (n : Nat) (d : List Byte) (c : Bool) : (s.portEvent p n d c).pond = s.pond := by unfold State.portEvent; simp only []; split <;> simp
@[simp] theorem State.portEvent_fab (s : State) (p : PortId) (n : Nat) (d : List Byte) (c : Bool) : (s.portEvent p n d c).fab = s.fab := by unfold State.portEvent; simp only []; split <;> simp
@[simp] theorem State.portEvent_store (s : State) (p : PortId) (n : Nat) (d : List Byte) (c : Bool) : (s.portEvent p n d c).store = s.store := by unfold State.portEvent; simp only []; split <;> simp
@[simp] theorem State.portEvent_hop (s : State) (p : PortId) (n : Nat) (d : List Byte) (c : Bool) : (s.portEvent p n d c).hop = s.hop := by unfold State.portEvent; simp only []; split <;> simp
@[simp] theorem State.portEvent_idn (s : State) (p : PortId) (n : Nat) (d : List Byte) (c : Bool) : (s.portEvent p n d c).idn = s.idn := by unfold State.portEvent; simp only []; split <;> simp
@[simp] theorem State.portEvent_drbg (s : State) (p : PortId) (n : Nat) (d : List Byte) (c : Bool) : (s.portEvent p n d c).drbg = s.drbg := by unfold State.portEvent; simp only []; split <;> simp
@[simp] theorem State.portEvent_spdm (s : State) (p : PortId) (n : Nat) (d : List Byte) (c : Bool) : (s.portEvent p n d c).spdm = s.spdm := by unfold State.portEvent; simp only []; split <;> simp
@[simp] theorem State.portEvent_pke (s : State) (p : PortId) (n : Nat) (d : List Byte) (c : Bool) : (s.portEvent p n d c).pke = s.pke := by unfold State.portEvent; simp only []; split <;> simp
@[simp] theorem State.portEvent_dge (s : State) (p : PortId) (n : Nat) (d : List Byte) (c : Bool) : (s.portEvent p n d c).dge = s.dge := by unfold State.portEvent; simp only []; split <;> simp
@[simp] theorem State.portEvent_link (s : State) (p : PortId) (n : Nat) (d : List Byte) (c : Bool) : (s.portEvent p n d c).link = s.link := by unfold State.portEvent; simp only []; split <;> simp
@[simp] theorem State.portEvent_fan (s : State) (p : PortId) (n : Nat) (d : List Byte) (c : Bool) : (s.portEvent p n d c).fan = s.fan := by unfold State.portEvent; simp only []; split <;> simp
@[simp] theorem State.portEvent_mbx (s : State) (p : PortId) (n : Nat) (d : List Byte) (c : Bool) : (s.portEvent p n d c).mbx = s.mbx := by unfold State.portEvent; simp only []; split <;> simp
@[simp] theorem State.portEvent_i3c (s : State) (p : PortId) (n : Nat) (d : List Byte) (c : Bool) : (s.portEvent p n d c).i3c = s.i3c := by unfold State.portEvent; simp only []; split <;> simp

@[simp] theorem State.finishCmd_pending (s : State) (m : MbxId) (a : Response) : (s.finishCmd m a).pending = s.pending := by simp [State.finishCmd]
@[simp] theorem State.finishCmd_now (s : State) (m : MbxId) (a : Response) : (s.finishCmd m a).now = s.now := by simp [State.finishCmd]
@[simp] theorem State.finishCmd_fresh (s : State) (m : MbxId) (a : Response) : (s.finishCmd m a).fresh = s.fresh := by simp [State.finishCmd]
@[simp] theorem State.finishCmd_out (s : State) (m : MbxId) (a : Response) : (s.finishCmd m a).out = s.out := by simp [State.finishCmd]
@[simp] theorem State.finishCmd_sys (s : State) (m : MbxId) (a : Response) : (s.finishCmd m a).sys = s.sys := by simp [State.finishCmd]
@[simp] theorem State.finishCmd_gov (s : State) (m : MbxId) (a : Response) : (s.finishCmd m a).gov = s.gov := by simp [State.finishCmd]
@[simp] theorem State.finishCmd_otp (s : State) (m : MbxId) (a : Response) : (s.finishCmd m a).otp = s.otp := by simp [State.finishCmd]
@[simp] theorem State.finishCmd_life (s : State) (m : MbxId) (a : Response) : (s.finishCmd m a).life = s.life := by simp [State.finishCmd]
@[simp] theorem State.finishCmd_dbg (s : State) (m : MbxId) (a : Response) : (s.finishCmd m a).dbg = s.dbg := by simp [State.finishCmd]
@[simp] theorem State.finishCmd_aonb (s : State) (m : MbxId) (a : Response) : (s.finishCmd m a).aonb = s.aonb := by simp [State.finishCmd]
@[simp] theorem State.finishCmd_mon (s : State) (m : MbxId) (a : Response) : (s.finishCmd m a).mon = s.mon := by simp [State.finishCmd]
@[simp] theorem State.finishCmd_evt (s : State) (m : MbxId) (a : Response) : (s.finishCmd m a).evt = s.evt := by simp [State.finishCmd]
@[simp] theorem State.finishCmd_log (s : State) (m : MbxId) (a : Response) : (s.finishCmd m a).log = s.log := by simp [State.finishCmd]
@[simp] theorem State.finishCmd_rel (s : State) (m : MbxId) (a : Response) : (s.finishCmd m a).rel = s.rel := by simp [State.finishCmd]
@[simp] theorem State.finishCmd_ports (s : State) (m : MbxId) (a : Response) : (s.finishCmd m a).ports = s.ports := by simp [State.finishCmd]
@[simp] theorem State.finishCmd_pond (s : State) (m : MbxId) (a : Response) : (s.finishCmd m a).pond = s.pond := by simp [State.finishCmd]
@[simp] theorem State.finishCmd_fab (s : State) (m : MbxId) (a : Response) : (s.finishCmd m a).fab = s.fab := by simp [State.finishCmd]
@[simp] theorem State.finishCmd_store (s : State) (m : MbxId) (a : Response) : (s.finishCmd m a).store = s.store := by simp [State.finishCmd]
@[simp] theorem State.finishCmd_hop (s : State) (m : MbxId) (a : Response) : (s.finishCmd m a).hop = s.hop := by simp [State.finishCmd]
@[simp] theorem State.finishCmd_mil (s : State) (m : MbxId) (a : Response) : (s.finishCmd m a).mil = s.mil := by simp [State.finishCmd]
@[simp] theorem State.finishCmd_idn (s : State) (m : MbxId) (a : Response) : (s.finishCmd m a).idn = s.idn := by simp [State.finishCmd]
@[simp] theorem State.finishCmd_drbg (s : State) (m : MbxId) (a : Response) : (s.finishCmd m a).drbg = s.drbg := by simp [State.finishCmd]
@[simp] theorem State.finishCmd_spdm (s : State) (m : MbxId) (a : Response) : (s.finishCmd m a).spdm = s.spdm := by simp [State.finishCmd]
@[simp] theorem State.finishCmd_pke (s : State) (m : MbxId) (a : Response) : (s.finishCmd m a).pke = s.pke := by simp [State.finishCmd]
@[simp] theorem State.finishCmd_dge (s : State) (m : MbxId) (a : Response) : (s.finishCmd m a).dge = s.dge := by simp [State.finishCmd]
@[simp] theorem State.finishCmd_link (s : State) (m : MbxId) (a : Response) : (s.finishCmd m a).link = s.link := by simp [State.finishCmd]
@[simp] theorem State.finishCmd_fan (s : State) (m : MbxId) (a : Response) : (s.finishCmd m a).fan = s.fan := by simp [State.finishCmd]
@[simp] theorem State.finishCmd_i3c (s : State) (m : MbxId) (a : Response) : (s.finishCmd m a).i3c = s.i3c := by simp [State.finishCmd]

end Sys2Proof.Machine
end

