-- ==== Sys2Proof/Laws/Ops.lean ====
section
/-! SUPPORT. What the shared operations do, said once: byte memories, ports, link ports, mailboxes, the mailbox command frame, brakes. -/

namespace Sys2Proof.Machine

open Sys2Proof

/-! ### Byte memories -/

@[simp] theorem memWf_nil : memWf [] = true := rfl

theorem memWfFrom_mono {lo hi : Nat} (h : lo ≤ hi) (m : Memory) (w : memWfFrom hi m = true) : memWfFrom lo m = true := by
  cases m with
  | nil => rfl
  | cons c m =>
    obtain ⟨a, b⟩ := c
    simp only [memWfFrom, Bool.and_eq_true, decide_eq_true_eq] at w ⊢
    exact ⟨⟨by omega, w.1.2⟩, w.2⟩

theorem memWrite_wfFrom (m : Memory) (n : Nat) (v : Byte) :
    ∀ lo, lo ≤ n → memWfFrom lo m = true → memWfFrom lo (memWrite m n v) = true := by
  induction m with
  | nil =>
    intro lo hn _
    simp only [memWrite]
    split
    · rfl
    · simp_all [memWfFrom]
  | cons c m ih =>
    obtain ⟨a, b⟩ := c
    intro lo hn w
    simp only [memWfFrom, Bool.and_eq_true, decide_eq_true_eq] at w
    obtain ⟨⟨hla, hb⟩, hm⟩ := w
    simp only [memWrite]
    split
    · split
      · simp_all [memWfFrom]
      · simp only [memWfFrom, Bool.and_eq_true, decide_eq_true_eq]
        exact ⟨⟨hn, ‹_›⟩, ⟨by omega, hb⟩, hm⟩
    · split
      · rename_i h
        subst h
        split
        · exact memWfFrom_mono (by omega) _ hm
        · simp_all [memWfFrom]
      · simp only [memWfFrom, Bool.and_eq_true, decide_eq_true_eq]
        exact ⟨⟨hla, hb⟩, ih _ (by omega) hm⟩

/-- Writing a byte keeps the canonical form. -/
theorem memWrite_wf (m : Memory) (n : Nat) (v : Byte) (w : memWf m = true) : memWf (memWrite m n v) = true :=
  memWrite_wfFrom m n v 0 (Nat.zero_le _) w

/-- Writing bytes keeps the canonical form. -/
theorem memWrites_wf (bs : List Byte) : ∀ (m : Memory) (n : Nat), memWf m = true → memWf (memWrites m n bs) = true := by
  induction bs with
  | nil => intro m n w; exact w
  | cons b bs ih => intro m n w; exact ih _ _ (memWrite_wf m n b w)

/-- Writing a word keeps the canonical form. -/
theorem memSetWord_wf (m : Memory) (a : Nat) (v : Word) (w : memWf m = true) : memWf (memSetWord m a v) = true :=
  memWrites_wf _ _ _ w

theorem memRead_of_lt (m : Memory) : ∀ lo n, memWfFrom lo m = true → n < lo → memRead m n = 0 := by
  induction m with
  | nil => intros; rfl
  | cons c m ih =>
    obtain ⟨a, b⟩ := c
    intro lo n w h
    simp only [memWfFrom, Bool.and_eq_true, decide_eq_true_eq] at w
    simp only [memRead]
    rw [if_neg (by omega)]
    exact ih (a + 1) n w.2 (by omega)

theorem memRead_memWrite_from (m : Memory) (n k : Nat) (v : Byte) :
    ∀ lo, memWfFrom lo m = true → memRead (memWrite m n v) k = if k = n then v else memRead m k := by
  induction m with
  | nil =>
    intro lo _
    rw [memWrite]
    by_cases hv : v = 0
    · rw [if_pos hv, hv]; split <;> rfl
    · rw [if_neg hv]
      simp only [memRead]
      by_cases h : k = n
      · rw [if_pos h, if_pos h.symm]
      · rw [if_neg h, if_neg (Ne.symm h)]
  | cons c m ih =>
    obtain ⟨a, b⟩ := c
    intro lo w
    simp only [memWfFrom, Bool.and_eq_true, decide_eq_true_eq] at w
    have ih' := ih (a + 1) w.2
    have low := memRead_of_lt m (a + 1)
    simp only [memWrite]
    split
    · split
      · by_cases h : k = n
        · subst h
          rw [if_pos rfl, memRead, if_neg (by omega), low k w.2 (by omega)]
          exact (Eq.symm ‹_›)
        · simp [h]
      · by_cases h : k = n
        · simp [memRead, h]
        · simp [memRead, h, Ne.symm h]
    · split
      · rename_i h1 h2
        subst h2
        split
        · by_cases h : k = n
          · subst h; simp_all
          · simp [memRead, h, Ne.symm h]
        · by_cases h : k = n
          · simp [memRead, h]
          · simp [memRead, h, Ne.symm h]
      · rename_i h1 h2
        simp only [memRead, ih']
        by_cases h : k = n
        · subst h; rw [if_neg (by omega), if_pos rfl, if_pos rfl]
        · simp [h]

/-- A read after a write to the same address gives the value written. -/
theorem memRead_memWrite_same (m : Memory) (n : Nat) (v : Byte) (w : memWf m = true) : memRead (memWrite m n v) n = v := by
  rw [memRead_memWrite_from m n n v 0 w, if_pos rfl]

/-- A write leaves every other address alone. -/
theorem memRead_memWrite_other (m : Memory) (n k : Nat) (v : Byte) (w : memWf m = true) (h : k ≠ n) :
    memRead (memWrite m n v) k = memRead m k := by
  rw [memRead_memWrite_from m n k v 0 w, if_neg h]

/-- Writing bytes leaves every address outside them alone. -/
theorem memRead_memWrites_outside (bs : List Byte) : ∀ (m : Memory) (n k : Nat), memWf m = true → (k < n ∨ n + bs.length ≤ k) →
    memRead (memWrites m n bs) k = memRead m k := by
  induction bs with
  | nil => intros; rfl
  | cons b bs ih =>
    intro m n k w h
    simp only [List.length_cons] at h
    rw [memWrites, ih _ _ _ (memWrite_wf m n b w) (by omega), memRead_memWrite_other m n k b w (by omega)]

/-- Bytes written read back. -/
theorem memRead_memWrites_inside (bs : List Byte) : ∀ (m : Memory) (n i : Nat), memWf m = true → i < bs.length →
    memRead (memWrites m n bs) (n + i) = bs.getD i 0 := by
  induction bs with
  | nil => intro m n i w h; simp at h
  | cons b bs ih =>
    intro m n i w h
    rw [memWrites]
    cases i with
    | zero =>
      rw [memRead_memWrites_outside bs _ _ _ (memWrite_wf m n b w) (by omega)]
      simpa using memRead_memWrite_same m n b w
    | succ i =>
      have := ih (memWrite m n b) (n + 1) i (memWrite_wf m n b w) (by simpa using h)
      rw [show n + (i + 1) = n + 1 + i by omega, this]
      simp

/-! ### Ports, link ports and mailboxes -/

@[simp] theorem State.setPort_port_same (s : State) (p : PortId) (x : Port) : (s.setPort p x).port p = x := by
  simp [State.port, State.setPort]

@[simp] theorem State.setPort_port_other (s : State) (p q : PortId) (x : Port) (h : q ≠ p) : (s.setPort p x).port q = s.port q := by
  have h' : p.val ≠ q.val := fun e => h (Fin.ext e.symm)
  simp [State.port, State.setPort, h']

@[simp] theorem State.modPort_port_same (s : State) (p : PortId) (f : Port → Port) : (s.modPort p f).port p = f (s.port p) := by
  simp [State.modPort]

@[simp] theorem State.modPort_port_other (s : State) (p q : PortId) (f : Port → Port) (h : q ≠ p) :
    (s.modPort p f).port q = s.port q := by
  simp [State.modPort, h]

@[simp] theorem State.mapPorts_port (s : State) (f : PortId → Port → Port) (p : PortId) : (s.mapPorts f).port p = f p (s.port p) := by
  simp [State.port, State.mapPorts]

@[simp] theorem State.raise_port (s : State) (e : Raised) (p : PortId) : (s.raise e).port p = s.port p := by simp [State.port]

@[simp] theorem State.event_port (s : State) (n : Nat) (d : List Byte) (p : PortId) : (s.event n d).port p = s.port p := by
  simp [State.port]

@[simp] theorem State.portEvent_port (s : State) (q : PortId) (n : Nat) (d : List Byte) (c : Bool) (p : PortId) :
    (s.portEvent q n d c).port p = s.port p := by
  simp [State.port]

@[simp] theorem State.setLport_lport_same (s : State) (l : LinkId) (x : LinkPort) : (s.setLport l x).lport l = x := by
  cases l <;> rfl

@[simp] theorem State.setLport_lport_other (s : State) (l k : LinkId) (x : LinkPort) (h : k ≠ l) :
    (s.setLport l x).lport k = s.lport k := by
  cases l <;> cases k <;> simp_all [State.setLport, State.lport]

@[simp] theorem State.setMbox_mbox_same (s : State) (m : MbxId) (x : Mailbox) : (s.setMbox m x).mbox m = x := by
  cases m <;> rfl

@[simp] theorem State.setMbox_mbox_other (s : State) (m k : MbxId) (x : Mailbox) (h : k ≠ m) :
    (s.setMbox m x).mbox k = s.mbox k := by
  cases m <;> cases k <;> simp_all [State.setMbox, State.mbox]

/-! ### Mailbox commands -/

/-- What a command's frame does while another command executes, or none: nothing. -/
theorem State.runCmd_other (s : State) (cmd : Nat) (f : State → MbxId → Request → State × Response)
    (h : ∀ m r, s.executing = some (m, r) → r.cmd ≠ cmd) : s.runCmd cmd f = s := by
  unfold State.runCmd
  split
  · rename_i m r e
    rw [if_neg (h m r e)]
  · rfl

/-- What a command's frame does while that command executes and none of its three events is raised. -/
theorem State.runCmd_quiet (s : State) (m : MbxId) (r : Request) (f : State → MbxId → Request → State × Response)
    (e : s.executing = some (m, r)) (h1 : (f s m r).2.status ≠ stOtpFail) (h2 : (f s m r).2.status ≠ stSettings)
    (h3 : (f s m r).2.status ≠ stAuthFail) : s.runCmd r.cmd f = (f s m r).1.finishCmd m (f s m r).2 (effectOf r.cmd ((f s m r).2.status == stOk) s (f s m r).1) := by
  simp [State.runCmd, e, h1, h2, h3]

/-- A failed settings write changes no mailbox. -/
@[simp] theorem State.writeFailed_mbx (s : State) (cmd : Nat) (body : List Byte) : (s.writeFailed cmd body).mbx = s.mbx := by
  simp only [State.writeFailed, State.spoilItem]
  split <;> simp <;> (repeat' split) <;> first | rfl | simp

/-- The command's own answer stands in its mailbox afterwards. -/
theorem State.runCmd_mbx (s : State) (m : MbxId) (r : Request) (f : State → MbxId → Request → State × Response)
    (e : s.executing = some (m, r)) : (s.runCmd r.cmd f).mbx = ((f s m r).1.finishCmd m (f s m r).2 (effectOf r.cmd ((f s m r).2.status == stOk) s (f s m r).1)).mbx := by
  simp only [State.runCmd, e]
  split
  · split
    · simp
    · split
      · simp
      · split <;> simp
  · contradiction

/-! ### Brakes -/

@[simp] theorem Port.retime_brake (x : Port) (n : Nat) : (x.retime n).brake = x.brake := rfl

@[simp] theorem Port.retime_state (x : Port) (n : Nat) : (x.retime n).state = x.state := rfl

@[simp] theorem Port.assertBrake_brake (x : Port) (n : Nat) : (x.assertBrake n).brake = true := rfl

@[simp] theorem Port.assertBrake_state (x : Port) (n : Nat) : (x.assertBrake n).state = x.state := rfl

@[simp] theorem Port.reset_brake (x : Port) (n : Nat) : (x.reset n).brake = true := rfl

@[simp] theorem Port.reset_state (x : Port) (n : Nat) : (x.reset n).state = .waiting := rfl

/-- Containment never turns a brake off. -/
theorem Port.contain_brake (x : Port) (n : Nat) (c : ContainCause) (h : x.brake = true) : (x.contain n c).brake = true := by
  unfold Port.contain
  split
  · rfl
  · split <;> exact h

/-! ### Numbered tables -/

@[simp] theorem tblGet_tblSet_same {α : Type} (t : List (Nat × α)) (n : Nat) (v : α) : tblGet (tblSet t n v) n = some v := by
  induction t with
  | nil => simp [tblSet, tblGet]
  | cons e t ih =>
    obtain ⟨k, u⟩ := e
    simp only [tblSet]
    split
    · simp [tblGet]
    · split
      · simp [tblGet]
      · rename_i h
        simp [tblGet, Ne.symm h, ih]

@[simp] theorem tblGet_tblSet_other {α : Type} (t : List (Nat × α)) (n m : Nat) (v : α) (h : m ≠ n) :
    tblGet (tblSet t n v) m = tblGet t m := by
  induction t with
  | nil => simp [tblSet, tblGet, Ne.symm h]
  | cons e t ih =>
    obtain ⟨k, u⟩ := e
    simp only [tblSet]
    split
    · simp [tblGet, Ne.symm h]
    · split
      · rename_i e'
        subst e'
        simp [tblGet, Ne.symm h]
      · simp only [tblGet, ih]

/-! ### Power -/

/-- Without power a row of the logic that VDD feeds leaves the state (17 R514, R528). -/
theorem State.powered_dark (s : State) (r : Result) (h : s.dark = true) : s.powered r = .next s := by simp [State.powered, h]

/-- With power such a row is its own effect. -/
theorem State.powered_lit (s : State) (r : Result) (h : s.dark = false) : s.powered r = r := by simp [State.powered, h]

/-- Such a row answers a next state wherever its effect does. -/
theorem State.powered_next (s t : State) : ∃ u, s.powered (.next t) = .next u ∧ (u = t ∨ s.dark = true ∧ u = s) := by
  cases h : s.dark
  · exact ⟨t, State.powered_lit s _ h, .inl rfl⟩
  · exact ⟨s, State.powered_dark s _ h, .inr ⟨rfl, rfl⟩⟩

/-! ### Events -/

/-- One event record changes the event logic and the black box alone (16 R497 to R502). -/
theorem State.raiseOne_frame (s : State) (e : Raised) : s.raiseOne e = { s with evt := (s.raiseOne e).evt, log := (s.raiseOne e).log } := by
  unfold State.raiseOne
  split <;> rfl

/-- An event changes the event logic and the black box alone (16 R497 to R502, R511). -/
theorem State.raise_frame (s : State) (e : Raised) : s.raise e = { s with evt := (s.raise e).evt, log := (s.raise e).log } := by
  unfold State.raise State.lossEvent
  split
  · rw [State.raiseOne_frame (s.raiseOne e)]
    rw [State.raiseOne_frame s e]
  · exact State.raiseOne_frame s e

/-- No status bit is lost by an event. -/
theorem State.raiseOne_stat (s : State) (e : Raised) (i : Nat) (h : s.evt.stat.getLsbD i = true) : (s.raiseOne e).evt.stat.getLsbD i = true := by
  unfold State.raiseOne
  split
  · exact h
  · simp [h]

theorem State.raise_stat (s : State) (e : Raised) (i : Nat) (h : (s.raiseOne e).evt.stat.getLsbD i = true) :
    (s.raise e).evt.stat.getLsbD i = true := by
  unfold State.raise State.lossEvent
  split
  · exact State.raiseOne_stat _ _ _ h
  · exact h

/-- The event of an assigned source stands in its status register (16 R498). -/
theorem State.raise_own (s : State) (e : Raised) (v : Nat) (a : severity e.src = some v) (h : e.src < 1024) :
    (s.raise e).evt.stat.getLsbD e.src = true := by
  apply State.raise_stat
  have o : (oneHot e.src).getLsbD e.src = true := by simp only [oneHot, BitVec.getLsbD_ofNat, h, decide_true, Bool.true_and, Nat.testBit_two_pow_self]
  simp only [State.raiseOne, a, BitVec.getLsbD_or, o, Bool.or_true]

theorem State.event_own (s : State) (n : Nat) (d : List Byte) (v : Nat) (a : severity n = some v) (h : n < 1024) :
    (s.event n d).evt.stat.getLsbD n = true := State.raise_own s { src := n, data := d, act := fixedActions n } v a h

end Sys2Proof.Machine
end

