-- ==== Sys2Proof/WellFormed.lean ====
section
/-! DEFINITION. Which commands can arise: the bounds the spec gives the operands. A command outside them stands for no event of the hardware; every meaning is total all the same. -/

namespace Sys2Proof

/-- At most 4 whole address bytes, holding the address, a bus clock of at most 255 MHz, and data cycles where the transaction stays open in them (02 R38, R40, R30, R81). -/
def HostTxn.wf (t : HostTxn) : Bool :=
  decide (t.addrBytes ≤ 4) && decide (t.addr < 256 ^ t.addrBytes) && decide (t.clockMHz < 256) && (!t.stays || decide (0 < t.clocked))

/-- JEDEC ID of 3 bytes, an erase type's size a power of two of at most 32 bits (02 R50, R51). -/
def Sfdp.wf (x : Sfdp) : Bool :=
  decide (x.jedec.length = 3) && x.erases.all fun e => decide (e.log2 < 32)

/-- The operand bounds of every command. -/
def Instr.wf : Instr → Bool
  | .portArmBegin _ a b => a.wf && b.wf
  | .hostTransaction t => t.wf
  | .granuleFill _ d _ | .granuleRefillDone _ d _ _ => decide (d.length = 4096)
  | .scrubGranule d _ _ => decide (d.length = 4096)
  | .getCapabilities _ c => decide (c.version < 256) && decide (c.dataTransferSize < 2 ^ 32)
  | .challenge _ slot n => decide (slot < 8) && decide (n.length = 32)
  | .getMeasurements _ i _ n => decide (i < 256) && decide (n.length = 32)
  | .getCertificate _ slot o l => decide (slot < 8) && decide (o < 65536) && decide (l < 65536)
  | .keyExchange _ slot e => decide (slot < 8) && decide (e.length = 96)
  | .i3cPrivateWrite a ws => decide (a % 4 = 0) && decide (a < 2 ^ 24) && decide (0 < ws.length ∧ ws.length ≤ 64)
  | .i3cPrivateRead a n => decide (a % 4 = 0) && decide (a < 2 ^ 24) && decide (0 < n ∧ n ≤ 256)
  | .registerWrite _ a _ => decide (a % 4 = 0) && decide (a < 2 ^ 24)
  | .logWindowRead _ o n => decide (o % 4 = 0) && decide (0 < n ∧ n ≤ 64) && decide (o + 4 * n ≤ 16384)
  | .frameReceive _ h _ => decide (h < 4096)
  | .ackReceive _ a _ => decide (a < 4096)
  | .stoneBlockComplete _ ns => decide (0 < ns)
  | .hopperProgramComplete b => decide (b < 262144)
  | .pkeMillerRequest _ _ _ _ i => decide (i.length ≤ 16384)
  | .spdmUnsupportedRequest _ c => decide (128 ≤ c.toNat)
  | _ => true

end Sys2Proof
end

