-- ==== Sys2Proof/Laws/PerInstr.lean ====
section
/-! SUPPORT. The family WfInstance: the operand bounds of `Instr.wf` leave every command possible. -/

namespace Sys2Proof.Laws.WfInstance

open Sys2Proof

/-- A part of an erased kind, inside the bounds. -/
def wfPart : Sfdp :=
  { jedec := [0, 0, 0], capacity := 0, page := 0, progUs := 0, erases := [], chipEraseUs := 0, suspendOk := false, suspendUs := 0, addr3 := true,
    addr4 := false, extAddr := false, dummies := [], prog4 := [], four := [], fastOps := [], revision := 0, octalEnable := 0, sectors := [], sccrReads := [], sccrWrites := [], flagStatus := false, sr2 := none,
    octal := [], quad := [] }

/-- A transaction of an opcode alone, inside the bounds. -/
def wfTxn : HostTxn :=
  { port := 0, op := 6, ext := 0, addrBytes := 0, addr := 0, sent := [], partialByte := false, clocked := 0, clockMHz := 0, real := [], ecc := .ok, stays := false }

/-- Some well-formed command is of the same row of the table. -/
def Statement (i : Instr) : Prop := ∃ j : Instr, j.wf = true ∧ j.ctorIdx = i.ctorIdx

theorem fill_wf (p : PortId) (d : List Byte) (e : Ecc) (h : d.length = 4096) : (Instr.granuleFill p d e).wf = true := decide_eq_true h

theorem refill_wf (g : Fin 12288) (d : List Byte) (e : Ecc) (r : StoneRun) (h : d.length = 4096) : (Instr.granuleRefillDone g d e r).wf = true :=
  decide_eq_true h

theorem scrub_wf (d : List Byte) (e : Ecc) (r : TreeRead) (h : d.length = 4096) : (Instr.scrubGranule d e r).wf = true := decide_eq_true h

theorem powerOnReset : Statement (.powerOnReset) :=
  ⟨.powerOnReset, rfl, rfl⟩

theorem romStart (env : RomEnv) : Statement (.romStart env) :=
  ⟨.romStart ⟨true, [], [], true, 0⟩, rfl, rfl⟩

theorem deviceResetBegin (cause : DevCause) : Statement (.deviceResetBegin cause) :=
  ⟨.deviceResetBegin .alarm, rfl, rfl⟩

theorem millerRestartBegin (cause : RestartCause) (env : RomEnv) : Statement (.millerRestartBegin cause env) :=
  ⟨.millerRestartBegin .command ⟨true, [], [], true, 0⟩, rfl, rfl⟩

theorem millerWatchdogExpiry (env : RomEnv) : Statement (.millerWatchdogExpiry env) :=
  ⟨.millerWatchdogExpiry ⟨true, [], [], true, 0⟩, rfl, rfl⟩

theorem portResetBegin (p : PortId) : Statement (.portResetBegin p) :=
  ⟨.portResetBegin 0, rfl, rfl⟩

theorem millerStartArming : Statement (.millerStartArming) :=
  ⟨.millerStartArming, rfl, rfl⟩

theorem portArmBegin (p : PortId) (cs0 cs1 : Sfdp) : Statement (.portArmBegin p cs0 cs1) :=
  ⟨.portArmBegin 0 wfPart wfPart, by decide, rfl⟩

theorem mapVerifyDone (p : PortId) (engineFault : Bool) : Statement (.mapVerifyDone p engineFault) :=
  ⟨.mapVerifyDone 0 false, rfl, rfl⟩

theorem mapEngineRetry (p : PortId) : Statement (.mapEngineRetry p) :=
  ⟨.mapEngineRetry 0, rfl, rfl⟩

theorem sluiceCaptureRead (p : PortId) (data : List Byte) : Statement (.sluiceCaptureRead p data) :=
  ⟨.sluiceCaptureRead 0 [], rfl, rfl⟩

theorem granuleFill (p : PortId) (data : List Byte) (ecc : Ecc) : Statement (.granuleFill p data ecc) :=
  ⟨.granuleFill 0 (List.replicate 4096 0) .ok, fill_wf 0 _ .ok (List.length_replicate ..), rfl⟩

theorem leafTableLoad (p : PortId) (data : List Byte) : Statement (.leafTableLoad p data) :=
  ⟨.leafTableLoad 0 [], rfl, rfl⟩

theorem measurementRootCompare (p : PortId) : Statement (.measurementRootCompare p) :=
  ⟨.measurementRootCompare 0, rfl, rfl⟩

theorem brakeMinElapsed (p : PortId) : Statement (.brakeMinElapsed p) :=
  ⟨.brakeMinElapsed 0, rfl, rfl⟩

theorem settleElapsed (p : PortId) : Statement (.settleElapsed p) :=
  ⟨.settleElapsed 0, rfl, rfl⟩

theorem portRelease : Statement (.portRelease) :=
  ⟨.portRelease, rfl, rfl⟩

theorem hostResetSensed (p : PortId) : Statement (.hostResetSensed p) :=
  ⟨.hostResetSensed 0, rfl, rfl⟩

theorem hrdyQualified (p : PortId) : Statement (.hrdyQualified p) :=
  ⟨.hrdyQualified 0, rfl, rfl⟩

theorem hrdyDropped (p : PortId) : Statement (.hrdyDropped p) :=
  ⟨.hrdyDropped 0, rfl, rfl⟩

theorem hrdyTimeout (p : PortId) : Statement (.hrdyTimeout p) :=
  ⟨.hrdyTimeout 0, rfl, rfl⟩

theorem vioPgOutOfRange (g : VioOut) : Statement (.vioPgOutOfRange g) :=
  ⟨.vioPgOutOfRange ⟨0, false⟩, rfl, rfl⟩

theorem vioPgRestored (g : Fin 8) (back : VioBack) : Statement (.vioPgRestored g back) :=
  ⟨.vioPgRestored 0 ⟨false, true⟩, rfl, rfl⟩

theorem hostTransaction (t : HostTxn) : Statement (.hostTransaction t) :=
  ⟨.hostTransaction wfTxn, by decide, rfl⟩

theorem modeEntryWipExpiry (p : PortId) : Statement (.modeEntryWipExpiry p) :=
  ⟨.modeEntryWipExpiry 0, rfl, rfl⟩

theorem hrstPulse (p : PortId) (lowSamples : Nat) : Statement (.hrstPulse p lowSamples) :=
  ⟨.hrstPulse 0 0, rfl, rfl⟩

theorem virtualDeviceReset (p : PortId) : Statement (.virtualDeviceReset p) :=
  ⟨.virtualDeviceReset 0, rfl, rfl⟩

theorem virtualDeviceRecovery (p : PortId) : Statement (.virtualDeviceRecovery p) :=
  ⟨.virtualDeviceRecovery 0, rfl, rfl⟩

theorem heldCommandIssue (p : PortId) : Statement (.heldCommandIssue p) :=
  ⟨.heldCommandIssue 0, rfl, rfl⟩

theorem absorbWelClear (p : PortId) : Statement (.absorbWelClear p) :=
  ⟨.absorbWelClear 0, rfl, rfl⟩

theorem statusPoll (p : PortId) (partWip : Bool) : Statement (.statusPoll p partWip) :=
  ⟨.statusPoll 0 false, rfl, rfl⟩

theorem absorbEmulationExpiry (p : PortId) : Statement (.absorbEmulationExpiry p) :=
  ⟨.absorbEmulationExpiry 0, rfl, rfl⟩

theorem suspendIssue (p : PortId) : Statement (.suspendIssue p) :=
  ⟨.suspendIssue 0, rfl, rfl⟩

theorem suspendLatencyExpiry (p : PortId) : Statement (.suspendLatencyExpiry p) :=
  ⟨.suspendLatencyExpiry 0, rfl, rfl⟩

theorem heldResumeIssue (p : PortId) : Statement (.heldResumeIssue p) :=
  ⟨.heldResumeIssue 0, rfl, rfl⟩

theorem completionRead (p : PortId) (data : List Byte) : Statement (.completionRead p data) :=
  ⟨.completionRead 0 [], rfl, rfl⟩

theorem epochVerdict (p : PortId) (stone : StoneRun) : Statement (.epochVerdict p stone) :=
  ⟨.epochVerdict 0 ⟨0, none⟩, rfl, rfl⟩

theorem epochDeadline (p : PortId) : Statement (.epochDeadline p) :=
  ⟨.epochDeadline 0, rfl, rfl⟩

theorem verdictRereadDone (p : PortId) (katPass : Bool) (first second : List Byte) : Statement (.verdictRereadDone p katPass first second) :=
  ⟨.verdictRereadDone 0 false [] [], rfl, rfl⟩

theorem verdictClassify (p : PortId) (settingsOk retestPass : Bool) : Statement (.verdictClassify p settingsOk retestPass) :=
  ⟨.verdictClassify 0 false false, rfl, rfl⟩

theorem containmentEnd (p : PortId) : Statement (.containmentEnd p) :=
  ⟨.containmentEnd 0, rfl, rfl⟩

theorem scrubGranule (data : List Byte) (ecc : Ecc) (tree : TreeRead) : Statement (.scrubGranule data ecc tree) :=
  ⟨.scrubGranule (List.replicate 4096 0) .ok .ok, scrub_wf _ .ok .ok (List.length_replicate ..), rfl⟩

theorem granuleRefillDone (g : Fin 12288) (data : List Byte) (ecc : Ecc) (stone : StoneRun) : Statement (.granuleRefillDone g data ecc stone) :=
  ⟨.granuleRefillDone 0 (List.replicate 4096 0) .ok ⟨0, none⟩, refill_wf 0 _ .ok ⟨0, none⟩ (List.length_replicate ..), rfl⟩

theorem stoneBlockComplete (n : Fin 32) (meanNs : Nat) : Statement (.stoneBlockComplete n meanNs) :=
  ⟨.stoneBlockComplete 0 80, by decide, rfl⟩

theorem blockAgePromote : Statement (.blockAgePromote) :=
  ⟨.blockAgePromote, rfl, rfl⟩

theorem stoneTimeout (n : Fin 32) (retestPass : Bool) : Statement (.stoneTimeout n retestPass) :=
  ⟨.stoneTimeout 0 false, rfl, rfl⟩

theorem stoneKat (n : Fin 32) (pass retestPass : Bool) : Statement (.stoneKat n pass retestPass) :=
  ⟨.stoneKat 0 false false, rfl, rfl⟩

theorem standbyMeasurement (p : PortId) (slot : SlotId) (img : SlotProbe) : Statement (.standbyMeasurement p slot img) :=
  ⟨.standbyMeasurement 0 .a ⟨⟨[], []⟩, false, true⟩, rfl, rfl⟩

theorem substituteFillDone (p : PortId) (img : SlotImage) : Statement (.substituteFillDone p img) :=
  ⟨.substituteFillDone 0 ⟨[], []⟩, rfl, rfl⟩

theorem substTmoExpiry (p : PortId) : Statement (.substTmoExpiry p) :=
  ⟨.substTmoExpiry 0, rfl, rfl⟩

theorem repairAttempt (p : PortId) (slot : SlotId) (source : SlotImage) (readback : SlotProbe) (stone : Fin 32) : Statement (.repairAttempt p slot source readback stone) :=
  ⟨.repairAttempt 0 .a ⟨[], []⟩ ⟨⟨[], []⟩, false, true⟩ 0, rfl, rfl⟩

theorem hopperProgramComplete (block : Nat) : Statement (.hopperProgramComplete block) :=
  ⟨.hopperProgramComplete 0, rfl, rfl⟩

theorem getInfo : Statement (.getInfo) :=
  ⟨.getInfo, rfl, rfl⟩

theorem slotStatus : Statement (.slotStatus) :=
  ⟨.slotStatus, rfl, rfl⟩

theorem configRead : Statement (.configRead) :=
  ⟨.configRead, rfl, rfl⟩

theorem mapRead : Statement (.mapRead) :=
  ⟨.mapRead, rfl, rfl⟩

theorem fwStatus : Statement (.fwStatus) :=
  ⟨.fwStatus, rfl, rfl⟩

theorem transferStatus : Statement (.transferStatus) :=
  ⟨.transferStatus, rfl, rfl⟩

theorem spdmMsg : Statement (.spdmMsg) :=
  ⟨.spdmMsg, rfl, rfl⟩

theorem authNonce : Statement (.authNonce) :=
  ⟨.authNonce, rfl, rfl⟩

theorem objLoad : Statement (.objLoad) :=
  ⟨.objLoad, rfl, rfl⟩

theorem objClear : Statement (.objClear) :=
  ⟨.objClear, rfl, rfl⟩

theorem sealData : Statement (.sealData) :=
  ⟨.sealData, rfl, rfl⟩

theorem unsealData : Statement (.unsealData) :=
  ⟨.unsealData, rfl, rfl⟩

theorem bulkData : Statement (.bulkData) :=
  ⟨.bulkData, rfl, rfl⟩

theorem transferAbort : Statement (.transferAbort) :=
  ⟨.transferAbort, rfl, rfl⟩

theorem stageOpen (settingsOk : Bool) : Statement (.stageOpen settingsOk) :=
  ⟨.stageOpen false, rfl, rfl⟩

theorem stageClose (settingsOk : Bool) : Statement (.stageClose settingsOk) :=
  ⟨.stageClose false, rfl, rfl⟩

theorem stageAbort (settingsOk : Bool) : Statement (.stageAbort settingsOk) :=
  ⟨.stageAbort false, rfl, rfl⟩

theorem portReset : Statement (.portReset) :=
  ⟨.portReset, rfl, rfl⟩

theorem deviceReset : Statement (.deviceReset) :=
  ⟨.deviceReset, rfl, rfl⟩

theorem deferredResetTimer : Statement (.deferredResetTimer) :=
  ⟨.deferredResetTimer, rfl, rfl⟩

theorem millerRestart (env : RomEnv) : Statement (.millerRestart env) :=
  ⟨.millerRestart ⟨true, [], [], true, 0⟩, rfl, rfl⟩

theorem fwBegin : Statement (.fwBegin) :=
  ⟨.fwBegin, rfl, rfl⟩

theorem fwCommit (readback : List Byte) : Statement (.fwCommit readback) :=
  ⟨.fwCommit [], rfl, rfl⟩

theorem fwActivate (env : RomEnv) : Statement (.fwActivate env) :=
  ⟨.fwActivate ⟨true, [], [], true, 0⟩, rfl, rfl⟩

theorem fwFloorRaise (stuck : List Nat) : Statement (.fwFloorRaise stuck) :=
  ⟨.fwFloorRaise [], rfl, rfl⟩

theorem debugChallenge : Statement (.debugChallenge) :=
  ⟨.debugChallenge, rfl, rfl⟩

theorem debugOpen : Statement (.debugOpen) :=
  ⟨.debugOpen, rfl, rfl⟩

theorem debugD2AccessOpen : Statement (.debugD2AccessOpen) :=
  ⟨.debugD2AccessOpen, rfl, rfl⟩

theorem debugClose : Statement (.debugClose) :=
  ⟨.debugClose, rfl, rfl⟩

theorem imageBegin : Statement (.imageBegin) :=
  ⟨.imageBegin, rfl, rfl⟩

theorem slotCommit (settingsOk : Bool) : Statement (.slotCommit settingsOk) :=
  ⟨.slotCommit false, rfl, rfl⟩

theorem slotSwitch (settingsOk : Bool) : Statement (.slotSwitch settingsOk) :=
  ⟨.slotSwitch false, rfl, rfl⟩

theorem portConfig (settingsOk : Bool) : Statement (.portConfig settingsOk) :=
  ⟨.portConfig false, rfl, rfl⟩

theorem sluiceStore (settingsOk : Bool) : Statement (.sluiceStore settingsOk) :=
  ⟨.sluiceStore false, rfl, rfl⟩

theorem graphStore (settingsOk : Bool) : Statement (.graphStore settingsOk) :=
  ⟨.graphStore false, rfl, rfl⟩

theorem devConfig (settingsOk : Bool) : Statement (.devConfig settingsOk) :=
  ⟨.devConfig false, rfl, rfl⟩

theorem rollbackRaise (stuck : List Nat) : Statement (.rollbackRaise stuck) :=
  ⟨.rollbackRaise [], rfl, rfl⟩

theorem tamperConfig (settingsOk : Bool) : Statement (.tamperConfig settingsOk) :=
  ⟨.tamperConfig false, rfl, rfl⟩

theorem sourceDisable (stuck : List Nat) : Statement (.sourceDisable stuck) :=
  ⟨.sourceDisable [], rfl, rfl⟩

theorem keyProgram (stuck : List Nat) : Statement (.keyProgram stuck) :=
  ⟨.keyProgram [], rfl, rfl⟩

theorem keyRevoke (stuck : List Nat) : Statement (.keyRevoke stuck) :=
  ⟨.keyRevoke [], rfl, rfl⟩

theorem lcTransition (stuck : List Nat) : Statement (.lcTransition stuck) :=
  ⟨.lcTransition [], rfl, rfl⟩

theorem lcRepair (stuck : List Nat) : Statement (.lcRepair stuck) :=
  ⟨.lcRepair [], rfl, rfl⟩

theorem mailboxDoorbell (m : MbxEvent) : Statement (.mailboxDoorbell m) :=
  ⟨.mailboxDoorbell ⟨.owner, {}⟩, rfl, rfl⟩

theorem mailboxResponse (m : MbxEvent) : Statement (.mailboxResponse m) :=
  ⟨.mailboxResponse ⟨.owner, {}⟩, rfl, rfl⟩

theorem mailboxRspAck (m : MbxEvent) : Statement (.mailboxRspAck m) :=
  ⟨.mailboxRspAck ⟨.owner, {}⟩, rfl, rfl⟩

theorem getVersion (t : Transport) : Statement (.getVersion t) :=
  ⟨.getVersion .owner, rfl, rfl⟩

theorem getCapabilities (t : Transport) (caps : SpdmCaps) : Statement (.getCapabilities t caps) :=
  ⟨.getCapabilities .owner ⟨0, 0⟩, rfl, rfl⟩

theorem negotiateAlgorithms (t : Transport) (offer : AlgOffer) : Statement (.negotiateAlgorithms t offer) :=
  ⟨.negotiateAlgorithms .owner ⟨0, 0, 0, 0, 0, 0, 0⟩, rfl, rfl⟩

theorem getDigests (t : Transport) : Statement (.getDigests t) :=
  ⟨.getDigests .owner, rfl, rfl⟩

theorem getCertificate (t : Transport) (slot : Nat) (offset length : Nat) : Statement (.getCertificate t slot offset length) :=
  ⟨.getCertificate .owner 0 0 0, rfl, rfl⟩

theorem challenge (t : Transport) (slot : Nat) (nonce : List Byte) : Statement (.challenge t slot nonce) :=
  ⟨.challenge .owner 0 (List.replicate 32 0), by decide, rfl⟩

theorem getMeasurements (t : Transport) (index : Nat) (sign : Bool) (nonce : List Byte) : Statement (.getMeasurements t index sign nonce) :=
  ⟨.getMeasurements .owner 0 false (List.replicate 32 0), by decide, rfl⟩

theorem keyExchange (t : Transport) (slot : Nat) (exchange : List Byte) : Statement (.keyExchange t slot exchange) :=
  ⟨.keyExchange .owner 0 (List.replicate 96 0), by decide, rfl⟩

theorem finish (t : Transport) (verifyData : List Byte) : Statement (.finish t verifyData) :=
  ⟨.finish .owner [], rfl, rfl⟩

theorem endSession (t : Transport) : Statement (.endSession t) :=
  ⟨.endSession .owner, rfl, rfl⟩

theorem chunkSend (t : Transport) (seq : Nat) (last : Bool) (data : List Byte) : Statement (.chunkSend t seq last data) :=
  ⟨.chunkSend .owner 0 false [], rfl, rfl⟩

theorem chunkGet (t : Transport) (seq : Nat) : Statement (.chunkGet t seq) :=
  ⟨.chunkGet .owner 0, rfl, rfl⟩

theorem spdmUnsupportedRequest (t : Transport) (code : Byte) : Statement (.spdmUnsupportedRequest t code) :=
  ⟨.spdmUnsupportedRequest .owner 255, by decide, rfl⟩

theorem securedMessage (t : Transport) (sessionId : Nat) (data : List Byte) : Statement (.securedMessage t sessionId data) :=
  ⟨.securedMessage .owner 0 [], rfl, rfl⟩

theorem i3cDynamicAddress (addr : BitVec 7) : Statement (.i3cDynamicAddress addr) :=
  ⟨.i3cDynamicAddress 0, rfl, rfl⟩

theorem mctpSetEndpointId (eid : Byte) : Statement (.mctpSetEndpointId eid) :=
  ⟨.mctpSetEndpointId 0, rfl, rfl⟩

theorem mctpGetEndpointId : Statement (.mctpGetEndpointId) :=
  ⟨.mctpGetEndpointId, rfl, rfl⟩

theorem mctpGetVersionSupport : Statement (.mctpGetVersionSupport) :=
  ⟨.mctpGetVersionSupport, rfl, rfl⟩

theorem mctpGetMessageTypeSupport : Statement (.mctpGetMessageTypeSupport) :=
  ⟨.mctpGetMessageTypeSupport, rfl, rfl⟩

theorem i3cPrivateWrite (addr : Nat) (words : List Word) : Statement (.i3cPrivateWrite addr words) :=
  ⟨.i3cPrivateWrite 0 [0], by decide, rfl⟩

theorem i3cPrivateRead (addr : Nat) (count : Nat) : Statement (.i3cPrivateRead addr count) :=
  ⟨.i3cPrivateRead 0 1, by decide, rfl⟩

theorem drbgReseed : Statement (.drbgReseed) :=
  ⟨.drbgReseed, rfl, rfl⟩

theorem entropyHealthFail : Statement (.entropyHealthFail) :=
  ⟨.entropyHealthFail, rfl, rfl⟩

theorem pkeRequest : Statement (.pkeRequest) :=
  ⟨.pkeRequest, rfl, rfl⟩

theorem pkeGo : Statement (.pkeGo) :=
  ⟨.pkeGo, rfl, rfl⟩

theorem pkeAbort : Statement (.pkeAbort) :=
  ⟨.pkeAbort, rfl, rfl⟩

theorem pkeRelease : Statement (.pkeRelease) :=
  ⟨.pkeRelease, rfl, rfl⟩

theorem pkeMillerRequest (cmd len0 len1 arg : Word) (inputs : List Byte) : Statement (.pkeMillerRequest cmd len0 len1 arg inputs) :=
  ⟨.pkeMillerRequest 0 0 0 0 [], rfl, rfl⟩

theorem pkeOperationComplete (c : Fin 2) (e : PkeEnd) : Statement (.pkeOperationComplete c e) :=
  ⟨.pkeOperationComplete 0 (.abort 0), rfl, rfl⟩

theorem pkeKatComplete (c : Fin 2) (pass : Bool) : Statement (.pkeKatComplete c pass) :=
  ⟨.pkeKatComplete 0 false, rfl, rfl⟩

theorem pkeGrantTimeout (c : Fin 2) : Statement (.pkeGrantTimeout c) :=
  ⟨.pkeGrantTimeout 0, rfl, rfl⟩

theorem pkeRecoveryEnd (c : Fin 2) : Statement (.pkeRecoveryEnd c) :=
  ⟨.pkeRecoveryEnd 0, rfl, rfl⟩

theorem pkePowerUpKat (c : Fin 2) (pass : Bool) : Statement (.pkePowerUpKat c pass) :=
  ⟨.pkePowerUpKat 0 false, rfl, rfl⟩

theorem dgeAlloc : Statement (.dgeAlloc) :=
  ⟨.dgeAlloc, rfl, rfl⟩

theorem dgeStart (n : Fin 4) : Statement (.dgeStart n) :=
  ⟨.dgeStart 0, rfl, rfl⟩

theorem dgeData (n : Fin 4) (w : Word) : Statement (.dgeData n w) :=
  ⟨.dgeData 0 0, rfl, rfl⟩

theorem dgeFinal (n : Fin 4) : Statement (.dgeFinal n) :=
  ⟨.dgeFinal 0, rfl, rfl⟩

theorem dgeFree (n : Fin 4) : Statement (.dgeFree n) :=
  ⟨.dgeFree 0, rfl, rfl⟩

theorem digestFinalizeDone (n : Fin 16) : Statement (.digestFinalizeDone n) :=
  ⟨.digestFinalizeDone 0, rfl, rfl⟩

theorem hssLmsVerify (message pubkey sig : List Byte) : Statement (.hssLmsVerify message pubkey sig) :=
  ⟨.hssLmsVerify [] [] [], rfl, rfl⟩

theorem linkTrain (l : LinkId) (energy : Bool) (goodLanes peerLanes : BitVec 4) (peerIsDevice : Bool) : Statement (.linkTrain l energy goodLanes peerLanes peerIsDevice) :=
  ⟨.linkTrain .la false 0 0 false, rfl, rfl⟩

theorem linkDownRetry (l : LinkId) : Statement (.linkDownRetry l) :=
  ⟨.linkDownRetry .la, rfl, rfl⟩

theorem laneFault (l : LinkId) (lane : Fin 4) : Statement (.laneFault l lane) :=
  ⟨.laneFault .la 0, rfl, rfl⟩

theorem linkPortDown (l : LinkId) : Statement (.linkPortDown l) :=
  ⟨.linkPortDown .la, rfl, rfl⟩

theorem frameReceive (l : LinkId) (hseq : Nat) (bytes : List Byte) : Statement (.frameReceive l hseq bytes) :=
  ⟨.frameReceive .la 0 [], rfl, rfl⟩

theorem frameTransmit (l : LinkId) : Statement (.frameTransmit l) :=
  ⟨.frameTransmit .la, rfl, rfl⟩

theorem frameForward (l : LinkId) : Statement (.frameForward l) :=
  ⟨.frameForward .la, rfl, rfl⟩

theorem ackReceive (l : LinkId) (aseq : Nat) (nak : Bool) : Statement (.ackReceive l aseq nak) :=
  ⟨.ackReceive .la 0 false, rfl, rfl⟩

theorem ackTimer (l : LinkId) : Statement (.ackTimer l) :=
  ⟨.ackTimer .la, rfl, rfl⟩

theorem replayTimeout (l : LinkId) : Statement (.replayTimeout l) :=
  ⟨.replayTimeout .la, rfl, rfl⟩

theorem creditReceive (l : LinkId) (v0term v0fwd v1term v1fwd : Byte) : Statement (.creditReceive l v0term v0fwd v1term v1fwd) :=
  ⟨.creditReceive .la 0 0 0 0, rfl, rfl⟩

theorem creditSend (l : LinkId) : Statement (.creditSend l) :=
  ⟨.creditSend .la, rfl, rfl⟩

theorem regRd (l : LinkId) : Statement (.regRd l) :=
  ⟨.regRd .la, rfl, rfl⟩

theorem regWr (l : LinkId) : Statement (.regWr l) :=
  ⟨.regWr .la, rfl, rfl⟩

theorem bulk (l : LinkId) : Statement (.bulk l) :=
  ⟨.bulk .la, rfl, rfl⟩

theorem evtFrameSend : Statement (.evtFrameSend) :=
  ⟨.evtFrameSend, rfl, rfl⟩

theorem evtResend : Statement (.evtResend) :=
  ⟨.evtResend, rfl, rfl⟩

theorem evtAck (l : LinkId) : Statement (.evtAck l) :=
  ⟨.evtAck .la, rfl, rfl⟩

theorem enumSeek (l : LinkId) : Statement (.enumSeek l) :=
  ⟨.enumSeek .la, rfl, rfl⟩

theorem enumAssign (l : LinkId) : Statement (.enumAssign l) :=
  ⟨.enumAssign .la, rfl, rfl⟩

theorem enumDone (l : LinkId) : Statement (.enumDone l) :=
  ⟨.enumDone .la, rfl, rfl⟩

theorem firstWindowTimer : Statement (.firstWindowTimer) :=
  ⟨.firstWindowTimer, rfl, rfl⟩

theorem claim (l : LinkId) (engineFault : Bool) : Statement (.claim l engineFault) :=
  ⟨.claim .la false, rfl, rfl⟩

theorem renew (l : LinkId) : Statement (.renew l) :=
  ⟨.renew .la, rfl, rfl⟩

theorem yieldOwner (l : LinkId) : Statement (.yieldOwner l) :=
  ⟨.yieldOwner .la, rfl, rfl⟩

theorem fanSendClaim (engineFault : Bool) : Statement (.fanSendClaim engineFault) :=
  ⟨.fanSendClaim false, rfl, rfl⟩

theorem fanSendRenew : Statement (.fanSendRenew) :=
  ⟨.fanSendRenew, rfl, rfl⟩

theorem fanSendYield : Statement (.fanSendYield) :=
  ⟨.fanSendYield, rfl, rfl⟩

theorem electionWindowExpiry : Statement (.electionWindowExpiry) :=
  ⟨.electionWindowExpiry, rfl, rfl⟩

theorem directedOfferExpiry : Statement (.directedOfferExpiry) :=
  ⟨.directedOfferExpiry, rfl, rfl⟩

theorem leaseExpiry : Statement (.leaseExpiry) :=
  ⟨.leaseExpiry, rfl, rfl⟩

theorem registerWrite (m : Master) (addr : Nat) (w : RegWord) : Statement (.registerWrite m addr w) :=
  ⟨.registerWrite .m0 0 ⟨0, false⟩, rfl, rfl⟩

theorem logWindowRead (m : Master) (offset count : Nat) : Statement (.logWindowRead m offset count) :=
  ⟨.logWindowRead .m0 0 1, by decide, rfl⟩

theorem logRecordCommit (readbackOk : Bool) : Statement (.logRecordCommit readbackOk) :=
  ⟨.logRecordCommit false, rfl, rfl⟩

theorem tamperPinSample (level : BitVec 8) : Statement (.tamperPinSample level) :=
  ⟨.tamperPinSample 0, rfl, rfl⟩

theorem voltageMonitorTrip (m : Fin 64) (present : Bool) : Statement (.voltageMonitorTrip m present) :=
  ⟨.voltageMonitorTrip 0 false, rfl, rfl⟩

theorem clockMonitorTrip (m : Fin 64) (trip : ClockTrip) : Statement (.clockMonitorTrip m trip) :=
  ⟨.clockMonitorTrip 0 ⟨false, 7⟩, rfl, rfl⟩

theorem temperatureSample (t0 t1 t2 t3 : BitVec 12) : Statement (.temperatureSample t0 t1 t2 t3) :=
  ⟨.temperatureSample 0 0 0 0, rfl, rfl⟩

theorem invalidStateDetect (m : Fin 64) : Statement (.invalidStateDetect m) :=
  ⟨.invalidStateDetect 0, rfl, rfl⟩

theorem alarmCombine (env : RomEnv) : Statement (.alarmCombine env) :=
  ⟨.alarmCombine ⟨true, [], [], true, 0⟩, rfl, rfl⟩

theorem alarmContainClear (m : Fin 64) : Statement (.alarmContainClear m) :=
  ⟨.alarmContainClear 0, rfl, rfl⟩

theorem backupAlarm (m : Fin 64) : Statement (.backupAlarm m) :=
  ⟨.backupAlarm 0, rfl, rfl⟩

theorem powerStateEntry : Statement (.powerStateEntry) :=
  ⟨.powerStateEntry, rfl, rfl⟩

theorem wake : Statement (.wake) :=
  ⟨.wake, rfl, rfl⟩

theorem domainPowerUp (d : Fin 24) : Statement (.domainPowerUp d) :=
  ⟨.domainPowerUp 0, rfl, rfl⟩

theorem supplyLoss (rail : Fin 6) : Statement (.supplyLoss rail) :=
  ⟨.supplyLoss 0, rfl, rfl⟩

theorem dbgChal (level : BitVec 8) : Statement (.dbgChal level) :=
  ⟨.dbgChal 0, rfl, rfl⟩

theorem dbgToken (level : BitVec 8) (pubkey : List Byte) (sig : TokenSig) : Statement (.dbgToken level pubkey sig) :=
  ⟨.dbgToken 0 [] ⟨[], false, false⟩, rfl, rfl⟩

theorem dbgStatClose : Statement (.dbgStatClose) :=
  ⟨.dbgStatClose, rfl, rfl⟩

theorem dbgAccess (write : Bool) (space : BitVec 4) (addr data : Word) : Statement (.dbgAccess write space addr data) :=
  ⟨.dbgAccess false 0 0 0, rfl, rfl⟩

theorem extest (scan : List Bool) : Statement (.extest scan) :=
  ⟨.extest [], rfl, rfl⟩

theorem samplePreload (scan : List Bool) (use : TapScan) : Statement (.samplePreload scan use) :=
  ⟨.samplePreload [] ⟨false, .nothing⟩, rfl, rfl⟩

theorem clamp : Statement (.clamp) :=
  ⟨.clamp, rfl, rfl⟩

theorem highz : Statement (.highz) :=
  ⟨.highz, rfl, rfl⟩

theorem porstFalls : Statement (.porstFalls) :=
  ⟨.porstFalls, rfl, rfl⟩

theorem skipAlignInsert (l : LinkId) : Statement (.skipAlignInsert l) :=
  ⟨.skipAlignInsert .la, rfl, rfl⟩

theorem laneBlockReceive (l : LinkId) (lane : Fin 4) (sync : BitVec 2) (kind : Byte) (bits : BitVec 56) : Statement (.laneBlockReceive l lane sync kind bits) :=
  ⟨.laneBlockReceive .la 0 0 0 0, rfl, rfl⟩

theorem crystalPresent : Statement (.crystalPresent) :=
  ⟨.crystalPresent, rfl, rfl⟩

end Sys2Proof.Laws.WfInstance
end

