-- ==== Sys2Proof/Tests/Slice0.lean ====
section
/-! SUPPORT. The model's own tests: refused operands, the manual's worked examples on one step or one function, and for each statement with hypotheses a witness that meets them, clause by clause. -/

section

set_option Elab.async false

namespace Sys2Proof.Tests

open Sys2Proof Sys2Proof.Machine

/-! ### Small states and records -/

def modMbox (s : State) (m : MbxId) (f : Mailbox → Mailbox) : State := s.setMbox m (f (s.mbox m))

def modTr (s : State) (t : Transport) (f : Spdm → Spdm) : State := s.setTr t (f (s.tr t))

/-- The miller serves, in Blank, with every supply and clock present. -/
def upT : State :=
  { State.reset with sys.stage := .running, dbg.trstHigh := true, mil.running := some false, mil.loaded := true, drbg.seeded := true
                     fab.stones := Vector.replicate 32 {}
                     gov := { State.reset.gov.supplied false with romPending := false, porstLow := false, coldStart := false, vddLost := false, dom := Vector.replicate 24 .on } }

/-- A port serves to a host. -/
def svcT (s : State) : State := s.modPort 0 fun x => { x with state := .service, brake := false }

/-- A request executes. -/
def exeT (m : MbxId) (r : Request) (s : State) : State :=
  let t := modMbox s m fun x => { x with busy := true, accepted := some r }
  { t with mbx.order := [m] }

/-- A frame is the oldest of a link port that can carry a response. -/
def srvT (l : LinkId) (f : Frame) (s : State) : State :=
  (({ s with sys.node := 1 }).modLport .la fun x => { x with tstate := 6, width := 4 }).modLport l fun x => { x with tstate := 6, width := 4, term0 := [f] }

def partT : Sfdp :=
  { jedec := [1, 2, 3], capacity := 0x1000000, page := 256, progUs := 300, erases := [⟨12, 0x20, 45000⟩], chipEraseUs := 1000000, suspendOk := false,
    suspendUs := 20, addr3 := true, addr4 := false, extAddr := true, dummies := [(0x0B, 8)], prog4 := [], four := [], fastOps := [],
    revision := 0, octalEnable := 0, sectors := [], sccrReads := [], sccrWrites := [], flagStatus := false, sr2 := none, octal := [], quad := [] }

def envT : RomEnv := { readable := true, img0 := [], img1 := [], entropyOk := true }

/-- Bytes of a record with some of them set. -/
def putT (bs : List Byte) (o : Nat) (v : List Byte) : List Byte := bs.take o ++ v ++ bs.drop (o + v.length)

def zT (n : Nat) : List Byte := List.replicate n 0

/-- A configuration record of port 0. -/
def cfgB : List Byte :=
  putT (putT (putT (putT (putT (putT (zT 64) 0 (leBytes 4 0x43504E59)) 4 (leBytes 2 2)) 6 [0, 0x01]) 10 (leBytes 2 50)) 12 [20, 0x0B]) 24
    (leBytes 4 0x100000)

def cfgT : PortCfg := portCfgOf cfgB

/-- A store with that configuration. -/
def cfgS (s : State) (bs : List Byte) : State := s.setPstore 0 { s.pstore 0 with config := { copyA := some ⟨0, bs, true⟩ } }

def regionT : Region := { policy := 1, rflags := 0, start := 0, len := 4096, ltOffset := 0, leafCount := 1, rparam := 0, root := 0 }

def mapT : MillMap :=
  { bytes := [], mapLen := 256, signedLen := 192, portMask := 1, vsize := 0x100000, domain := 0, hybrid := false, secVersion := 1, serial := [], imageId := [],
    imageDigest := 0, regions := [regionT], digest := 0 }

def granT : Granule := { state := .valid, hold := none, owner := some 0, region := 0, va := 0, data := [], digest := none, fromReserve := false }

def trackT : Tracker :=
  { region := 0, leaf := 0, cs := false, bytes := [], spans := [], tHost := 0, tDev := 0, due := 5, paused := none, overdue := false, closed := false }

def failT : VerdictFail := { cause := .epoch 0 0, cs := false, stone := 0, done := true, katPass := true, r1 := true, r2 := none, time := 0, seq := 0 }

def heldT : Held := { cls := 2, op := 2, cs := false, addr := some 0, staged := none, data := [1], size := 1, phase := .waiting }

def absT : Absorbed := { cls := 2, due := 5, left := none, suspDue := none }

def blockT : Block := { cls := 2, src := .scrub, born := 0 }

def transT : Transfer := { id := 1, kind := .slot 0 .b, map := none, mapBytes := [], len := 4096, data := [], got := [], written := [], erased := [], complete := [] }

def recT : Record := { subtick := 0, tick := 0, source := 800, severity := 1, flags := 0, seq := some 0, data := [] }

def reqT : PkeReq := { user := .owner, cmd := 1, len0 := 0, len1 := 0, arg := 0, input := [], second := false }

def jobT : SpdmJob := { id := 7, route := .wire, chunk := none, code := 3, body := [1], raw := [], session := none }

def frameT : Frame :=
  { type := 1, dest := 1, src := 0, vc := false, bcast := false, epoch := 1, tag := 0, status := 0, argA := 0, argB := 1, payload := [] }

def replayT : Replay := { hseq := 0, frame := frameT, stomped := false, sends := 1 }

def txnT : HostTxn :=
  { port := 0, op := 6, ext := 0, addrBytes := 0, addr := 0, sent := [], partialByte := false, clocked := 0, clockMHz := 50, real := [], ecc := .ok, stays := false }

def entT : SlEntry :=
  { opcode := 0x9F, modes := 0, cls := 0, addr := 0, array := false, dummy := 0, advertised := false, data := 0, extent := 0, rcheck := 0, actPass := 1,
    actDeny := 0, evtPass := false, vsrc := 2, vdata := 1 }

/-- The port of a transaction serves to its host, on a part. -/
def hostT (s : State) : State :=
  s.modPort 0 fun x =>
    { x with state := .service, brake := false, vdResetDue := false, recoveringVd := false, wipMode := false, mode := some .s111, rstEnable := false,
             dpd := false, wip := false, cfg := some cfgT, map := some mapT, sfdp0 := some partT, sfdp1 := some partT, source := .slot .a }

/-- Header of a sluice table with no entry. -/
def slB : List Byte := putT (zT 16) 0 (leBytes 4 0x534C4E59 ++ [1, 0])

/-- A port that arms on slot A. -/
def armT (s : State) : State :=
  (cfgS s cfgB).modSlot 0 .a fun r => { r with state := .active }

/-- A port that measures slot A. -/
def measT (m : MillMap) (s : State) : State :=
  s.modPort 0 fun x => { x with state := .measuring, source := .slot .a, armMap := some m, begun := true, cfg := some cfgT }

/-- A transaction of the port. -/
def txT (op : Byte) (n a : Nat) (sent : List Byte) (clocked : Nat) : HostTxn :=
  { txnT with op := op, addrBytes := n, addr := a, sent := sent, clocked := clocked }

/-- Bytes of a frame, with its two checks. -/
def bytesT (f : Frame) : List Byte :=
  let w0 := f.type * 2 ^ 28 + f.dest * 2 ^ 24 + f.src * 2 ^ 20 + (if f.vc then 2 ^ 19 else 0) + (if f.bcast then 2 ^ 18 else 0) + f.payload.length
  let w1 := f.epoch * 2 ^ 28 + f.tag * 2 ^ 18 + f.status * 256
  let h := leBytes 4 w0 ++ leBytes 4 w1 ++ leBytes 4 f.argA ++ leBytes 2 f.argB
  let b := h ++ leBytes 2 (crc16 h).toNat ++ f.payload
  let c := b ++ leBytes 4 (crc32 b).toNat
  c ++ zT ((c.length + 7) / 8 * 8 - c.length)

/-- A tamper record that meets R494 and the floors. -/
def tamperB : List Byte :=
  let hd := putT (zT 24) 0 (leBytes 4 0x43544E59 ++ [1, 0])
  putT hd 16 (leBytes 2 65476 ++ leBytes 2 120) ++ (List.range 64).flatMap fun m =>
    leBytes 4 (monFloor m).toNat ++ leBytes 4 (if monListed m then (monMask m).toNat else 0)

def devB : List Byte := putT (putT (zT 32) 0 (leBytes 4 0x43444E59 ++ [2, 0])) 8 (leBytes 4 4000 ++ [192, 64, 128])

def graphB : List Byte := putT (zT 16) 0 (leBytes 4 0x47524E59 ++ [1, 0]) ++ (List.replicate 32 (zT 14 ++ [20, 0])).flatten

/-- A map's bytes: one region, no signature. -/
def mapB : List Byte :=
  leBytes 4 0x4D4D4E59 ++ leBytes 2 1 ++ leBytes 2 0x80 ++ leBytes 4 192 ++ leBytes 4 192 ++ leBytes 4 1 ++ leBytes 4 0x100000 ++ [1, 0] ++ zT 102 ++ [2] ++ zT 63

/-- A map's bytes with one P-256 entry, whose key is all zero. -/
def mapS : List Byte :=
  putT (putT mapB 8 (leBytes 4 424)) 128 ([1, 0, 0, 0] ++ zT 4 ++ leBytes 4 4096 ++ zT 4 ++ leBytes 4 1) ++ (leBytes 4 0x42534E59 ++ [1, 0, 0, 0] ++ leBytes 4 232 ++ zT 4)
    ++ (leBytes 2 1 ++ [0, 0] ++ leBytes 2 97 ++ leBytes 2 96 ++ zT 8) ++ zT 200

/-- Slot A holds that map, key slot 0 its key's hash, and both cores are retired. -/
def noCoreT : State :=
  let t := { upT with pke.core0.state := .retired, pke.core1.state := .retired, otp.keys := upT.otp.keys.set 0 (Config.sha384 (leBytes 2 1 ++ zT 97)) }
  (t.modPort 0 fun z => { z with cfg := some cfgT, source := .slot .a }).setPstore 0 { State.reset.pstore 0 with mapA := { copyA := some ⟨0, mapS, true⟩ } }

/-- A port on slot A whose slot B is retired, with AUTO_REPAIR. -/
def repairT (r : Byte) (maps : List Byte) (s : State) : State :=
  let t := cfgS s (putT cfgB 35 [r])
  t.setPstore 0 { t.pstore 0 with mapA := { copyA := some ⟨0, maps, true⟩ }, mapB := { copyA := some ⟨0, maps, true⟩ }, mapG := { copyA := some ⟨0, maps, true⟩ },
                                  slotA := { state := .active },
                                  slotB := { state := .retired, tries := 2 } }

theorem complete_of (t : Tracker) (h : t.bytes.length = 65536) (k : t.spans = []) : t.complete = true := by
  simp [Tracker.complete, Tracker.p, h, k]

/-- A transfer that holds its first n bytes, none of them written (07 R231). -/
def fullT (n : Nat) : Transfer := { transT with len := n + 4, got := List.range n }

theorem take_new (t : Transfer) (o : Nat) (b : Byte) (bs : List Byte) (h : o < t.len) (k : o ∉ t.got) :
    t.take o (b :: bs) = ({ t with data := memWrite t.data o b, got := o :: t.got } : Transfer).take (o + 1) bs := by
  rw [Transfer.take, if_neg (fun c => c.elim (fun l => absurd h (Nat.not_lt.mpr l)) k)]

theorem full_refuses (n : Nat) (hn : 0x200000 ≤ n) (h : Hopper) (e : h.current = some (fullT n)) : h.takes 1 n [1, 2, 3, 4] = false := by
  have k : ((fullT n).take n [1, 2, 3, 4]).2 = 0 := by
    rw [take_new, take_new, take_new, take_new]
    · rfl
    all_goals (simp [fullT, transT] <;> omega)
  have g : (fullT n).held = n := (congrArg List.length (List.filter_eq_self.mpr fun _ _ => rfl)).trans List.length_range
  have i : (fullT n).id = 1 := rfl
  simp only [Hopper.takes, e, i, if_true, k, Hopper.room, heldBy, g]
  simp; omega

theorem full_waits (n : Nat) (hn : 0x200000 ≤ n) (s : State) (m : MbxId) (r : Request) (e : s.executing = some (m, r)) (c : r.cmd = 0x0106)
    (k : bulkHeaderOk r.body = true) (i : field r.body 0 2 = 1) (o : field r.body 4 4 = n) (d : r.body.drop 8 = [1, 2, 3, 4])
    (f : s.hop.current = some (fullT n)) : s.bulkWaits = true := by
  simp only [State.bulkWaits, e, c, k, i, o, d, full_refuses n hn s.hop f]
  rfl

theorem judged_of (x : Port) (t : Tracker) (h : t.bytes.length = 65536) (k : t.spans = []) (r : x.reloads = []) : x.judged t = true := by
  simp [Port.judged, complete_of t h k, r]

theorem calm_of (s : State) (h : ∀ t ∈ [Transport.owner, .obs0, .obs1, .obs2, .i3c], (s.tr t).signing = none)
    (a : (s.pke.core0.req.bind fun r => s.pkeRefuse r.args (s.pke.core0.state == .ownerOp)) = none)
    (b : (s.pke.core1.req.bind fun r => s.pkeRefuse r.args (s.pke.core1.state == .ownerOp)) = none) : engineCalm s := by
  refine ⟨fun t => h t (by cases t <;> decide), fun c r e => ?_⟩
  match c with
  | 0 => rw [show s.pke.core 0 = s.pke.core0 from rfl] at e ⊢; rw [e] at a; exact a
  | 1 => rw [show s.pke.core 1 = s.pke.core1 from rfl] at e ⊢; rw [e] at b; exact b

/-- Four facts before a fifth, proved as one. -/
theorem four {a b c d e : Prop} (h : a ∧ b ∧ c ∧ d) (k : e) : a ∧ b ∧ c ∧ d ∧ e := ⟨h.1, h.2.1, h.2.2.1, h.2.2.2, k⟩

/-! ### Operands that no event can have -/

/-- One command for each bound of `Instr.wf`, just outside it. -/
theorem test_wellFormed_refuses :
    (∀ i ∈ ([.portArmBegin 0 { partT with jedec := [1, 2] } partT, .portArmBegin 0 partT { partT with erases := [⟨32, 0x20, 1⟩] },
        .hostTransaction { txnT with addrBytes := 5 }, .hostTransaction { txnT with addrBytes := 3, addr := 256 ^ 3 },
        .hostTransaction { txnT with clockMHz := 256 }, .granuleFill 0 [0] .ok, .granuleRefillDone 0 [0] .ok ⟨0, none⟩, .scrubGranule [0] .ok .ok,
        .challenge .owner 8 (zT 32), .challenge .owner 0 (zT 31), .getMeasurements .owner 256 true (zT 32), .getMeasurements .owner 0 true (zT 33),
        .getCertificate .owner 8 0 0, .getCertificate .owner 0 65536 0, .getCertificate .owner 0 0 65536, .keyExchange .owner 8 (zT 96),
        .keyExchange .owner 0 (zT 95), .i3cPrivateWrite 2 [0], .i3cPrivateWrite 0x1000000 [0], .i3cPrivateWrite 0 [],
        .i3cPrivateWrite 0 (List.replicate 65 0), .i3cPrivateRead 2 1, .i3cPrivateRead 0x1000000 1, .i3cPrivateRead 0 0, .i3cPrivateRead 0 257,
        .registerWrite .m0 1 ⟨0, true⟩, .registerWrite .m0 0x1000000 ⟨0, true⟩, .logWindowRead .m0 2 1, .logWindowRead .m0 0 0, .logWindowRead .m0 0 65,
        .logWindowRead .m0 0x3FFC 2, .frameReceive .la 4096 [], .ackReceive .la 4096 false, .stoneBlockComplete 0 0, .hopperProgramComplete 262144, .hostTransaction { txnT with stays := true },
        .getCapabilities .owner ⟨256, 0⟩, .getCapabilities .owner ⟨0x12, 2 ^ 32⟩,
        .spdmUnsupportedRequest .owner 127] : List Instr), i.wf = false) := by decide +kernel

theorem pke_input_wf (n : Nat) (h : 16384 < n) : (Instr.pkeMillerRequest 0 0 0 0 (zT n)).wf = false :=
  decide_eq_false (by rw [zT, List.length_replicate]; omega)

/-- 16 KiB and a byte do not fit an engine core's operand memory. -/
theorem test_wellFormed_refuses_long_input : (Instr.pkeMillerRequest 0 0 0 0 (zT 16385)).wf = false := pke_input_wf _ (by decide)

/-! ### Worked examples of the manual, and single steps -/

/-- The table spells no command in bits. -/
theorem test_decodeTableWord : decodeTableWord 16 0 = none := rfl

theorem test_step_takes_the_front :
    (match step { State.reset with pending := [.wake, .porstFalls] } with | .next t => t.pending | _ => []) = [.porstFalls] := by decide +kernel

/-- 02, worked example of the advertised dummy counts: 8 at 200 MHz, 6 at 133 MHz, and 22 with a forwarded region and N_real 20. -/
theorem test_dummy_counts :
    millraceCount 200 = 8 ∧ millraceCount 133 = 6
      ∧ advCount { mapT with regions := [regionT, { regionT with policy := 2 }] } false { partT with dummies := [(0xEE, 20)] } 200 0xEE = 22
      ∧ advCount mapT false partT 133 0xEB = 6 := by decide +kernel

/-- 14, power lost between two copies: six bits of copy 2 have followed copy 1, and the vote is no codeword. -/
theorem test_vote_between_two_copies :
    ({ copy1 := 0x3CC3C33CA5A55A5A, copy2 := 0x0000033CA5A55A5A, copy3 := 0x00000000A5A55A5A } : Otp).vote = 0x0000033CA5A55A5A
      ∧ decodeLc 0x0000033CA5A55A5A = .locked := by decide +kernel

/-- 16, one record of a recovery: the 32 bytes of the VERDICT_FAIL of P20. -/
theorem test_record_bytes :
    ({ subtick := 0x1A00, tick := 0x1234567, source := 400, severity := 2, flags := 0x08, seq := some 0x2F41,
       data := [0x00, 0x11, 0x00, 0x01, 0x01, 0x00, 0x01, 0x00, 0x02, 0, 0, 0, 0, 0, 0x12, 0] } : Record).toBytes
      = [0x00, 0x1A, 0x67, 0x45, 0x23, 0x01, 0, 0, 0x90, 0x01, 0x02, 0x08, 0x41, 0x2F, 0, 0,
         0x00, 0x11, 0x00, 0x01, 0x01, 0x00, 0x01, 0x00, 0x02, 0, 0, 0, 0, 0, 0x12, 0] := by decide +kernel

/-- 12: the reset values of SYS_RESET_CAUSE, DGE_FABRIC and FAN_PRIO. -/
theorem test_register_resets :
    State.reset.readReg 0x18 = 1 ∧ State.reset.readReg 0x14010 = 32 ∧ State.reset.readReg 0x10010 = 0x8040C0 := by decide +kernel

/-- 10, a short final and a stray word: DATA past LEN sets TRUNC. -/
theorem test_data_past_the_length :
    (match exec (.dgeData 2 0) { upT with fan.owner := some .m14, dge.ctx := upT.dge.ctx.set 14 { state := .opened, alg := 1, len := 2, msg := [1, 2] } } with
      | .next t => ((t.dge.ctx[14]).trunc, (t.dge.ctx[14]).msg.length) | _ => (false, 0)) = (true, 2) := by decide +kernel

/-- 06, an edge with HRDY: P8's edge from P20 is satisfied once P20 serves with its HRDY qualified, and not before. -/
theorem test_edge_with_hrdy :
    let s : State := { upT with rel.records := upT.rel.records.set 8 { pred := 0x100000, hrdy := 0x100000, settleMs := 5 } }
    (s.modPort 20 fun x => { x with state := .service, brake := false }).edgesOk 8 = false
      ∧ (s.modPort 20 fun x => { x with state := .service, brake := false, hrdyQ := true }).edgesOk 8 = true := by decide +kernel

/-- 14 R447: Blank moves to Test, blowing the codeword of R446 into each copy. -/
theorem test_blank_to_test :
    (match exec (.lcTransition []) (exeT .owner
        { cmd := 0x030E, seq := 0, epoch := 0, token := [], body := [1, 0, 0, 0], authDigest := 0, authorized := false, time := 0, ownFault := false, result := none } upT) with
      | .next t => (t.otp.copy1, t.otp.copy2, t.otp.copy3) | _ => (0, 0, 0)) = (0xA5A55A5A, 0xA5A55A5A, 0xA5A55A5A) := by decide +kernel

/-- FIPS 180-4's example: SHA-256 of the bytes "abc" (10 R313). -/
theorem test_sha256_abc :
    Config.sha256 [0x61, 0x62, 0x63] = 0xba7816bf8f01cfea414140de5dae2223b00361a396177a9cb410ff61f20015ad#256 := by decide +kernel

/-- FIPS 180-4's example: SHA-384 of the bytes "abc" (10 R313). -/
theorem test_sha384_abc :
    Config.sha384 [0x61, 0x62, 0x63]
      = 0xcb00753f45a35e8bb5a03d699ac65007272c32ab0eded1631a8b605a43ff5bed8086072ba1e7cc2358baeca134c825a7#384 := by decide +kernel

/-! ### A witness for the hypotheses of each statement, clause by clause -/

theorem test_witness_FrontOfQueueRuns : ∃ (s : State), s.pending = [] :=
  ⟨{ upT with pending := [] }, by decide +kernel⟩

theorem test_witness_ResetsClearTheirColumns :
    (∃ (s : State), s.aonb.backup = false)
    ∧ (∃ (s : State), s.aonb.backup = false ∧ s.mon.detected = [])
    ∧ (∃ (s : State), s.aonb.backup = true)
    ∧ (∃ (s : State), s.gov.romPending = true ∧ ((s.gov.vaux = true → s.gov.refclk = true ∧ s.gov.vdd = true ∧ s.gov.vddm = true)))
    ∧ (∃ (s : State), ((s.gov.romPending = false ∨ (s.gov.vaux = true ∧ (s.gov.refclk = false ∨ s.gov.vdd = false ∨ s.gov.vddm = false))))) :=
  ⟨⟨{ upT with aonb.backup := false }, by decide +kernel⟩,
   ⟨{ upT with aonb.backup := false, mon.detected := [] }, by decide +kernel⟩,
   ⟨{ upT with aonb.backup := true }, by decide +kernel⟩,
   ⟨{ upT with gov.romPending := true }, by decide +kernel⟩,
   ⟨{ upT with gov.romPending := false }, by decide +kernel⟩⟩

theorem test_witness_MillerRestartKeepsServingPorts :
    (∃ (s : State), s.millerUp = true)
    ∧ (∃ (s : State), s.millerUp = false)
    ∧ (∃ (s : State), s.millerUp = false)
    ∧ (∃ (s : State), s.millerUp = true)
    ∧ (∃ (s : State), s.aonb.backup = false)
    ∧ (∃ (s : State), s.gov.romPending = true ∧ s.gov.refclk = true ∧ s.gov.vdd = true ∧ s.gov.vddm = true) :=
  ⟨⟨upT, by decide +kernel⟩,
   ⟨State.reset, by decide +kernel⟩,
   ⟨State.reset, by decide +kernel⟩,
   ⟨upT, by decide +kernel⟩,
   ⟨{ upT with aonb.backup := false }, by decide +kernel⟩,
   ⟨{ upT with gov.romPending := true, gov.refclk := true, gov.vdd := true, gov.vddm := true }, by decide +kernel⟩⟩

theorem test_witness_MillerStartLoadsStores :
    (∃ (s : State), s.serves = true ∧ s.mil.loaded = false)
    ∧ (∃ (s : State), ((s.serves = false ∨ s.mil.loaded = true))) :=
  ⟨⟨{ upT with mil.loaded := false }, by decide +kernel⟩,
   ⟨upT, by decide +kernel⟩⟩

theorem test_witness_ConfigurationLoadArmsPort :
    (∃ (p : PortId) (s : State), s.armsNow p = true ∧ (s.port p).state = .waiting ∧ s.storedCfg p = none)
    ∧ (∃ (p : PortId) (s : State), s.armsNow p = true ∧ (s.port p).state = .waiting ∧ (s.port p).option = none ∧ s.storedCfg p = some none)
    ∧ (∃ (p : PortId) (c : PortCfg) (s : State), s.armsNow p = true ∧ s.storedCfg p = some (some c) ∧ c.enable = true ∧ s.vioOf p = .out)
    ∧ (∃ (p : PortId) (c : PortCfg) (s : State), s.armsNow p = true ∧ (s.port p).state = .waiting ∧ (s.port p).option = none ∧ s.storedCfg p = some (some c) ∧ c.enable = true ∧ s.vioOf p = .v33 ∧ modeClock true c.mode < c.fport)
    ∧ (∃ (p : PortId) (x : Sfdp) (y : Sfdp) (c : PortCfg) (i : SlotId) (pending : Bool) (s : State), s.armsNow p = true ∧ (s.port p).state = .waiting ∧ s.storedCfg p = some (some c) ∧ c.enable = true ∧ ((s.vioOf p = .v18 ∨ (s.vioOf p = .v33 ∧ c.fport ≤ modeClock true c.mode))) ∧ s.armTarget p = .slot i pending ∧ (∀ j ∈ c.slots, c.base j + c.v ≤ (if c.cs j then y else x).capacity) ∧ ((c.addr4 = true ∨ c.base i < 2 ^ 24 ∨ (if c.cs i then y else x).extAddr = true)) ∧ (checkSluice (s.sluiceBytes p) (partKnows (if c.cs i then y else x)) (decide ((if c.cs i then y else x).page ≤ 4096))).1 = 0)
    ∧ (∃ (p : PortId) (s : State), (s.port p).state = .waiting ∧ s.armsNow p = true)
    ∧ (∃ (p : PortId) (s : State), s.armsNow p = false) :=
  ⟨⟨0, (State.modPort upT (0) fun z_ => { z_ with state := .waiting }), by decide +kernel⟩,
   ⟨0, cfgS upT [0], by decide +kernel⟩,
   ⟨0, cfgT, { armT upT with gov.vioPg := Vector.replicate 8 .out }, by decide +kernel⟩,
   ⟨0, portCfgOf (putT cfgB 10 (leBytes 2 120)), { cfgS upT (putT cfgB 10 (leBytes 2 120)) with gov.vioPg := Vector.replicate 8 .v33 }, by decide +kernel⟩,
   ⟨0, partT, partT, cfgT, .a, false, { armT upT with gov.vioPg := Vector.replicate 8 .v18 }, by decide +kernel⟩,
   ⟨0, (State.modPort upT (0) fun z_ => { z_ with state := .waiting }), by decide +kernel⟩,
   ⟨0, State.reset, by decide +kernel⟩⟩

theorem test_witness_MapVerificationDecidesArming :
    (∃ (p : PortId) (c : PortCfg) (i : SlotId) (s : State), s.millerRuns = true ∧ (s.port p).state = .arming ∧ (s.port p).begun = true ∧ (s.port p).armMap = none ∧ (s.port p).engineWait = false ∧ (s.port p).armPending = false ∧ (s.port p).cfg = some c ∧ (s.port p).source = .slot i ∧ (s.storedMap p i).isSome = true ∧ (s.port p).containBy = [] ∧ s.gov.vioHome = true)
    ∧ (∃ (p : PortId) (s : State), (((s.port p).containBy ≠ [] ∨ (s.port p).engineWait = true ∨ s.stir.millerRuns = false)))
    ∧ (∃ (p : PortId) (i : SlotId) (s : State), s.millerRuns = true ∧ (s.port p).state = .arming ∧ (s.port p).begun = true ∧ (s.port p).armMap = none ∧ (s.port p).engineWait = false ∧ (s.port p).source = .slot i ∧ (s.port p).containBy = [] ∧ s.gov.vioHome = false)
    ∧ (∃ (p : PortId) (c : PortCfg) (i : SlotId) (s : State), s.dark = false ∧ (s.port p).cfg = some c ∧ (s.port p).source = .slot i ∧ (s.verifySlotMap p i c s.engines).1 ≠ 8)
    ∧ (∃ (p : PortId) (c : PortCfg) (i : SlotId) (s : State), (s.port p).cfg = some c ∧ (s.port p).source = .slot i ∧ (s.verifySlotMap p i c s.engines).1 = 8)
    ∧ (∃ (p : PortId) (s : State), s.dark = false ∧ s.readsGoOn p = true ∧ (s.port p).captures.length < (s.port p).captureEntries.length)
    ∧ (∃ (p : PortId) (m : MillMap) (r : Nat) (va : Nat) (n : Nat) (g : Granule) (s : State), s.dark = false ∧ (s.port p).armMap = some m ∧ m.granules[(s.port p).filled]? = some (r, va) ∧ s.measuringFlash p = true ∧ (s.port p).captured = true ∧ s.pond.granuleAt p va = some (n, g))
    ∧ (∃ (p : PortId) (m : MillMap) (e : Nat × Region) (s : State), s.dark = false ∧ (s.port p).armMap = some m ∧ m.streams[(s.port p).loaded]? = some e ∧ s.measuringFlash p = true ∧ (s.port p).captured = true)
    ∧ (∃ (p : PortId) (m : MillMap) (s : State), s.dark = false ∧ (s.port p).armMap = some m ∧ s.measuringFlash p = true ∧ (s.port p).captured = true ∧ s.fillWhole p = true ∧ (s.port p).filled = m.granules.length ∧ (s.port p).loaded = m.streams.length ∧ s.mismatch p m = none) :=
  ⟨⟨0, cfgT, .a, (State.setPstore (State.modPort { upT with gov.vioHome := true } (0) fun z_ => { z_ with state := .arming, begun := true, armMap := none, engineWait := false, armPending := false, cfg := some (cfgT), source := .slot (.a), containBy := [] }) 0 { ((State.modPort { upT with gov.vioHome := true } (0) fun z_ => { z_ with state := .arming, begun := true, armMap := none, engineWait := false, armPending := false, cfg := some (cfgT), source := .slot (.a), containBy := [] })).pstore 0 with mapA := { copyA := some ⟨0, [], true⟩ } }), by decide +kernel⟩,
   ⟨0, { upT with mil.running := none }, .inr (.inr (by decide +kernel))⟩,
   ⟨0, .a, (State.modPort { upT with gov.vioHome := false } (0) fun z_ => { z_ with state := .arming, begun := true, armMap := none, engineWait := false, source := .slot (.a), containBy := [] }), by decide +kernel⟩,
   ⟨0, cfgT, .a, (State.modPort upT (0) fun z_ => { z_ with cfg := some (cfgT), source := .slot (.a) }), by decide +kernel⟩,
   ⟨0, cfgT, .a, noCoreT, by decide +kernel⟩,
   ⟨0, (measT mapT upT).modPort 0 fun z_ => { z_ with table := [entT] }, by decide +kernel⟩,
   ⟨0, mapT, 0, 0, 0, granT, { measT mapT upT with pond.granules := [(0, granT)] }, by decide +kernel⟩,
   ⟨0, { mapT with regions := [{ regionT with policy := 2, len := 65536 }] }, (0, { regionT with policy := 2, len := 65536 }), measT { mapT with regions := [{ regionT with policy := 2, len := 65536 }] } upT, by decide +kernel⟩,
   ⟨0, { mapT with regions := [] }, measT { mapT with regions := [] } upT, by decide +kernel⟩⟩

theorem test_witness_MeasurementFillsAndCompares :
    (∃ (p : PortId) (e : SlEntry) (s : State), s.dark = false ∧ (s.port p).captureEntries[(s.port p).captures.length]? = some e ∧ s.readsGoOn p = true)
    ∧ (∃ (p : PortId) (s : State), ((s.readsGoOn p = false ∨ (s.port p).captureEntries.length ≤ (s.port p).captures.length)))
    ∧ (∃ (p : PortId) (m : MillMap) (r : Nat) (va : Nat) (n : Nat) (g : Granule) (s : State), s.dark = false ∧ (s.port p).armMap = some m ∧ m.granules[(s.port p).filled]? = some (r, va) ∧ s.measuringFlash p = true ∧ (s.port p).captured = true ∧ s.pond.granuleAt p va = some (n, g))
    ∧ (∃ (p : PortId) (m : MillMap) (k : Nat) (r : Region) (s : State), s.dark = false ∧ (s.port p).armMap = some m ∧ m.streams[(s.port p).loaded]? = some (k, r) ∧ s.measuringFlash p = true ∧ (s.port p).captured = true)
    ∧ (∃ (p : PortId) (m : MillMap) (i : SlotId) (s : State), s.dark = false ∧ (s.port p).armMap = some m ∧ s.measuringFlash p = true ∧ (s.port p).captured = true ∧ s.fillWhole p = true ∧ (s.port p).filled = m.granules.length ∧ (s.port p).loaded = m.streams.length ∧ (s.port p).armPending = false ∧ (s.port p).source = .slot i)
    ∧ (∃ (p : PortId) (m : MillMap) (s : State), (s.port p).armMap = some m ∧ ((s.measuringFlash p = false ∨ (s.port p).captured = false ∨ s.fillWhole p = false ∨ (s.port p).filled ≠ m.granules.length ∨ (s.port p).loaded ≠ m.streams.length))) :=
  ⟨⟨0, entT, (measT mapT upT).modPort 0 fun z_ => { z_ with table := [entT] }, by decide +kernel⟩,
   ⟨0, upT, by decide +kernel⟩,
   ⟨0, mapT, 0, 0, 0, granT, { measT mapT upT with pond.granules := [(0, granT)] }, by decide +kernel⟩,
   ⟨0, { mapT with regions := [{ regionT with policy := 2, len := 65536 }] }, 0, { regionT with policy := 2, len := 65536 }, measT { mapT with regions := [{ regionT with policy := 2, len := 65536 }] } upT, by decide +kernel⟩,
   ⟨0, mapT, .a, (measT mapT upT).modPort 0 fun z_ => { z_ with filled := 1 }, by decide +kernel⟩,
   ⟨0, mapT, (State.modPort upT (0) fun z_ => { z_ with armMap := some (mapT) }), by decide +kernel⟩⟩

theorem test_witness_ReleaseTimersAndHostSenses :
    (∃ (p : PortId) (s : State), (s.port p).brake = true)
    ∧ (∃ (p : PortId) (s : State), (s.port p).brake = false)
    ∧ (∃ (p : PortId) (s : State), s.dark = false ∧ (s.port p).state = .measured ∧ s.edgesOk p = true)
    ∧ (∃ (p : PortId) (s : State), ((s.port p).state ≠ .measured ∨ s.edgesOk p = false))
    ∧ (∃ (p : PortId) (s : State), (s.port p).brake = false ∧ s.commitOutstanding p = false)
    ∧ (∃ (p : PortId) (s : State), (s.port p).brake = false ∧ s.commitOutstanding p = true ∧ (s.port p).state ≠ .isolated)
    ∧ (∃ (p : PortId) (s : State), (s.port p).brake = true)
    ∧ (∃ (p : PortId) (s : State), (s.port p).brake = false)
    ∧ (∃ (p : PortId) (s : State), (s.port p).brake = true)
    ∧ (∃ (p : PortId) (s : State), (s.port p).brake = false ∧ (s.port p).hrdyQ = true)
    ∧ (∃ (p : PortId) (s : State), (((s.port p).brake = true ∨ (s.port p).hrdyQ = false))) :=
  ⟨⟨0, (State.modPort upT (0) fun z_ => { z_ with brake := true }), by decide +kernel⟩,
   ⟨0, (State.modPort upT (0) fun z_ => { z_ with brake := false }), by decide +kernel⟩,
   ⟨0, (State.modPort upT (0) fun z_ => { z_ with state := .measured }), by decide +kernel⟩,
   ⟨0, upT, by decide +kernel⟩,
   ⟨0, (State.modPort upT (0) fun z_ => { z_ with brake := false }), by decide +kernel⟩,
   ⟨0, (svcT upT).modSlot 0 .b fun z_ => { z_ with state := .ready, switchPending := true }, by decide +kernel⟩,
   ⟨0, (State.modPort upT (0) fun z_ => { z_ with brake := true }), by decide +kernel⟩,
   ⟨0, (State.modPort upT (0) fun z_ => { z_ with brake := false }), by decide +kernel⟩,
   ⟨0, (State.modPort upT (0) fun z_ => { z_ with brake := true }), by decide +kernel⟩,
   ⟨0, (State.modPort upT (0) fun z_ => { z_ with brake := false, hrdyQ := true }), by decide +kernel⟩,
   ⟨0, (State.modPort upT (0) fun z_ => { z_ with brake := true }), by decide +kernel⟩⟩

theorem test_witness_HrdyTimeoutRaisesFault :
    (∃ (p : PortId) (s : State), (s.port p).brake = false ∧ (s.port p).hrdyQ = false ∧ (s.port p).hrdyTmo = false ∧ (s.rel.records[p]).tmo10ms ≠ 0)
    ∧ (∃ (p : PortId) (s : State), (((s.port p).brake = true ∨ (s.port p).hrdyQ = true ∨ (s.rel.records[p]).tmo10ms = 0))) :=
  ⟨⟨0, { (State.modPort upT (0) fun z_ => { z_ with brake := false, hrdyQ := false, hrdyTmo := false }) with rel.records := Vector.replicate 32 { tmo10ms := 1 } }, by decide +kernel⟩,
   ⟨0, (State.modPort upT (0) fun z_ => { z_ with brake := true }), by decide +kernel⟩⟩

theorem test_witness_PortSupplyAndPortReset :
    (∃ (s : State), s.dark = false)
    ∧ (∃ (p : PortId) (s : State), s.dark = false ∧ (s.port p).state ≠ .isolated)
    ∧ (∃ (p : PortId) (s : State), s.dark = false ∧ (s.port p).state = .isolated) :=
  ⟨⟨upT, by decide +kernel⟩,
   ⟨0, upT, by decide +kernel⟩,
   ⟨0, (State.modPort upT (0) fun z_ => { z_ with state := .isolated }), by decide +kernel⟩⟩

theorem test_witness_VirtualDeviceResets :
    (∃ (p : PortId) (n : Nat) (s : State), s.dark = false ∧ 75 ≤ n ∧ (s.port p).cfg.isSome = true)
    ∧ (∃ (n : Nat), n < 75)
    ∧ (∃ (p : PortId) (c : PortCfg) (s : State), s.dark = false ∧ s.recoveryCfg p = some c ∧ (s.port p).vdResetDue = true ∧ (((s.port p).brake = false ∨ (s.port p).partBusy = false)) ∧ (s.port p).state ≠ .isolated)
    ∧ (∃ (p : PortId) (c : PortCfg) (s : State), s.dark = false ∧ s.recoveryCfg p = some c ∧ (s.port p).vdResetDue = false ∧ (s.port p).partResetDue = true ∧ (((s.port p).brake = false ∨ (s.port p).partBusy = false)) ∧ (s.port p).state ≠ .isolated)
    ∧ (∃ (p : PortId) (s : State), (s.port p).state = .isolated)
    ∧ (∃ (p : PortId) (s : State), s.dark = false ∧ (s.port p).recoveringVd = true)
    ∧ (∃ (p : PortId) (s : State), (s.port p).recoveringVd = false) :=
  ⟨⟨0, 75, upT.modPort 0 fun z_ => { z_ with cfg := some cfgT }, by decide +kernel⟩,
   ⟨0, by decide +kernel⟩,
   ⟨0, cfgT, upT.modPort 0 fun z_ => { z_ with cfg := some cfgT, vdResetDue := true }, by decide +kernel⟩,
   ⟨0, cfgT, upT.modPort 0 fun z_ => { z_ with cfg := some cfgT, partResetDue := true }, by decide +kernel⟩,
   ⟨0, (State.modPort upT (0) fun z_ => { z_ with state := .isolated }), by decide +kernel⟩,
   ⟨0, (State.modPort upT (0) fun z_ => { z_ with recoveringVd := true }), by decide +kernel⟩,
   ⟨0, (State.modPort upT (0) fun z_ => { z_ with recoveringVd := false }), by decide +kernel⟩⟩

theorem test_witness_HostTransactionFrame : ∃ (t : HostTxn) (s : State), ((s.port t.port).brake = true ∨ ((s.port t.port).state ≠ .service ∧ (s.port t.port).state ≠ .substitute)) :=
  ⟨txnT, (State.modPort upT (txnT).port fun z_ => { z_ with brake := true }), by decide +kernel⟩

theorem test_witness_HostReadsAreAnswered :
    (∃ (t : HostTxn) (q : Sfdp) (s : State), hostReady (s.port t.port) ∧ hostDecodes s t q (some 6) ∧ t.op = 0x06 ∧ (s.port t.port).statusRead 0x06 = none)
    ∧ (∃ (t : HostTxn) (q : Sfdp) (s : State), hostReady (s.port t.port) ∧ hostDecodes s t q (some 4) ∧ t.op = 0x05 ∧ 0 < t.clocked)
    ∧ (∃ (t : HostTxn) (q : Sfdp) (s : State), hostReady (s.port t.port) ∧ hostDecodes s t q none ∧ (s.port t.port).statusRead t.op = none)
    ∧ (∃ (t : HostTxn) (q : Sfdp) (m : MillMap) (c : PortCfg) (k : Nat) (n : Nat) (a : Nat) (r : Region) (g : Granule) (s : State), hostReady (s.port t.port) ∧ hostDecodes s t q (some 1) ∧ (s.port t.port).statusRead t.op = none ∧ (s.port t.port).map = some m ∧ (s.port t.port).cfg = some c ∧ (s.port t.port).virtAddr c.v t.addrBytes t.addr = a ∧ a < c.v ∧ m.regionOf a = some (k, r) ∧ r.policy = 1 ∧ 0 < t.clocked ∧ a + t.clocked ≤ r.start + r.len ∧ a % 4096 + t.clocked ≤ 4096 ∧ s.pond.granuleAt t.port (a / 4096 * 4096) = some (n, g) ∧ g.state = .valid ∧ t.ecc = .ok ∧ t.op = 0x0B ∧ t.addrBytes = knownAddrBytes (s.port t.port) t.op)
    ∧ (∃ (t : HostTxn) (q : Sfdp) (m : MillMap) (c : PortCfg) (k : Nat) (n : Nat) (a : Nat) (r : Region) (g : Granule) (s : State), hostReady (s.port t.port) ∧ hostDecodes s t q (some 1) ∧ (s.port t.port).statusRead t.op = none ∧ (s.port t.port).map = some m ∧ (s.port t.port).cfg = some c ∧ (s.port t.port).virtAddr c.v t.addrBytes t.addr = a ∧ a < c.v ∧ m.regionOf a = some (k, r) ∧ r.policy = 1 ∧ 0 < t.clocked ∧ a + t.clocked ≤ r.start + r.len ∧ a % 4096 + t.clocked ≤ 4096 ∧ s.pond.granuleAt t.port (a / 4096 * 4096) = some (n, g) ∧ g.state = .invalid ∧ t.ecc = .ok ∧ t.op = 0x0B ∧ t.addrBytes = knownAddrBytes (s.port t.port) t.op) :=
  ⟨⟨txnT, partT, hostT upT, by unfold hostReady; decide +kernel, by unfold hostDecodes; decide +kernel, by decide +kernel⟩,
   ⟨txT 5 0 0 [] 1, partT, hostT upT, by unfold hostReady; decide +kernel, by unfold hostDecodes; decide +kernel, by decide +kernel⟩,
   ⟨txT 0xC1 0 0 [] 0, partT, hostT upT, by unfold hostReady; decide +kernel, by unfold hostDecodes; decide +kernel, by decide +kernel⟩,
   ⟨txT 0x0B 3 0xFFF [] 1, partT, mapT, cfgT, 0, 0, 0xFFF, regionT, granT, { hostT upT with pond.granules := [(0, granT)] }, by unfold hostReady; decide +kernel, by unfold hostDecodes; decide +kernel, by decide +kernel⟩,
   ⟨txT 0x0B 3 0xFFF [] 1, partT, mapT, cfgT, 0, 0, 0xFFF, regionT, { granT with state := .invalid }, { hostT upT with pond.granules := [(0, { granT with state := .invalid })] }, by unfold hostReady; decide +kernel, by unfold hostDecodes; decide +kernel, by decide +kernel⟩⟩

theorem test_witness_HeldProgramIsChecked :
    (∃ (t : HostTxn) (q : Sfdp) (s : State), hostReady (s.port t.port) ∧ hostDecodes s t q (some 2) ∧ (s.port t.port).wel = false)
    ∧ (∃ (t : HostTxn) (q : Sfdp) (m : MillMap) (c : PortCfg) (s : State), hostReady (s.port t.port) ∧ hostDecodes s t q (some 2) ∧ (s.port t.port).wel = true ∧ (s.port t.port).map = some m ∧ (s.port t.port).cfg = some c ∧ t.addrBytes = knownAddrBytes (s.port t.port) t.op ∧ 0 < t.addrBytes ∧ t.addr < 256 ^ t.addrBytes ∧ t.partialByte = false ∧ t.sent ≠ [] ∧ (s.port t.port).held = none ∧ (s.port t.port).absorbed = none) :=
  ⟨⟨txT 2 3 0 [1] 0, partT, hostT upT, by unfold hostReady; decide +kernel, by unfold hostDecodes; decide +kernel, by decide +kernel⟩,
   ⟨txT 2 3 0 [1] 0, partT, mapT, cfgT, (hostT upT).modPort 0 fun z_ => { z_ with wel := true }, by unfold hostReady; decide +kernel, by unfold hostDecodes; decide +kernel, by decide +kernel⟩⟩

theorem test_witness_HeldAndAbsorbedOperationsEnd :
    (∃ (p : PortId) (h : Held) (s : State), s.dark = false ∧ (s.port p).resetFirst = false ∧ (s.port p).held2 = none ∧ (s.port p).held = some h ∧ h.phase = .waiting)
    ∧ (∃ (p : PortId) (h : Held) (s : State), s.dark = false ∧ (s.port p).brake = false ∧ (s.port p).suspendNext = false ∧ (s.port p).held2 = none ∧ (s.port p).held = some h ∧ h.phase = .executing)
    ∧ (∃ (p : PortId) (s : State), s.dark = false ∧ (s.port p).brake = true ∧ (s.port p).issuing = false)
    ∧ (∃ (p : PortId) (s : State), (s.port p).brake = true ∧ (s.port p).issuing = true)
    ∧ (∃ (p : PortId) (s : State), s.dark = false ∧ (s.port p).welClearDue = true)
    ∧ (∃ (p : PortId) (s : State), (s.port p).welClearDue = false)
    ∧ (∃ (p : PortId) (s : State), s.dark = false ∧ (s.port p).wipMode = true)
    ∧ (∃ (p : PortId) (a : Absorbed) (s : State), s.dark = false ∧ (s.port p).absorbed2 = none ∧ (s.port p).absorbed = some a ∧ a.left = none)
    ∧ (∃ (p : PortId) (a : Absorbed) (d : Nat) (s : State), s.dark = false ∧ (s.port p).absorbed = some a ∧ a.suspDue = some d)
    ∧ (∃ (p : PortId) (op : Byte) (h : Held) (s : State), s.dark = false ∧ (s.port p).resetFirst = false ∧ (s.port p).suspendDue = some op ∧ (s.port p).held = some h ∧ h.phase = .executing)
    ∧ (∃ (p : PortId) (op : Byte) (h : Held) (s : State), s.dark = false ∧ (s.port p).resetFirst = false ∧ (s.port p).resumeDue = some op ∧ (s.port p).held = some h ∧ (s.port p).held2 = none ∧ h.phase = .suspended)
    ∧ (∃ (p : PortId) (s : State), (s.port p).suspendDue = none)
    ∧ (∃ (p : PortId) (s : State), (s.port p).resumeDue = none)
    ∧ (∃ (p : PortId) (s : State), (s.port p).vdResetDue = true ∧ (s.port p).brake = false)
    ∧ (∃ (p : PortId) (op : Byte) (h : Held) (s : State), (s.port p).brake = false ∧ (s.port p).suspendDue = some op ∧ (s.port p).held2 = none ∧ (s.port p).held = some h ∧ h.phase = .executing) :=
  ⟨⟨0, { heldT with phase := .waiting }, (State.modPort upT (0) fun z_ => { z_ with held2 := none, held := some ({ heldT with phase := .waiting }), vdResetDue := false }), by decide +kernel⟩,
   ⟨0, { heldT with phase := .executing }, (State.modPort upT (0) fun z_ => { z_ with held2 := none, held := some ({ heldT with phase := .executing }), brake := false, suspendDue := none }), by decide +kernel⟩,
   ⟨0, upT, by decide +kernel⟩,
   ⟨0, upT.modPort 0 fun z_ => { z_ with held := some heldT }, by decide +kernel⟩,
   ⟨0, (State.modPort upT (0) fun z_ => { z_ with welClearDue := true }), by decide +kernel⟩,
   ⟨0, (State.modPort upT (0) fun z_ => { z_ with welClearDue := false }), by decide +kernel⟩,
   ⟨0, (State.modPort upT (0) fun z_ => { z_ with wipMode := true }), by decide +kernel⟩,
   ⟨0, absT, (State.modPort upT (0) fun z_ => { z_ with absorbed2 := none, absorbed := some (absT) }), by decide +kernel⟩,
   ⟨0, { absT with suspDue := some 7 }, 7, (State.modPort upT (0) fun z_ => { z_ with absorbed := some ({ absT with suspDue := some 7 }) }), by decide +kernel⟩,
   ⟨0, 0, { heldT with phase := .executing }, (State.modPort upT (0) fun z_ => { z_ with held := some ({ heldT with phase := .executing }), suspendDue := some (0), vdResetDue := false }), by decide +kernel⟩,
   ⟨0, 0, { heldT with phase := .suspended }, (State.modPort upT (0) fun z_ => { z_ with held2 := none, held := some ({ heldT with phase := .suspended }), resumeDue := some (0), vdResetDue := false }), by decide +kernel⟩,
   ⟨0, (State.modPort upT (0) fun z_ => { z_ with suspendDue := none }), by decide +kernel⟩,
   ⟨0, (State.modPort upT (0) fun z_ => { z_ with resumeDue := none }), by decide +kernel⟩,
   ⟨0, (State.modPort upT (0) fun z_ => { z_ with vdResetDue := true, brake := false }), by decide +kernel⟩,
   ⟨0, 0, { heldT with phase := .executing }, (State.modPort upT (0) fun z_ => { z_ with brake := false, suspendDue := some (0), held2 := none, held := some ({ heldT with phase := .executing }) }), by decide +kernel⟩⟩

theorem test_witness_EpochsAreVerified :
    (∃ (p : PortId) (data : List Byte) (t : Tracker) (ts : List Tracker) (v : State) (s : State), s.dark = false ∧ ((s.port p).state = .service ∨ (s.port p).state = .contained) ∧ (s.port p).hcsLow = false ∧ (s.port p).trackers = t :: ts ∧ t.bytes.length < 65536 ∧ t.paused = none ∧ s.completionTransfer p t data.length = some v)
    ∧ (∃ (p : PortId) (data : List Byte) (t : Tracker) (ts : List Tracker) (s : State), (s.port p).trackers = t :: ts ∧ t.bytes.length < 65536 ∧ t.paused = none ∧ s.completionTransfer p t data.length = none)
    ∧ (∃ (p : PortId) (s : State), ((((s.port p).state ≠ .service ∧ (s.port p).state ≠ .contained) ∨ (s.port p).hcsLow = true)))
    ∧ (∃ (p : PortId) (t : Tracker) (s : State), s.dark = false ∧ (s.port p).state = .service ∧ (s.port p).trackers.find? (s.port p).judged = some t)
    ∧ (∃ (p : PortId) (s : State), ((∀ t ∈ (s.port p).trackers, t.complete = false ∨ (s.port p).reloads.contains t.region = true)))
    ∧ (∃ (p : PortId) (t : Tracker) (s : State), s.dark = false ∧ (s.port p).state = .service ∧ (s.port p).nextDue = some t)
    ∧ (∃ (p : PortId) (s : State), (s.port p).nextDue = none) :=
  ⟨⟨0, [], trackT, [], _, (svcT upT).modPort 0 fun z_ => { z_ with trackers := [trackT] }, four (by decide +kernel) ⟨by decide +kernel, by decide +kernel, rfl⟩⟩,
   ⟨0, [], trackT, [], (svcT upT).modPort 0 fun z_ => { z_ with trackers := [trackT], sfdp0 := some { partT with extAddr := true, addr3 := true }, cfg := some cfgT, remap := (false, 0x2000000), map := some mapT }, by decide +kernel⟩,
   ⟨0, upT, by decide +kernel⟩,
   ⟨0, { trackT with bytes := List.replicate 65536 0 }, (svcT upT).modPort 0 fun z_ => { z_ with trackers := [{ trackT with bytes := List.replicate 65536 0 }] }, by decide +kernel, rfl, List.find?_cons_of_pos (judged_of _ _ List.length_replicate rfl rfl)⟩,
   ⟨0, upT, by decide +kernel⟩,
   ⟨0, trackT, (svcT upT).modPort 0 fun z_ => { z_ with trackers := [trackT] }, by decide +kernel⟩,
   ⟨0, upT, by decide +kernel⟩⟩

theorem test_witness_VerdictsAreClassified :
    (∃ (p : PortId) (f : VerdictFail) (rest : List VerdictFail) (s : State), s.dark = false ∧ (s.port p).failures = f :: rest ∧ f.done = false)
    ∧ (∃ (p : PortId) (s : State), (s.port p).failures = [])
    ∧ (∃ (p : PortId) (f : VerdictFail) (rest : List VerdictFail) (i : SlotId) (s : State), (s.port p).failures = f :: rest ∧ f.done = true ∧ s.millerRuns = true ∧ (s.port p).state = .contained ∧ s.classTurn p = true ∧ s.gov.vioHome = true ∧ f.katPass = true ∧ f.r1 = false ∧ f.r2 = some false ∧ (s.port p).source = .slot i)
    ∧ (∃ (p : PortId) (f : VerdictFail) (rest : List VerdictFail) (i : SlotId) (s : State), (s.port p).failures = f :: rest ∧ f.done = true ∧ s.millerRuns = true ∧ (s.port p).state = .contained ∧ s.classTurn p = true ∧ s.gov.vioHome = true ∧ f.katPass = true ∧ (s.port p).source = .slot i ∧ 5 ≤ ((s.port p).transients.filter fun t => decide (f.time < t + 60000000000) && decide (t < f.time)).length)
    ∧ (∃ (p : PortId) (f : VerdictFail) (rest : List VerdictFail) (s : State), (s.port p).failures = f :: rest ∧ f.katPass = true ∧ f.r1 = false ∧ f.r2 = some false ∧ s.gov.vioHome = false)
    ∧ (∃ (p : PortId) (f : VerdictFail) (rest : List VerdictFail) (i : SlotId) (s : State), (s.port p).failures = f :: rest ∧ f.done = true ∧ s.millerRuns = true ∧ (s.port p).state = .contained ∧ s.classTurn p = true ∧ s.gov.vioHome = true ∧ f.katPass = true ∧ f.r1 = false ∧ f.r2 = some false ∧ (s.port p).source = .slot i)
    ∧ (∃ (p : PortId) (f : VerdictFail) (rest : List VerdictFail) (s : State), (s.port p).failures = f :: rest ∧ f.done = true ∧ s.millerRuns = true ∧ (s.port p).state = .contained ∧ s.classTurn p = true ∧ f.katPass = false ∧ ((f.r1 = true ∨ f.r2 = some true)))
    ∧ (∃ (p : PortId) (f : VerdictFail) (rest : List VerdictFail) (s : State), (s.port p).failures = f :: rest ∧ f.done = true ∧ s.millerRuns = true ∧ (s.port p).state = .contained ∧ s.classTurn p = true ∧ f.katPass = true ∧ ((f.r1 = true ∨ f.r2 = some true)) ∧ (s.port p).transients = [])
    ∧ (∃ (p : PortId) (q : PortId) (g : VerdictFail) (gs : List VerdictFail) (s : State), q < p ∧ (s.port q).state = .contained ∧ (s.port q).failures = g :: gs ∧ g.done = true)
    ∧ (∃ (s : State), s.millerRuns = false)
    ∧ (∃ (p : PortId) (s : State), s.millerRuns = true ∧ s.mayLeave p = true)
    ∧ (∃ (p : PortId) (s : State), ((((s.port p).failures ≠ [] ∨ (s.port p).trackers ≠ [] ∨ (s.port p).containBy ≠ []) ∧ (s.port p).causes.contains .lost = false ∨ (s.port p).state ≠ .contained ∨ s.millerRuns = false)))
    ∧ (∃ (p : PortId) (s : State), (s.port p).state = .contained ∧ (s.port p).causes.contains .lost = true ∧ s.millerRuns = true) :=
  ⟨⟨0, { failT with done := false }, [], (State.modPort upT (0) fun z_ => { z_ with failures := ({ failT with done := false }) :: ([]) }), by decide +kernel⟩,
   ⟨0, (State.modPort upT (0) fun z_ => { z_ with failures := [] }), by decide +kernel⟩,
   ⟨0, { failT with r1 := false, r2 := some false }, [], .a, (State.modPort { upT with gov.vioHome := true } (0) fun z_ => { z_ with failures := ({ failT with r1 := false, r2 := some false }) :: ([]), state := .contained, source := .slot (.a) }), by decide +kernel⟩,
   ⟨0, { failT with time := 5 }, [], .a, upT.modPort 0 fun z_ => { z_ with state := .contained, source := .slot .a, failures := [{ failT with time := 5 }], transients := [0, 1, 2, 3, 4] }, by decide +kernel⟩,
   ⟨0, { failT with r1 := false, r2 := some false }, [], { upT with gov.vioHome := false }.modPort 0 fun z_ => { z_ with failures := [{ failT with r1 := false, r2 := some false }] }, by decide +kernel⟩,
   ⟨0, { failT with r1 := false, r2 := some false }, [], .a, upT.modPort 0 fun z_ => { z_ with state := .contained, source := .slot .a, failures := [{ failT with r1 := false, r2 := some false }] }, by decide +kernel⟩,
   ⟨0, { failT with katPass := false }, [], upT.modPort 0 fun z_ => { z_ with state := .contained, source := .slot .a, failures := [{ failT with katPass := false }] }, by decide +kernel⟩,
   ⟨0, failT, [], (State.modPort upT (0) fun z_ => { z_ with failures := (failT) :: ([]), state := .contained, transients := [] }), by decide +kernel⟩,
   ⟨1, 0, failT, [], upT.modPort 0 fun z_ => { z_ with state := .contained, failures := [failT] }, by decide +kernel⟩,
   ⟨State.reset, by decide +kernel⟩,
   ⟨0, upT.modPort 0 fun z_ => { z_ with state := .contained }, by decide +kernel⟩,
   ⟨0, upT, by decide +kernel⟩,
   ⟨0, upT.modPort 0 fun z_ => { z_ with state := .contained, causes := [.lost] }, by decide +kernel⟩⟩

theorem test_witness_ScrubAndStonesRun :
    (∃ (n : Nat) (g : Granule) (p : PortId) (s : State), s.dark = false ∧ s.pond.nextScrub = some (n, g) ∧ g.hold = none ∧ g.owner = some p ∧ tblGet s.pond.granules n = some g ∧ (s.port p).source ≠ .adapter)
    ∧ (∃ (data : List Byte) (n : Nat) (g : Granule) (p : PortId) (s : State), s.dark = false ∧ s.pond.nextScrub = some (n, g) ∧ g.hold = none ∧ g.owner = some p ∧ tblGet s.pond.granules n = some g ∧ (s.port p).source = .adapter ∧ g.digest ≠ some (leafDigest data))
    ∧ (∃ (s : State), s.pond.nextScrub = none)
    ∧ (∃ (s : State), s.dark = false ∧ s.pond.nextScrub = none)
    ∧ (∃ (n : Fin 12288) (g : Granule) (d : D256) (p : PortId) (v : State) (s : State), s.dark = false ∧ tblGet s.pond.granules n.val = some g ∧ g.owner = some p ∧ g.state = .invalid ∧ g.digest = some d ∧ ((s.port p).state = .measuring → s.armFree p = true) ∧ s.devRead p (s.port p).activeCs ((s.port p).activeBase + g.va) 4096 (s.port p).halfRate = some v)
    ∧ (∃ (n : Fin 12288) (g : Granule) (p : PortId) (s : State), tblGet s.pond.granules n.val = some g ∧ g.owner = some p ∧ s.devRead p (s.port p).activeCs ((s.port p).activeBase + g.va) 4096 (s.port p).halfRate = none)
    ∧ (∃ (n : Fin 12288) (s : State), tblGet s.pond.granules n.val = none)
    ∧ (∃ (n : Fin 32) (s : State), (s.fab.stones[n]).inService = true ∧ s.fab.queue = [] ∧ s.dark = false)
    ∧ (∃ (k : Nat), 0 < k)
    ∧ (∃ (n : Fin 32) (s : State), (s.fab.stones[n]).inService = true ∧ s.stoneOn n = true ∧ s.dark = false ∧ s.fab.queue = [] ∧ (s.fab.stones[n]).busy = none)
    ∧ (∃ (n : Fin 32) (s : State), (s.fab.stones[n]).inService = true ∧ s.stoneOn n = true ∧ s.dark = false ∧ s.fab.queue = [] ∧ (s.fab.stones[n]).busy = none)
    ∧ (∃ (n : Fin 32) (b : Block) (s : State), (s.fab.stones[n]).inService = true ∧ s.dark = false ∧ s.fab.queue = [] ∧ (s.fab.stones[n]).busy = some b ∧ b.src ≠ BlockSource.stone n ∧ b.n = 1 ∧ (recent s.now 60000000000 (s.fab.stones[n]).transients).length ≤ 4)
    ∧ (∃ (n : Fin 32) (b : Block) (retest : Bool) (s : State), (s.fab.stones[n]).inService = true ∧ s.dark = false ∧ s.fab.queue = [] ∧ (s.fab.stones[n]).busy = some b ∧ b.src ≠ BlockSource.stone n ∧ b.n = 1 ∧ ((retest = false ∨ 4 < (recent s.now 60000000000 (s.fab.stones[n]).transients).length)))
    ∧ (∃ (n : Fin 32) (s : State), ((s.fab.stones[n]).inService = false ∨ (s.fab.stones[n]).busy = none))
    ∧ (∃ (b : Block) (due : Nat) (s : State), s.dark = false ∧ s.fab.queue = [b] ∧ 1 < b.cls ∧ due = b.born + 1000000 ∧ (∀ n : Fin 32, s.stoneOn n = false))
    ∧ (∃ (s : State), s.fab.queue = []) :=
  ⟨⟨12287, granT, _, { upT with pond.granules := [(12287, granT)] }, by decide +kernel, by decide +kernel, by decide +kernel, rfl, by decide +kernel⟩,
   ⟨[], 12287, granT, 0, { upT with pond.granules := [(12287, granT)] }.modPort 0 fun z_ => { z_ with source := .adapter }, by decide +kernel⟩,
   ⟨upT, by decide +kernel⟩,
   ⟨upT, by decide +kernel⟩,
   ⟨12287, { granT with state := .invalid, digest := some 0 }, 0, 0, _, { upT with pond.granules := [(12287, { granT with state := .invalid, digest := some 0 })] }, four (by decide +kernel) ⟨by decide +kernel, by decide +kernel, rfl⟩⟩,
   ⟨12287, granT, 0, { upT with pond.granules := [(12287, granT)] }.modPort 0 fun z_ => { z_ with sfdp0 := some partT, cfg := some cfgT, remap := (false, 0x2000000), brake := false }, by decide +kernel⟩,
   ⟨0, upT, by decide +kernel⟩,
   ⟨0, (State.modStone { upT with fab.queue := [] } (0) fun z_ => { z_ with inService := true }), by decide +kernel⟩,
   ⟨1, by decide +kernel⟩,
   ⟨0, (State.modStone (State.modStone { { upT with dge.ctx := Vector.replicate 16 { ({} : Context) with state := .opened } } with fab.queue := [] } (0) fun z_ => { z_ with inService := true }) (0) fun z_ => { z_ with busy := none }), by decide +kernel⟩,
   ⟨0, (State.modStone (State.modStone { { upT with dge.ctx := Vector.replicate 16 { ({} : Context) with state := .opened } } with fab.queue := [] } (0) fun z_ => { z_ with inService := true }) (0) fun z_ => { z_ with busy := none }), by decide +kernel⟩,
   ⟨0, blockT, upT.modStone 0 fun z_ => { z_ with busy := some blockT }, by decide +kernel⟩,
   ⟨0, blockT, false, { upT with fab.stones := (Vector.replicate 32 { inService := false }).set 0 { busy := some blockT } }, by decide +kernel⟩,
   ⟨0, (State.modStone upT (0) fun z_ => { z_ with inService := false }), by decide +kernel⟩,
   ⟨blockT, 1000000, { upT with fab.queue := [blockT], gov.dom := Vector.replicate 24 .off }, by decide +kernel⟩,
   ⟨{ upT with fab.queue := [] }, by decide +kernel⟩⟩

theorem test_witness_SlotsAreMeasuredAndRepaired :
    (∃ (p : PortId) (i : SlotId) (settingsOk : Bool) (c : PortCfg) (s : State), (s.slot p i).state = .committed ∧ s.stores settingsOk = true ∧ s.millerRuns = true ∧ (s.port p).state = .service ∧ s.cfgInForce p = some c ∧ c.preload = false)
    ∧ (∃ (p : PortId) (i : SlotId) (s : State), (s.slot p i).state ≠ .committed)
    ∧ (∃ (settingsOk : Bool) (s : State), s.stores settingsOk = false)
    ∧ (∃ (b : Nat) (x : Transfer) (s : State), s.dark = false ∧ s.hop.current = some x ∧ x.arrived b = true ∧ b ∉ x.complete ∧ s.writesHeld x = false)
    ∧ (∃ (b : Nat) (x : Transfer) (s : State), s.hop.current = some x ∧ ((x.arrived b = false ∨ s.writesHeld x = true)))
    ∧ (∃ (s : State), s.hop.current = none)
    ∧ (∃ (p : PortId) (i : SlotId) (settingsOk : Bool) (c : PortCfg) (m : MillMap) (s : State), s.cfgInForce p = some c ∧ (s.port p).map = some m ∧ (s.port p).source = .golden ∧ c.autoRepair = true ∧ i ≠ .g ∧ (s.slot p i).state = .retired ∧ (s.slot p i).tries < 3 ∧ s.stores settingsOk = true ∧ s.millerRuns = true ∧ (s.port p).state = .substitute ∧ (s.port p).intake = [] ∧ s.repairReaches p c i m = true)
    ∧ (∃ (p : PortId) (i : SlotId) (source : SlotImage) (settingsOk : Bool) (c : PortCfg) (m : MillMap) (k : Nat) (l : Nat) (v : State) (s : State), s.cfgInForce p = some c ∧ (s.port p).map = some m ∧ c.autoRepair = true ∧ i ≠ .g ∧ (s.slot p i).state = .retired ∧ (s.slot p i).tries < 3 ∧ s.stores settingsOk = true ∧ s.millerRuns = true ∧ (s.port p).state = .service ∧ s.writesForbidden p c i = false ∧ s.stir.repairReaches p c i m = true ∧ s.stir.repairReads p m = some v ∧ s.repairBadLeaf p (s.repairContent p m source) = some (k, l))
    ∧ (∃ (p : PortId) (i : SlotId) (settingsOk : Bool) (c : PortCfg) (m : MillMap) (s : State), s.cfgInForce p = some c ∧ (s.port p).map = some m ∧ c.autoRepair = true ∧ i ≠ .g ∧ (s.slot p i).state = .retired ∧ (s.slot p i).tries < 3 ∧ s.stores settingsOk = true ∧ s.millerRuns = true ∧ (s.port p).state = .service ∧ s.stir.repairReaches p c i m = true ∧ s.writesForbidden p c i = true) :=
  ⟨⟨0, .b, true, cfgT, (cfgS (svcT upT) cfgB).modSlot 0 .b fun z_ => { z_ with state := .committed }, by decide +kernel⟩,
   ⟨0, .a, upT, by decide +kernel⟩,
   ⟨false, upT, by decide +kernel⟩,
   ⟨0, { transT with kind := .firmware, len := 4, got := [0, 1, 2, 3] }, { upT with hop.current := some { transT with kind := .firmware, len := 4, got := [0, 1, 2, 3] } }, by decide +kernel⟩,
   ⟨0, transT, { upT with hop.current := some (transT) }, by decide +kernel⟩,
   ⟨{ upT with hop.current := none }, by decide +kernel⟩,
   ⟨0, .b, true, portCfgOf (putT cfgB 35 [1]), mapT, (repairT 1 mapB upT).modPort 0 fun z_ => { z_ with state := .substitute, source := .golden, map := some mapT }, by decide +kernel⟩,
   ⟨0, .b, ⟨[], []⟩, true, portCfgOf (putT cfgB 35 [5]), { mapT with regions := [{ regionT with policy := 2, len := 65536, leafCount := 1 }] }, 0, 0, _, (repairT 5 mapB upT).modPort 0 fun z_ => { z_ with state := .service, source := .slot .a, cfg := some (portCfgOf (putT cfgB 35 [5])), map := some ({ mapT with regions := [{ regionT with policy := 2, len := 65536, leafCount := 1 }] }) }, four (by decide +kernel) (four (by decide +kernel) ⟨by decide +kernel, by decide +kernel, by decide +kernel, rfl, by decide +kernel⟩)⟩,
   ⟨0, .b, true, portCfgOf (putT cfgB 35 [1]), { mapT with regions := [{ regionT with policy := 2, len := 65536, leafCount := 1 }] }, (repairT 1 mapB upT).modPort 0 fun z_ => { z_ with state := .service, source := .slot .a, cfg := some (portCfgOf (putT cfgB 35 [1])), map := some ({ mapT with regions := [{ regionT with policy := 2, len := 65536, leafCount := 1 }] }) }, by decide +kernel⟩⟩

theorem test_witness_SubstitutesAreMeasuredOrTimeOut :
    (∃ (p : PortId) (m : MillMap) (k : Nat) (s : State), (s.port p).state = .measuring ∧ (s.port p).source = .golden ∧ (s.port p).armMap = some m ∧ s.armFree p = true ∧ (s.port p).captured = true ∧ s.gov.vioHome = true ∧ (s.port p).option = some k ∧ s.dark = false)
    ∧ (∃ (p : PortId) (s : State), (((s.port p).captured = false ∨ s.armFree p = false)))
    ∧ (∃ (p : PortId) (due : Nat) (s : State), s.millerRuns = true ∧ (s.port p).substDue = some due ∧ s.substTransfer p = true ∧ s.hop.suspended = none ∧ (∀ q : PortId, (s.port q).devOp = none))
    ∧ (∃ (p : PortId) (s : State), (((s.port p).substDue = none ∨ s.millerRuns = false))) :=
  ⟨⟨0, mapT, 0, upT.modPort 0 fun z_ => { z_ with state := .measuring, source := .golden, armMap := some mapT, option := some 0 }, by decide +kernel⟩,
   ⟨0, upT.modPort 0 fun z_ => { z_ with containBy := [3] }, .inr (by decide +kernel)⟩,
   ⟨0, 7, { upT.modPort 0 fun z_ => { z_ with substDue := some 7 } with hop.current := some { transT with kind := .substitute 0 } }, by decide +kernel⟩,
   ⟨0, (State.modPort upT (0) fun z_ => { z_ with substDue := none }), by decide +kernel⟩⟩

theorem test_witness_MailboxHandshake :
    (∃ (s : State), s.executing = none)
    ∧ (∃ (m : MbxId) (s : State), s.aonb.backup = false ∧ s.mbxTakes m = true ∧ (s.mbox m).busy = true)
    ∧ (∃ (m : MbxId) (s : State), s.aonb.backup = false ∧ s.mbxTakes m = true ∧ s.mil.running = none)
    ∧ (∃ (m : MbxId) (s : State), (s.aonb.backup = true ∨ s.mbxTakes m = false))
    ∧ (∃ (m : MbxId) (raw : List Byte) (s : State), s.aonb.backup = false ∧ s.mbxTakes m = true ∧ (s.mbox m).busy = false ∧ (s.mbox m).ready = false ∧ s.serves = true ∧ raw = memReads (s.mbox m).req 0 (mbxSize m))
    ∧ (∃ (m : MbxId) (rest : List MbxId) (r : Request) (a : Response) (s : State), s.mbx.order = m :: rest ∧ (s.mbox m).accepted = some r ∧ r.result = some a ∧ s.serves = true ∧ r.epoch = s.fan.epoch ∧ s.mbx.spdm = [] ∧ memWf (s.mbox m).rsp = true)
    ∧ (∃ (m : MbxId) (rest : List MbxId) (r : Request) (a : Response) (s : State), s.mbx.order = m :: rest ∧ (s.mbox m).accepted = some r ∧ r.result = some a ∧ s.serves = true ∧ r.epoch ≠ s.fan.epoch ∧ s.mbx.spdm = [])
    ∧ (∃ (s : State), s.mbx.order = [] ∧ s.mbx.spdm = [])
    ∧ (∃ (m : MbxId) (s : State), s.aonb.backup = false ∧ s.mbxTakes m = true ∧ (s.mbox m).ready = true ∧ (s.mbox m).ring = false ∧ ((m ≠ .owner ∨ s.mbx.resetDue = false)))
    ∧ (∃ (s : State), s.mbxTakes .owner = true ∧ s.mbx.owner.ready = true ∧ s.mbx.resetDue = true)
    ∧ (∃ (m : MbxId) (s : State), s.aonb.backup = false ∧ s.mbxTakes m = true ∧ (s.mbox m).ready = false) :=
  ⟨⟨upT, by decide +kernel⟩,
   ⟨.owner, (modMbox { upT with aonb.backup := false, fan.owner := some .m0 } (.owner) fun z_ => { z_ with busy := true }), by decide +kernel⟩,
   ⟨.owner, { upT with mil.running := none, fan.owner := some .m0 }, by decide +kernel⟩,
   ⟨.owner, { upT with aonb.backup := true }, by decide +kernel⟩,
   ⟨.owner, memReads (upT.mbox .owner).req 0 (mbxSize .owner), { upT with fan.owner := some .m0 }, rfl, rfl, rfl, rfl, rfl, rfl⟩,
   ⟨.owner, [], { cmd := 1, seq := 0, epoch := 0, token := [], body := [], authDigest := 0, authorized := false, time := 0, ownFault := false, result := some (answer 0) }, answer 0, exeT .owner ({ cmd := 1, seq := 0, epoch := 0, token := [], body := [], authDigest := 0, authorized := false, time := 0, ownFault := false, result := some (answer 0) }) upT, by decide +kernel⟩,
   ⟨.owner, [], { cmd := 1, seq := 0, epoch := 1, token := [], body := [], authDigest := 0, authorized := false, time := 0, ownFault := false, result := some (answer 0) }, answer 0, exeT .owner ({ cmd := 1, seq := 0, epoch := 1, token := [], body := [], authDigest := 0, authorized := false, time := 0, ownFault := false, result := some (answer 0) }) upT, by decide +kernel⟩,
   ⟨{ upT with mbx.order := [], mbx.spdm := [] }, by decide +kernel⟩,
   ⟨.owner, (modMbox { upT with aonb.backup := false, fan.owner := some .m0 } (.owner) fun z_ => { z_ with ready := true, ring := false }), by decide +kernel⟩,
   ⟨{ upT with fan.owner := some .m0, mbx.owner.ready := true, mbx.resetDue := true }, by decide +kernel⟩,
   ⟨.owner, (modMbox { upT with aonb.backup := false, fan.owner := some .m0 } (.owner) fun z_ => { z_ with ready := false }), by decide +kernel⟩⟩

theorem test_witness_QueriesAnswerTheirLayouts :
    (∃ (m : MbxId) (r : Request) (s : State), executes s m r 1 ∧ r.body = [])
    ∧ (∃ (m : MbxId) (r : Request) (p : PortId) (s : State), executes s m r 2 ∧ r.body.length = 4 ∧ portOf (field r.body 0 1) = some p ∧ zeros r.body 1 3 = true)
    ∧ (∃ (m : MbxId) (r : Request) (p : PortId) (s : State), executes s m r 3 ∧ r.body.length = 4 ∧ portOf (field r.body 1 1) = some p ∧ field r.body 0 1 ≤ 3)
    ∧ (∃ (m : MbxId) (r : Request) (p : PortId) (i : SlotId) (s : State), executes s m r 4 ∧ r.body.length = 8 ∧ portOf (field r.body 0 1) = some p ∧ slotOf (field r.body 1 1) = some i ∧ zeros r.body 2 2 = true)
    ∧ (∃ (m : MbxId) (r : Request) (s : State), executes s m r 5 ∧ r.body = [])
    ∧ (∃ (m : MbxId) (r : Request) (s : State), executes s m r 6 ∧ r.body = [] ∧ s.hop.current = none)
    ∧ (∃ (m : MbxId) (r : Request) (x : Transfer) (s : State), executes s m r 6 ∧ r.body = [] ∧ s.hop.current = some x) :=
  ⟨⟨.owner, { cmd := 1, seq := 0, epoch := 0, token := [], body := [], authDigest := 0, authorized := false, time := 0, ownFault := false, result := none }, (exeT (.owner) ({ cmd := 1, seq := 0, epoch := 0, token := [], body := [], authDigest := 0, authorized := false, time := 0, ownFault := false, result := none }) upT), by unfold executes; decide +kernel, by decide +kernel⟩,
   ⟨.owner, { cmd := 2, seq := 0, epoch := 0, token := [], body := List.replicate 4 0, authDigest := 0, authorized := false, time := 0, ownFault := false, result := none }, _, (exeT (.owner) ({ cmd := 2, seq := 0, epoch := 0, token := [], body := List.replicate 4 0, authDigest := 0, authorized := false, time := 0, ownFault := false, result := none }) upT), by unfold executes; decide +kernel, by decide +kernel, rfl, by decide +kernel⟩,
   ⟨.owner, { cmd := 3, seq := 0, epoch := 0, token := [], body := List.replicate 4 0, authDigest := 0, authorized := false, time := 0, ownFault := false, result := none }, _, (exeT (.owner) ({ cmd := 3, seq := 0, epoch := 0, token := [], body := List.replicate 4 0, authDigest := 0, authorized := false, time := 0, ownFault := false, result := none }) upT), by unfold executes; decide +kernel, by decide +kernel, rfl, by decide +kernel⟩,
   ⟨.owner, { cmd := 4, seq := 0, epoch := 0, token := [], body := List.replicate 8 0, authDigest := 0, authorized := false, time := 0, ownFault := false, result := none }, _, _, (exeT (.owner) ({ cmd := 4, seq := 0, epoch := 0, token := [], body := List.replicate 8 0, authDigest := 0, authorized := false, time := 0, ownFault := false, result := none }) upT), by unfold executes; decide +kernel, by decide +kernel, rfl, rfl, by decide +kernel⟩,
   ⟨.owner, { cmd := 5, seq := 0, epoch := 0, token := [], body := [], authDigest := 0, authorized := false, time := 0, ownFault := false, result := none }, (exeT (.owner) ({ cmd := 5, seq := 0, epoch := 0, token := [], body := [], authDigest := 0, authorized := false, time := 0, ownFault := false, result := none }) upT), by unfold executes; decide +kernel, by decide +kernel⟩,
   ⟨.owner, { cmd := 6, seq := 0, epoch := 0, token := [], body := [], authDigest := 0, authorized := false, time := 0, ownFault := false, result := none }, { (exeT (.owner) ({ cmd := 6, seq := 0, epoch := 0, token := [], body := [], authDigest := 0, authorized := false, time := 0, ownFault := false, result := none }) upT) with hop.current := none }, by unfold executes; decide +kernel, by decide +kernel⟩,
   ⟨.owner, { cmd := 6, seq := 0, epoch := 0, token := [], body := [], authDigest := 0, authorized := false, time := 0, ownFault := false, result := none }, transT, { (exeT (.owner) ({ cmd := 6, seq := 0, epoch := 0, token := [], body := [], authDigest := 0, authorized := false, time := 0, ownFault := false, result := none }) upT) with hop.current := some (transT) }, by unfold executes; decide +kernel, by decide +kernel⟩⟩

theorem test_witness_NonceObjectAndSealCommands :
    (∃ (m : MbxId) (r : Request) (s : State), executes s m r 0x0101 ∧ r.body = [] ∧ s.drbg.failed = false)
    ∧ (∃ (m : MbxId) (r : Request) (s : State), executes s m r 0x0101 ∧ r.body = [] ∧ s.drbg.failed = true)
    ∧ (∃ (m : MbxId) (r : Request) (off : Nat) (s : State), executes s m r 0x0102 ∧ 4 ≤ r.body.length ∧ field r.body 0 4 = off ∧ off % 4 = 0 ∧ off + (r.body.length - 4) ≤ 32768 ∧ memWf s.mbx.object = true)
    ∧ (∃ (m : MbxId) (r : Request) (s : State), executes s m r 0x0102 ∧ 4 ≤ r.body.length ∧ field r.body 0 4 % 4 ≠ 0)
    ∧ (∃ (m : MbxId) (r : Request) (s : State), executes s m r 0x0103 ∧ r.body = [])
    ∧ (∃ (m : MbxId) (r : Request) (k : BitVec 256) (s : State), executes s m r 0x0104 ∧ 9 ≤ r.body.length ∧ r.body.length ≤ 1032 ∧ bindOk r.body 0 = true ∧ s.aonb.sealKey = some k ∧ s.drbg.failed = false)
    ∧ (∃ (m : MbxId) (r : Request) (s : State), executes s m r 0x0105 ∧ s.aonb.sealKey = none)
    ∧ (∃ (m : MbxId) (r : Request) (k : BitVec 256) (s : State), executes s m r 0x0105 ∧ s.aonb.sealKey = some k ∧ blobOk r.body = true) :=
  ⟨⟨.owner, { cmd := 0x0101, seq := 0, epoch := 0, token := [], body := [], authDigest := 0, authorized := false, time := 0, ownFault := false, result := none }, { (exeT (.owner) ({ cmd := 0x0101, seq := 0, epoch := 0, token := [], body := [], authDigest := 0, authorized := false, time := 0, ownFault := false, result := none }) upT) with drbg.failed := false }, by unfold executes; decide +kernel, by decide +kernel⟩,
   ⟨.owner, { cmd := 0x0101, seq := 0, epoch := 0, token := [], body := [], authDigest := 0, authorized := false, time := 0, ownFault := false, result := none }, { (exeT (.owner) ({ cmd := 0x0101, seq := 0, epoch := 0, token := [], body := [], authDigest := 0, authorized := false, time := 0, ownFault := false, result := none }) upT) with drbg.failed := true }, by unfold executes; decide +kernel, by decide +kernel⟩,
   ⟨.owner, { cmd := 0x0102, seq := 0, epoch := 0, token := [], body := leBytes 4 32764 ++ [1, 2, 3, 4], authDigest := 0, authorized := false, time := 0, ownFault := false, result := none }, 32764, (exeT (.owner) ({ cmd := 0x0102, seq := 0, epoch := 0, token := [], body := leBytes 4 32764 ++ [1, 2, 3, 4], authDigest := 0, authorized := false, time := 0, ownFault := false, result := none }) upT), by unfold executes; decide +kernel, by decide +kernel⟩,
   ⟨.owner, { cmd := 0x0102, seq := 0, epoch := 0, token := [], body := [1, 0, 0, 0], authDigest := 0, authorized := false, time := 0, ownFault := false, result := none }, (exeT (.owner) ({ cmd := 0x0102, seq := 0, epoch := 0, token := [], body := [1, 0, 0, 0], authDigest := 0, authorized := false, time := 0, ownFault := false, result := none }) upT), by unfold executes; decide +kernel, by decide +kernel⟩,
   ⟨.owner, { cmd := 0x0103, seq := 0, epoch := 0, token := [], body := [], authDigest := 0, authorized := false, time := 0, ownFault := false, result := none }, (exeT (.owner) ({ cmd := 0x0103, seq := 0, epoch := 0, token := [], body := [], authDigest := 0, authorized := false, time := 0, ownFault := false, result := none }) upT), by unfold executes; decide +kernel, by decide +kernel⟩,
   ⟨.owner, { cmd := 0x0104, seq := 0, epoch := 0, token := [], body := zT 8 ++ [7], authDigest := 0, authorized := false, time := 0, ownFault := false, result := none }, 5, { (exeT (.owner) ({ cmd := 0x0104, seq := 0, epoch := 0, token := [], body := zT 8 ++ [7], authDigest := 0, authorized := false, time := 0, ownFault := false, result := none }) upT) with aonb.sealKey := some (5), drbg.failed := false }, by unfold executes; decide +kernel, by decide +kernel⟩,
   ⟨.owner, { cmd := 0x0105, seq := 0, epoch := 0, token := [], body := [], authDigest := 0, authorized := false, time := 0, ownFault := false, result := none }, { (exeT (.owner) ({ cmd := 0x0105, seq := 0, epoch := 0, token := [], body := [], authDigest := 0, authorized := false, time := 0, ownFault := false, result := none }) upT) with aonb.sealKey := none }, by unfold executes; decide +kernel, by decide +kernel⟩,
   ⟨.owner, { cmd := 0x0105, seq := 0, epoch := 0, token := [], body := leBytes 4 0x45534E59 ++ [1, 0, 1, 0] ++ zT 57, authDigest := 0, authorized := false, time := 0, ownFault := false, result := none }, 5, { (exeT (.owner) ({ cmd := 0x0105, seq := 0, epoch := 0, token := [], body := leBytes 4 0x45534E59 ++ [1, 0, 1, 0] ++ zT 57, authDigest := 0, authorized := false, time := 0, ownFault := false, result := none }) upT) with aonb.sealKey := some (5) }, by unfold executes; decide +kernel, by decide +kernel⟩⟩

theorem test_witness_TransferAndStagingCommands :
    (∃ (m : MbxId) (r : Request) (x : Transfer) (s : State), executes s m r 0x0106 ∧ bulkHeaderOk r.body = true ∧ zeros r.body 2 2 = true ∧ s.hop.current = some x ∧ x.id = field r.body 0 2 ∧ s.hop.takes (field r.body 0 2) (field r.body 4 4) (r.body.drop 8) = true)
    ∧ (∃ (m : MbxId) (r : Request) (s : State), executes s m r 0x0106 ∧ bulkHeaderOk r.body = true ∧ zeros r.body 2 2 = true ∧ s.hop.current = none)
    ∧ (∃ (s : State), s.bulkWaits = true)
    ∧ (∃ (m : MbxId) (r : Request) (x : Transfer) (p : PortId) (i : SlotId) (s : State), executes s m r 0x0107 ∧ r.body.length = 4 ∧ zeros r.body 2 2 = true ∧ s.hop.current = some x ∧ x.id = field r.body 0 2 ∧ x.kind = .slot p i)
    ∧ (∃ (m : MbxId) (r : Request) (p : PortId) (w : Region) (c : PortCfg) (s : State), executes s m r 0x0301 ∧ r.body.length = 8 ∧ portOf (field r.body 0 1) = some p ∧ zeros r.body 1 3 = true ∧ (s.port p).state = .service ∧ (s.port p).window = some w ∧ (s.port p).cfg = some c ∧ s.hop.onSlot p (s.standbySlot p) = false ∧ field r.body 4 4 % 4096 = 0 ∧ field r.body 4 4 + w.len ≤ c.v ∧ s.gov.vioHome = true)
    ∧ (∃ (m : MbxId) (r : Request) (p : PortId) (w : Region) (c : PortCfg) (s : State), executes s m r 0x0301 ∧ r.body.length = 8 ∧ portOf (field r.body 0 1) = some p ∧ zeros r.body 1 3 = true ∧ (s.port p).state = .service ∧ (s.port p).window = some w ∧ (s.port p).cfg = some c ∧ s.hop.onSlot p (s.standbySlot p) = false ∧ field r.body 4 4 % 4096 = 0 ∧ field r.body 4 4 + w.len ≤ c.v)
    ∧ (∃ (m : MbxId) (r : Request) (p : PortId) (o : Nat) (s : State), executes s m r 0x0108 ∧ portBody r.body = some (some p) ∧ (s.port p).staging = some o ∧ s.gov.vioHome = true)
    ∧ (∃ (m : MbxId) (r : Request) (p : PortId) (o : Nat) (s : State), executes s m r 0x0109 ∧ portBody r.body = some (some p) ∧ (s.port p).staging = some o ∧ s.gov.vioHome = true) :=
  ⟨⟨.owner, { cmd := 0x0106, seq := 0, epoch := 0, token := [], body := [1, 0, 0, 0] ++ zT 8, authDigest := 0, authorized := false, time := 0, ownFault := false, result := none }, transT, { (exeT (.owner) ({ cmd := 0x0106, seq := 0, epoch := 0, token := [], body := [1, 0, 0, 0] ++ zT 8, authDigest := 0, authorized := false, time := 0, ownFault := false, result := none }) upT) with hop.current := some (transT) }, by unfold executes; decide +kernel, by decide +kernel⟩,
   ⟨.owner, { cmd := 0x0106, seq := 0, epoch := 0, token := [], body := zT 12, authDigest := 0, authorized := false, time := 0, ownFault := false, result := none }, { (exeT (.owner) ({ cmd := 0x0106, seq := 0, epoch := 0, token := [], body := zT 12, authDigest := 0, authorized := false, time := 0, ownFault := false, result := none }) upT) with hop.current := none }, by unfold executes; decide +kernel, by decide +kernel⟩,
   ⟨{ exeT .owner { cmd := 0x0106, seq := 0, epoch := 0, token := [], body := [1, 0, 0, 0] ++ leBytes 4 0x200000 ++ [1, 2, 3, 4], authDigest := 0, authorized := false, time := 0, ownFault := false, result := none } upT with hop.current := some (fullT 0x200000) }, full_waits _ (Nat.le_refl _) _ _ _ rfl rfl (by decide +kernel) (by decide +kernel) (by decide +kernel) rfl rfl⟩,
   ⟨.owner, { cmd := 0x0107, seq := 0, epoch := 0, token := [], body := [1, 0, 0, 0], authDigest := 0, authorized := false, time := 0, ownFault := false, result := none }, transT, 0, .b, { (exeT (.owner) ({ cmd := 0x0107, seq := 0, epoch := 0, token := [], body := [1, 0, 0, 0], authDigest := 0, authorized := false, time := 0, ownFault := false, result := none }) upT) with hop.current := some (transT) }, by unfold executes; decide +kernel, by decide +kernel⟩,
   ⟨.owner, { cmd := 0x0301, seq := 0, epoch := 0, token := [], body := [0, 0, 0, 0] ++ leBytes 4 0xFF000, authDigest := 0, authorized := false, time := 0, ownFault := false, result := none }, _, { regionT with policy := 5 }, cfgT, (svcT (exeT (.owner) ({ cmd := 0x0301, seq := 0, epoch := 0, token := [], body := [0, 0, 0, 0] ++ leBytes 4 0xFF000, authDigest := 0, authorized := false, time := 0, ownFault := false, result := none }) upT)).modPort 0 fun z_ => { z_ with cfg := some cfgT, map := some { mapT with regions := [{ regionT with policy := 5 }] } }, by unfold executes; decide +kernel, by decide +kernel, rfl, by decide +kernel⟩,
   ⟨.owner, { cmd := 0x0301, seq := 0, epoch := 0, token := [], body := [0, 0, 0, 0] ++ leBytes 4 0xFF000, authDigest := 0, authorized := false, time := 0, ownFault := false, result := none }, _, { regionT with policy := 5 }, cfgT, (svcT (exeT (.owner) ({ cmd := 0x0301, seq := 0, epoch := 0, token := [], body := [0, 0, 0, 0] ++ leBytes 4 0xFF000, authDigest := 0, authorized := false, time := 0, ownFault := false, result := none }) upT)).modPort 0 fun z_ => { z_ with cfg := some cfgT, map := some { mapT with regions := [{ regionT with policy := 5 }] } }, by unfold executes; decide +kernel, by decide +kernel, rfl, by decide +kernel⟩,
   ⟨.owner, { cmd := 0x0108, seq := 0, epoch := 0, token := [], body := zT 4, authDigest := 0, authorized := false, time := 0, ownFault := false, result := none }, 0, 0, (State.modPort { (exeT (.owner) ({ cmd := 0x0108, seq := 0, epoch := 0, token := [], body := zT 4, authDigest := 0, authorized := false, time := 0, ownFault := false, result := none }) upT) with gov.vioHome := true } (0) fun z_ => { z_ with staging := some (0) }), by unfold executes; decide +kernel, by decide +kernel⟩,
   ⟨.owner, { cmd := 0x0109, seq := 0, epoch := 0, token := [], body := zT 4, authDigest := 0, authorized := false, time := 0, ownFault := false, result := none }, 0, 0, (State.modPort { (exeT (.owner) ({ cmd := 0x0109, seq := 0, epoch := 0, token := [], body := zT 4, authDigest := 0, authorized := false, time := 0, ownFault := false, result := none }) upT) with gov.vioHome := true } (0) fun z_ => { z_ with staging := some (0) }), by unfold executes; decide +kernel, by decide +kernel⟩⟩

theorem test_witness_ResetCommands :
    (∃ (m : MbxId) (r : Request) (p : PortId) (s : State), executes s m r 0x010A ∧ portBody r.body = some (some p) ∧ (s.port p).state ≠ .isolated)
    ∧ (∃ (m : MbxId) (r : Request) (p : PortId) (s : State), executes s m r 0x010A ∧ portBody r.body = some (some p) ∧ (s.port p).state = .isolated)
    ∧ (∃ (m : MbxId) (r : Request) (s : State), executes s m r 0x010B ∧ r.body = [])
    ∧ (∃ (s : State), s.mbx.resetDue = true ∧ s.mbx.owner.accepted = none ∧ s.dark = false ∧ s.mon.resetDue = false)
    ∧ (∃ (s : State), s.mbx.resetDue = false)
    ∧ (∃ (s : State), s.mbx.resetDue = true ∧ s.mbx.owner.accepted = none ∧ s.dark = false)
    ∧ (∃ (m : MbxId) (r : Request) (s : State), executes s m r 0x010C ∧ r.body = [] ∧ (s.mbox m).busy = true) :=
  ⟨⟨.owner, { cmd := 0x010A, seq := 0, epoch := 0, token := [], body := [31, 0, 0, 0], authDigest := 0, authorized := false, time := 0, ownFault := false, result := none }, 31, (exeT (.owner) ({ cmd := 0x010A, seq := 0, epoch := 0, token := [], body := [31, 0, 0, 0], authDigest := 0, authorized := false, time := 0, ownFault := false, result := none }) upT), by unfold executes; decide +kernel, by decide +kernel⟩,
   ⟨.owner, { cmd := 0x010A, seq := 0, epoch := 0, token := [], body := [31, 0, 0, 0], authDigest := 0, authorized := false, time := 0, ownFault := false, result := none }, 31, (State.modPort (exeT (.owner) ({ cmd := 0x010A, seq := 0, epoch := 0, token := [], body := [31, 0, 0, 0], authDigest := 0, authorized := false, time := 0, ownFault := false, result := none }) upT) (31) fun z_ => { z_ with state := .isolated }), by unfold executes; decide +kernel, by decide +kernel⟩,
   ⟨.owner, { cmd := 0x010B, seq := 0, epoch := 0, token := [], body := [], authDigest := 0, authorized := false, time := 0, ownFault := false, result := none }, (exeT (.owner) ({ cmd := 0x010B, seq := 0, epoch := 0, token := [], body := [], authDigest := 0, authorized := false, time := 0, ownFault := false, result := none }) upT), by unfold executes; decide +kernel, by decide +kernel⟩,
   ⟨{ upT with mbx.resetDue := true, mbx.owner.accepted := none, mon.resetDue := false }, by decide +kernel⟩,
   ⟨{ upT with mbx.resetDue := false }, by decide +kernel⟩,
   ⟨{ upT with mbx.resetDue := true, mbx.owner.accepted := none }, by decide +kernel⟩,
   ⟨.owner, { cmd := 0x010C, seq := 0, epoch := 0, token := [], body := [], authDigest := 0, authorized := false, time := 0, ownFault := false, result := none }, (modMbox (exeT (.owner) ({ cmd := 0x010C, seq := 0, epoch := 0, token := [], body := [], authDigest := 0, authorized := false, time := 0, ownFault := false, result := none }) upT) (.owner) fun z_ => { z_ with busy := true }), by unfold executes; decide +kernel, by decide +kernel⟩⟩

theorem test_witness_FirmwareCommands :
    (∃ (m : MbxId) (r : Request) (s : State), executes s m r 0x010D ∧ r.body.length = 4 ∧ 4096 ≤ field r.body 0 4 ∧ field r.body 0 4 ≤ 4194304 ∧ s.hop.current = none)
    ∧ (∃ (m : MbxId) (r : Request) (x : Transfer) (s : State), executes s m r 0x010D ∧ r.body.length = 4 ∧ 4096 ≤ field r.body 0 4 ∧ field r.body 0 4 ≤ 4194304 ∧ s.hop.current = some x)
    ∧ (∃ (m : MbxId) (r : Request) (x : Transfer) (s : State), executes s m r 0x010E ∧ r.body.length = 4 ∧ zeros r.body 2 2 = true ∧ s.hop.current = some x ∧ x.id = field r.body 0 2 ∧ x.kind = .firmware ∧ x.whole = true)
    ∧ (∃ (m : MbxId) (r : Request) (s : State), executes s m r 0x0308 ∧ s.activateRefusal r.body = none ∧ (s.mbox m).busy = true)
    ∧ (∃ (m : MbxId) (r : Request) (a : Response) (s : State), executes s m r 0x0308 ∧ s.activateRefusal r.body = some a)
    ∧ (∃ (m : MbxId) (r : Request) (s : State), executes s m r 0x0308 ∧ r.body.length = 4 ∧ field r.body 0 1 ≤ 1 ∧ zeros r.body 1 3 = true ∧ (s.mil.fw (field r.body 0 1 == 1)).state = 2 ∧ s.gov.vioHome = false)
    ∧ (∃ (m : MbxId) (r : Request) (s : State), executes s m r 0x0309 ∧ r.body.length = 4 ∧ field r.body 0 1 ≠ 0 ∧ zeros r.body 1 3 = true ∧ field r.body 0 1 ≤ s.idn.fwSvn) :=
  ⟨⟨.owner, { cmd := 0x010D, seq := 0, epoch := 0, token := [], body := leBytes 4 4096, authDigest := 0, authorized := false, time := 0, ownFault := false, result := none }, { (exeT (.owner) ({ cmd := 0x010D, seq := 0, epoch := 0, token := [], body := leBytes 4 4096, authDigest := 0, authorized := false, time := 0, ownFault := false, result := none }) upT) with hop.current := none }, by unfold executes; decide +kernel, by decide +kernel⟩,
   ⟨.owner, { cmd := 0x010D, seq := 0, epoch := 0, token := [], body := leBytes 4 4194304, authDigest := 0, authorized := false, time := 0, ownFault := false, result := none }, transT, { (exeT (.owner) ({ cmd := 0x010D, seq := 0, epoch := 0, token := [], body := leBytes 4 4194304, authDigest := 0, authorized := false, time := 0, ownFault := false, result := none }) upT) with hop.current := some (transT) }, by unfold executes; decide +kernel, by decide +kernel⟩,
   ⟨.owner, { cmd := 0x010E, seq := 0, epoch := 0, token := [], body := [1, 0, 0, 0], authDigest := 0, authorized := false, time := 0, ownFault := false, result := none }, { transT with kind := .firmware, complete := [0] }, { (exeT (.owner) ({ cmd := 0x010E, seq := 0, epoch := 0, token := [], body := [1, 0, 0, 0], authDigest := 0, authorized := false, time := 0, ownFault := false, result := none }) upT) with hop.current := some ({ transT with kind := .firmware, complete := [0] }) }, by unfold executes; decide +kernel, by decide +kernel⟩,
   ⟨.owner, { cmd := 0x0308, seq := 0, epoch := 0, token := [], body := zT 4, authDigest := 0, authorized := false, time := 0, ownFault := false, result := none }, { (modMbox (exeT (.owner) ({ cmd := 0x0308, seq := 0, epoch := 0, token := [], body := zT 4, authDigest := 0, authorized := false, time := 0, ownFault := false, result := none }) upT) (.owner) fun z_ => { z_ with busy := true }) with mil.fw0.state := 2 }, by unfold executes; decide +kernel, by decide +kernel⟩,
   ⟨.owner, { cmd := 0x0308, seq := 0, epoch := 0, token := [], body := [], authDigest := 0, authorized := false, time := 0, ownFault := false, result := none }, answer 2, (exeT (.owner) ({ cmd := 0x0308, seq := 0, epoch := 0, token := [], body := [], authDigest := 0, authorized := false, time := 0, ownFault := false, result := none }) upT), by unfold executes; decide +kernel, by decide +kernel⟩,
   ⟨.owner, { cmd := 0x0308, seq := 0, epoch := 0, token := [], body := [0, 0, 0, 0], authDigest := 0, authorized := false, time := 0, ownFault := false, result := none }, { (exeT (.owner) ({ cmd := 0x0308, seq := 0, epoch := 0, token := [], body := [0, 0, 0, 0], authDigest := 0, authorized := false, time := 0, ownFault := false, result := none }) upT) with mil.fw0 := { ({} : FwSlot) with state := 2 }, gov.vioHome := false }, by unfold executes; decide +kernel, by decide +kernel⟩,
   ⟨.owner, { cmd := 0x0309, seq := 0, epoch := 0, token := [], body := [1, 0, 0, 0], authDigest := 0, authorized := false, time := 0, ownFault := false, result := none }, { (exeT (.owner) ({ cmd := 0x0309, seq := 0, epoch := 0, token := [], body := [1, 0, 0, 0], authDigest := 0, authorized := false, time := 0, ownFault := false, result := none }) upT) with idn.fwSvn := 1 }, by unfold executes; decide +kernel, by decide +kernel⟩⟩

theorem test_witness_SlotCommands :
    (∃ (m : MbxId) (r : Request) (p : PortId) (c : PortCfg) (part : Sfdp) (bytes : List Byte) (s : State), executes s m r 0x0201 ∧ r.body.length = 4 ∧ portOf (field r.body 0 1) = some p ∧ field r.body 1 1 = 0 ∧ zeros r.body 2 2 = true ∧ s.cfgInForce p = some c ∧ (s.slot p (s.standbySlot p)).state ≠ .absent ∧ (s.slot p (s.standbySlot p)).state ≠ .active ∧ (s.port p).staging = none ∧ (s.port p).partOn (c.cs (s.standbySlot p)) = some part ∧ s.hop.current = none ∧ s.objectMap = some bytes)
    ∧ (∃ (m : MbxId) (r : Request) (p : PortId) (i : SlotId) (c : PortCfg) (bytes : List Byte) (s : State), executes s m r 0x0202 ∧ r.body.length = 4 ∧ portOf (field r.body 0 1) = some p ∧ slotOf (field r.body 1 1) = some i ∧ field r.body 2 1 = 0 ∧ zeros r.body 3 1 = true ∧ s.cfgInForce p = some c ∧ (s.slot p i).state = .staging ∧ (s.port p).staging = none ∧ s.hop.current = none ∧ s.hop.suspended = none ∧ s.objectMap = some bytes ∧ s.gov.vioHome = true)
    ∧ (∃ (m : MbxId) (r : Request) (p : PortId) (s : State), executes s m r 0x0302 ∧ r.body.length = 4 ∧ portOf (field r.body 0 1) = some p ∧ field r.body 1 1 ≤ 1 ∧ zeros r.body 2 2 = true ∧ (((s.slot p (s.standbySlot p)).state = .committed ∨ (s.slot p (s.standbySlot p)).state = .ready)) ∧ (s.port p).state ≠ .isolated ∧ s.gov.vioHome = true)
    ∧ (∃ (m : MbxId) (r : Request) (p : PortId) (s : State), executes s m r 0x0302 ∧ r.body.length = 4 ∧ portOf (field r.body 0 1) = some p ∧ field r.body 1 1 ≤ 1 ∧ zeros r.body 2 2 = true ∧ (s.slot p (s.standbySlot p)).state = .staging) :=
  ⟨⟨.owner, { cmd := 0x0201, seq := 0, epoch := 0, token := [], body := zT 4, authDigest := 0, authorized := false, time := 0, ownFault := false, result := none }, _, cfgT, partT, [], ((armT (exeT (.owner) ({ cmd := 0x0201, seq := 0, epoch := 0, token := [], body := zT 4, authDigest := 0, authorized := false, time := 0, ownFault := false, result := none }) upT)).modSlot 0 .b fun z_ => { z_ with state := .empty }).modPort 0 fun z_ => { z_ with sfdp0 := some partT }, by unfold executes; decide +kernel, by decide +kernel, rfl, by decide +kernel⟩,
   ⟨.owner, { cmd := 0x0202, seq := 0, epoch := 0, token := [], body := [0, 1, 0, 0], authDigest := 0, authorized := false, time := 0, ownFault := false, result := none }, _, .b, cfgT, [], (armT (exeT (.owner) ({ cmd := 0x0202, seq := 0, epoch := 0, token := [], body := [0, 1, 0, 0], authDigest := 0, authorized := false, time := 0, ownFault := false, result := none }) upT)).modSlot 0 .b fun z_ => { z_ with state := .staging }, by unfold executes; decide +kernel, by decide +kernel, rfl, by decide +kernel⟩,
   ⟨.owner, { cmd := 0x0302, seq := 0, epoch := 0, token := [], body := [0, 1, 0, 0], authDigest := 0, authorized := false, time := 0, ownFault := false, result := none }, _, (armT (exeT (.owner) ({ cmd := 0x0302, seq := 0, epoch := 0, token := [], body := [0, 1, 0, 0], authDigest := 0, authorized := false, time := 0, ownFault := false, result := none }) upT)).modSlot 0 .b fun z_ => { z_ with state := .ready }, by unfold executes; decide +kernel, by decide +kernel, rfl, by decide +kernel⟩,
   ⟨.owner, { cmd := 0x0302, seq := 0, epoch := 0, token := [], body := [0, 1, 0, 0], authDigest := 0, authorized := false, time := 0, ownFault := false, result := none }, _, (armT (exeT (.owner) ({ cmd := 0x0302, seq := 0, epoch := 0, token := [], body := [0, 1, 0, 0], authDigest := 0, authorized := false, time := 0, ownFault := false, result := none }) upT)).modSlot 0 .b fun z_ => { z_ with state := .staging }, by unfold executes; decide +kernel, by decide +kernel, rfl, by decide +kernel⟩⟩

theorem test_witness_ConfigurationCommands :
    (∃ (m : MbxId) (r : Request) (p : PortId) (d : PortCfg) (s : State), executes s m r 0x0303 ∧ r.body.length = 68 ∧ field r.body 0 1 = 0 ∧ zeros r.body 1 3 = true ∧ portOf (field (r.body.drop 4) 6 1) = some p ∧ itemFormat (r.body.drop 4) = 2 ∧ portCfgOk (r.body.drop 4) p = true ∧ s.cfgOf p = some d ∧ (portCfgOf (r.body.drop 4)).sameGeometry d = true ∧ s.gov.vioHome = true)
    ∧ (∃ (m : MbxId) (r : Request) (p : PortId) (s : State), executes s m r 0x0303 ∧ r.body.length = 68 ∧ field r.body 0 1 = 0 ∧ zeros r.body 1 3 = true ∧ portOf (field (r.body.drop 4) 6 1) = some p ∧ itemFormat (r.body.drop 4) = 2 ∧ portCfgOk (r.body.drop 4) p = true ∧ s.cfgOf p = none ∧ (s.port p).state = .waiting ∧ s.gov.vioHome = true)
    ∧ (∃ (m : MbxId) (r : Request) (p : PortId) (s : State), executes s m r 0x0304 ∧ 20 ≤ r.body.length ∧ r.body.length ≤ 1044 ∧ portOf (field r.body 0 1) = some p ∧ zeros r.body 1 3 = true ∧ (checkSluice (r.body.drop 4) (knownClass [] [] []) true).1 = 0 ∧ s.gov.vioHome = true)
    ∧ (∃ (m : MbxId) (r : Request) (p : PortId) (code : Nat) (s : State), executes s m r 0x0304 ∧ 20 ≤ r.body.length ∧ r.body.length ≤ 1044 ∧ portOf (field r.body 0 1) = some p ∧ zeros r.body 1 3 = true ∧ (checkSluice (r.body.drop 4) (knownClass [] [] []) true).1 = code ∧ code ≠ 0)
    ∧ (∃ (m : MbxId) (r : Request) (s : State), executes s m r 0x0305 ∧ r.body.length = 528 ∧ graphOk r.body = true ∧ s.gov.vioHome = true)
    ∧ (∃ (m : MbxId) (r : Request) (s : State), executes s m r 0x0305 ∧ r.body.length = 528 ∧ graphOk r.body = false)
    ∧ (∃ (m : MbxId) (r : Request) (s : State), executes s m r 0x0306 ∧ r.body.length = 32 ∧ itemFormat r.body = 2 ∧ devCfgOk r.body = true ∧ s.gov.vioHome = true)
    ∧ (∃ (m : MbxId) (r : Request) (s : State), executes s m r 0x0306 ∧ r.body.length = 32 ∧ itemFormat r.body = 2 ∧ devCfgOk r.body = true)
    ∧ (∃ (m : MbxId) (r : Request) (s : State), executes s m r 0x030A ∧ r.body.length ≤ 1024 ∧ tamperCfgOk r.body = true ∧ tamperFloorsOk r.body = true ∧ s.gov.vioHome = true)
    ∧ (∃ (m : MbxId) (r : Request) (s : State), executes s m r 0x030A ∧ r.body.length ≤ 1024 ∧ tamperCfgOk r.body = true ∧ tamperFloorsOk r.body = false) :=
  ⟨⟨.owner, { cmd := 0x0303, seq := 0, epoch := 0, token := [], body := zT 4 ++ cfgB, authDigest := 0, authorized := false, time := 0, ownFault := false, result := none }, _, cfgT, cfgS (exeT (.owner) ({ cmd := 0x0303, seq := 0, epoch := 0, token := [], body := zT 4 ++ cfgB, authDigest := 0, authorized := false, time := 0, ownFault := false, result := none }) upT) cfgB, by unfold executes; decide +kernel, by decide +kernel, by decide +kernel, by decide +kernel, rfl, by decide +kernel⟩,
   ⟨.owner, { cmd := 0x0303, seq := 0, epoch := 0, token := [], body := zT 4 ++ cfgB, authDigest := 0, authorized := false, time := 0, ownFault := false, result := none }, 0, (State.modPort { (exeT (.owner) ({ cmd := 0x0303, seq := 0, epoch := 0, token := [], body := zT 4 ++ cfgB, authDigest := 0, authorized := false, time := 0, ownFault := false, result := none }) upT) with gov.vioHome := true } (0) fun z_ => { z_ with state := .waiting }), by unfold executes; decide +kernel, by decide +kernel⟩,
   ⟨.owner, { cmd := 0x0304, seq := 0, epoch := 0, token := [], body := zT 4 ++ slB, authDigest := 0, authorized := false, time := 0, ownFault := false, result := none }, _, { (exeT (.owner) ({ cmd := 0x0304, seq := 0, epoch := 0, token := [], body := zT 4 ++ slB, authDigest := 0, authorized := false, time := 0, ownFault := false, result := none }) upT) with gov.vioHome := true }, by unfold executes; decide +kernel, by decide +kernel, by decide +kernel, rfl, by decide +kernel⟩,
   ⟨.owner, { cmd := 0x0304, seq := 0, epoch := 0, token := [], body := zT 20, authDigest := 0, authorized := false, time := 0, ownFault := false, result := none }, _, 1, (exeT (.owner) ({ cmd := 0x0304, seq := 0, epoch := 0, token := [], body := zT 20, authDigest := 0, authorized := false, time := 0, ownFault := false, result := none }) upT), by unfold executes; decide +kernel, by decide +kernel, by decide +kernel, rfl, by decide +kernel⟩,
   ⟨.owner, { cmd := 0x0305, seq := 0, epoch := 0, token := [], body := graphB, authDigest := 0, authorized := false, time := 0, ownFault := false, result := none }, { (exeT (.owner) ({ cmd := 0x0305, seq := 0, epoch := 0, token := [], body := graphB, authDigest := 0, authorized := false, time := 0, ownFault := false, result := none }) upT) with gov.vioHome := true }, by unfold executes; decide +kernel, by decide +kernel⟩,
   ⟨.owner, { cmd := 0x0305, seq := 0, epoch := 0, token := [], body := zT 528, authDigest := 0, authorized := false, time := 0, ownFault := false, result := none }, (exeT (.owner) ({ cmd := 0x0305, seq := 0, epoch := 0, token := [], body := zT 528, authDigest := 0, authorized := false, time := 0, ownFault := false, result := none }) upT), by unfold executes; decide +kernel, by decide +kernel⟩,
   ⟨.owner, { cmd := 0x0306, seq := 0, epoch := 0, token := [], body := devB, authDigest := 0, authorized := false, time := 0, ownFault := false, result := none }, { (exeT (.owner) ({ cmd := 0x0306, seq := 0, epoch := 0, token := [], body := devB, authDigest := 0, authorized := false, time := 0, ownFault := false, result := none }) upT) with gov.vioHome := true }, by unfold executes; decide +kernel, by decide +kernel⟩,
   ⟨.owner, { cmd := 0x0306, seq := 0, epoch := 0, token := [], body := devB, authDigest := 0, authorized := false, time := 0, ownFault := false, result := none }, (exeT (.owner) ({ cmd := 0x0306, seq := 0, epoch := 0, token := [], body := devB, authDigest := 0, authorized := false, time := 0, ownFault := false, result := none }) upT), by unfold executes; decide +kernel, by decide +kernel⟩,
   ⟨.owner, { cmd := 0x030A, seq := 0, epoch := 0, token := [], body := tamperB, authDigest := 0, authorized := false, time := 0, ownFault := false, result := none }, { (exeT (.owner) ({ cmd := 0x030A, seq := 0, epoch := 0, token := [], body := tamperB, authDigest := 0, authorized := false, time := 0, ownFault := false, result := none }) upT) with gov.vioHome := true }, by unfold executes; decide +kernel, by decide +kernel⟩,
   ⟨.owner, { cmd := 0x030A, seq := 0, epoch := 0, token := [], body := putT tamperB 24 (zT 4), authDigest := 0, authorized := false, time := 0, ownFault := false, result := none }, (exeT (.owner) ({ cmd := 0x030A, seq := 0, epoch := 0, token := [], body := putT tamperB 24 (zT 4), authDigest := 0, authorized := false, time := 0, ownFault := false, result := none }) upT), by unfold executes; decide +kernel, by decide +kernel⟩⟩

theorem test_witness_FuseAndLifeCycleCommands :
    (∃ (m : MbxId) (r : Request) (d : Fin 16) (v : Nat) (s : State), executes s m r 0x0307 ∧ r.body.length = 4 ∧ field r.body 0 1 = d.val ∧ field r.body 1 1 = v ∧ 1 ≤ v ∧ v ≤ 128 ∧ field r.body 2 1 ≤ 1 ∧ zeros r.body 3 1 = true)
    ∧ (∃ (m : MbxId) (r : Request) (i : Fin 8) (s : State), executes s m r 0x030B ∧ r.body.length = 4 ∧ zeros r.body 1 3 = true ∧ field r.body 0 1 = i.val ∧ s.otp.fuses.getLsbD i.val = false)
    ∧ (∃ (m : MbxId) (r : Request) (i : Fin 8) (stuck : List Nat) (s : State), executes s m r 0x030B ∧ r.body.length = 4 ∧ zeros r.body 1 3 = true ∧ field r.body 0 1 = i.val ∧ s.otp.fuses.getLsbD i.val = false ∧ 0 ∈ stuck)
    ∧ (∃ (m : MbxId) (r : Request) (i : Fin 10) (s : State), executes s m r 0x030C ∧ r.body.length = 52 ∧ keySlotOf r.body = some i ∧ BitVec.ofNat 384 (beNat (slice r.body 4 48)) ≠ 0 ∧ BitVec.ofNat 384 (beNat (slice r.body 4 48)) ≠ BitVec.allOnes 384 ∧ ((s.life.state ≠ .production ∨ i ≠ 9)) ∧ s.otp.keys[i] = 0)
    ∧ (∃ (m : MbxId) (r : Request) (i : Fin 10) (s : State), executes s m r 0x030C ∧ r.body.length = 52 ∧ keySlotOf r.body = some i ∧ BitVec.ofNat 384 (beNat (slice r.body 4 48)) ≠ 0 ∧ BitVec.ofNat 384 (beNat (slice r.body 4 48)) ≠ BitVec.allOnes 384 ∧ ((s.life.state ≠ .production ∨ i ≠ 9)) ∧ s.otp.keys[i] ≠ 0)
    ∧ (∃ (m : MbxId) (r : Request) (i : Fin 10) (s : State), executes s m r 0x030D ∧ r.body.length = 4 ∧ keySlotOf r.body = some i ∧ s.life.state ≠ .production)
    ∧ (∃ (m : MbxId) (r : Request) (i : Fin 10) (s : State), executes s m r 0x030D ∧ r.body.length = 4 ∧ keySlotOf r.body = some i ∧ s.life.state = .production ∧ i = 9)
    ∧ (∃ (m : MbxId) (r : Request) (a : LcState) (b : LcState) (s : State), executes s m r 0x030E ∧ r.body.length = 4 ∧ zeros r.body 1 3 = true ∧ (a, b) ∈ [(LcState.blank, LcState.test), (.test, .production), (.production, .endOfLife)] ∧ s.life.state = a ∧ field r.body 0 1 = lcCode b ∧ s.otp.openIntent = none ∧ (b = .production → s.otp.productionKeys = true) ∧ (s.otp.copy1 ||| s.otp.copy2 ||| s.otp.copy3) &&& ~~~codeword b = 0)
    ∧ (∃ (m : MbxId) (r : Request) (a : LcState) (b : LcState) (s : State), executes s m r 0x030E ∧ r.body.length = 4 ∧ zeros r.body 1 3 = true ∧ (a, b) ∈ [(LcState.blank, LcState.test), (.test, .production), (.production, .endOfLife)] ∧ s.life.state = a ∧ field r.body 0 1 = lcCode b ∧ s.otp.openIntent = none ∧ (b = .production → s.otp.productionKeys = true) ∧ (s.otp.copy1 ||| s.otp.copy2 ||| s.otp.copy3) &&& ~~~codeword b ≠ 0)
    ∧ (∃ (m : MbxId) (r : Request) (a : LcState) (b : LcState) (s : State), executes s m r 0x030E ∧ r.body.length = 4 ∧ zeros r.body 1 3 = true ∧ (a, b) ∈ [(LcState.blank, LcState.test), (.test, .production), (.production, .endOfLife)] ∧ s.life.state = a ∧ field r.body 0 1 = lcCode b ∧ (s.otp.openIntent.isSome = true ∨ (b = .production ∧ s.otp.productionKeys = false)))
    ∧ (∃ (m : MbxId) (r : Request) (s : State), executes s m r 0x030E ∧ r.body.length = 4 ∧ zeros r.body 1 3 = true ∧ field r.body 0 1 = 3 ∧ s.life.state = .blank)
    ∧ (∃ (m : MbxId) (r : Request) (st : LcState) (s : State), executes s m r 0x030F ∧ r.body = [] ∧ s.otp.openIntent = some st ∧ (s.otp.copy1 ||| s.otp.copy2 ||| s.otp.copy3) &&& ~~~codeword (intentTarget st) = 0 ∧ (s.otp.intent st).auth = r.authDigest ∧ (((s.otp.intent st).auth ≠ 0 ∨ r.authorized = false)))
    ∧ (∃ (m : MbxId) (r : Request) (s : State), executes s m r 0x030F ∧ r.body = [] ∧ s.otp.openIntent = none) :=
  ⟨⟨.owner, { cmd := 0x0307, seq := 0, epoch := 0, token := [], body := [15, 128, 1, 0], authDigest := 0, authorized := false, time := 0, ownFault := false, result := none }, 15, 128, (exeT (.owner) ({ cmd := 0x0307, seq := 0, epoch := 0, token := [], body := [15, 128, 1, 0], authDigest := 0, authorized := false, time := 0, ownFault := false, result := none }) upT), by unfold executes; decide +kernel, by decide +kernel⟩,
   ⟨.owner, { cmd := 0x030B, seq := 0, epoch := 0, token := [], body := [7, 0, 0, 0], authDigest := 0, authorized := false, time := 0, ownFault := false, result := none }, 7, (exeT (.owner) ({ cmd := 0x030B, seq := 0, epoch := 0, token := [], body := [7, 0, 0, 0], authDigest := 0, authorized := false, time := 0, ownFault := false, result := none }) upT), by unfold executes; decide +kernel, by decide +kernel⟩,
   ⟨.owner, { cmd := 0x030B, seq := 0, epoch := 0, token := [], body := [7, 0, 0, 0], authDigest := 0, authorized := false, time := 0, ownFault := false, result := none }, 7, [0], (exeT (.owner) ({ cmd := 0x030B, seq := 0, epoch := 0, token := [], body := [7, 0, 0, 0], authDigest := 0, authorized := false, time := 0, ownFault := false, result := none }) upT), by unfold executes; decide +kernel, by decide +kernel⟩,
   ⟨.owner, { cmd := 0x030C, seq := 0, epoch := 0, token := [], body := [9, 0, 0, 0] ++ zT 47 ++ [1], authDigest := 0, authorized := false, time := 0, ownFault := false, result := none }, 9, (exeT (.owner) ({ cmd := 0x030C, seq := 0, epoch := 0, token := [], body := [9, 0, 0, 0] ++ zT 47 ++ [1], authDigest := 0, authorized := false, time := 0, ownFault := false, result := none }) upT), by unfold executes; decide +kernel, by decide +kernel⟩,
   ⟨.owner, { cmd := 0x030C, seq := 0, epoch := 0, token := [], body := zT 51 ++ [1], authDigest := 0, authorized := false, time := 0, ownFault := false, result := none }, 0, { (exeT (.owner) ({ cmd := 0x030C, seq := 0, epoch := 0, token := [], body := zT 51 ++ [1], authDigest := 0, authorized := false, time := 0, ownFault := false, result := none }) upT) with otp.keys := Vector.replicate 10 1 }, by unfold executes; decide +kernel, by decide +kernel⟩,
   ⟨.owner, { cmd := 0x030D, seq := 0, epoch := 0, token := [], body := List.replicate 4 0, authDigest := 0, authorized := false, time := 0, ownFault := false, result := none }, _, (exeT (.owner) ({ cmd := 0x030D, seq := 0, epoch := 0, token := [], body := List.replicate 4 0, authDigest := 0, authorized := false, time := 0, ownFault := false, result := none }) upT), by unfold executes; decide +kernel, by decide +kernel, rfl, by decide +kernel⟩,
   ⟨.owner, { cmd := 0x030D, seq := 0, epoch := 0, token := [], body := [9, 0, 0, 0], authDigest := 0, authorized := false, time := 0, ownFault := false, result := none }, 9, { (exeT (.owner) ({ cmd := 0x030D, seq := 0, epoch := 0, token := [], body := [9, 0, 0, 0], authDigest := 0, authorized := false, time := 0, ownFault := false, result := none }) upT) with life.state := .production }, by unfold executes; decide +kernel, by decide +kernel⟩,
   ⟨.owner, { cmd := 0x030E, seq := 0, epoch := 0, token := [], body := [1, 0, 0, 0], authDigest := 0, authorized := false, time := 0, ownFault := false, result := none }, .blank, .test, { exeT (.owner) ({ cmd := 0x030E, seq := 0, epoch := 0, token := [], body := [1, 0, 0, 0], authDigest := 0, authorized := false, time := 0, ownFault := false, result := none }) upT with life.state := (.blank) }, by unfold executes; decide +kernel, by decide +kernel⟩,
   ⟨.owner, { cmd := 0x030E, seq := 0, epoch := 0, token := [], body := [1, 0, 0, 0], authDigest := 0, authorized := false, time := 0, ownFault := false, result := none }, .blank, .test, { exeT (.owner) ({ cmd := 0x030E, seq := 0, epoch := 0, token := [], body := [1, 0, 0, 0], authDigest := 0, authorized := false, time := 0, ownFault := false, result := none }) upT with life.state := (.blank), otp.copy1 := 0xFFFFFFFFFFFFFFFF#64 }, by unfold executes; decide +kernel, by decide +kernel⟩,
   ⟨.owner, { cmd := 0x030E, seq := 0, epoch := 0, token := [], body := [1, 0, 0, 0], authDigest := 0, authorized := false, time := 0, ownFault := false, result := none }, .blank, .test, { exeT (.owner) ({ cmd := 0x030E, seq := 0, epoch := 0, token := [], body := [1, 0, 0, 0], authDigest := 0, authorized := false, time := 0, ownFault := false, result := none }) upT with life.state := (.blank), otp.intent0 := { mark := 1 } }, by unfold executes; decide +kernel, by decide +kernel⟩,
   ⟨.owner, { cmd := 0x030E, seq := 0, epoch := 0, token := [], body := [3, 0, 0, 0], authDigest := 0, authorized := false, time := 0, ownFault := false, result := none }, { (exeT (.owner) ({ cmd := 0x030E, seq := 0, epoch := 0, token := [], body := [3, 0, 0, 0], authDigest := 0, authorized := false, time := 0, ownFault := false, result := none }) upT) with life.state := .blank }, by unfold executes; decide +kernel, by decide +kernel⟩,
   ⟨.owner, { cmd := 0x030F, seq := 0, epoch := 0, token := [], body := [], authDigest := 0, authorized := false, time := 0, ownFault := false, result := none }, .blank, { exeT (.owner) ({ cmd := 0x030F, seq := 0, epoch := 0, token := [], body := [], authDigest := 0, authorized := false, time := 0, ownFault := false, result := none }) upT with otp.intent0 := { mark := 0xA5, tgt := 1 } }, by unfold executes; decide +kernel, by decide +kernel⟩,
   ⟨.owner, { cmd := 0x030F, seq := 0, epoch := 0, token := [], body := [], authDigest := 0, authorized := false, time := 0, ownFault := false, result := none }, exeT (.owner) ({ cmd := 0x030F, seq := 0, epoch := 0, token := [], body := [], authDigest := 0, authorized := false, time := 0, ownFault := false, result := none }) upT, by unfold executes; decide +kernel, by decide +kernel⟩⟩

theorem test_witness_DebugCommands :
    (∃ (m : MbxId) (r : Request) (s : State), executes s m r 0x010F ∧ r.body.length = 4 ∧ zeros r.body 1 3 = true ∧ s.levelOk (field r.body 0 1) = true ∧ s.drbg.failed = false)
    ∧ (∃ (m : MbxId) (r : Request) (s : State), executes s m r 0x010F ∧ r.body.length = 4 ∧ zeros r.body 1 3 = true ∧ s.levelOk (field r.body 0 1) = false)
    ∧ (∃ (m : MbxId) (r : Request) (n : Nat) (s : State), executes s m r 0x0310 ∧ r.body.length = 200 ∧ zeros r.body 1 199 = true ∧ field r.body 0 1 = n ∧ s.life.state = .blank ∧ ((n = 1 ∨ n = 2)) ∧ s.dbg.level < n)
    ∧ (∃ (m : MbxId) (r : Request) (s : State), executes s m r 0x0310 ∧ r.body.length = 200 ∧ zeros r.body 1 3 = true ∧ zeros r.body 0xC5 3 = true ∧ s.levelOk (field r.body 0 1) = false)
    ∧ (∃ (m : MbxId) (r : Request) (s : State), executes s m r 0x0310 ∧ r.body.length ≠ 200)
    ∧ (∃ (m : MbxId) (r : Request) (n : BitVec 256) (s : State), executes s m r 0x0310 ∧ r.body.length = 200 ∧ zeros r.body 1 3 = true ∧ zeros r.body 0xC5 3 = true ∧ s.levelOk (field r.body 0 1) = true ∧ needsToken s.life.state (field r.body 0 1) = true ∧ s.dbg.nonce = some n)
    ∧ (∃ (s : State), s.dark = false ∧ s.dbg.d2Opening = true)
    ∧ (∃ (s : State), s.dbg.d2Opening = false)
    ∧ (∃ (m : MbxId) (r : Request) (n : Nat) (s : State), executes s m r 0x0110 ∧ r.body = [] ∧ s.dbg.session = some n) :=
  ⟨⟨.owner, { cmd := 0x010F, seq := 0, epoch := 0, token := [], body := [2, 0, 0, 0], authDigest := 0, authorized := false, time := 0, ownFault := false, result := none }, { (exeT (.owner) ({ cmd := 0x010F, seq := 0, epoch := 0, token := [], body := [2, 0, 0, 0], authDigest := 0, authorized := false, time := 0, ownFault := false, result := none }) upT) with drbg.failed := false }, by unfold executes; decide +kernel, by decide +kernel⟩,
   ⟨.owner, { cmd := 0x010F, seq := 0, epoch := 0, token := [], body := List.replicate 4 0, authDigest := 0, authorized := false, time := 0, ownFault := false, result := none }, (exeT (.owner) ({ cmd := 0x010F, seq := 0, epoch := 0, token := [], body := List.replicate 4 0, authDigest := 0, authorized := false, time := 0, ownFault := false, result := none }) upT), by unfold executes; decide +kernel, by decide +kernel⟩,
   ⟨.owner, { cmd := 0x0310, seq := 0, epoch := 0, token := [], body := [2] ++ zT 199, authDigest := 0, authorized := false, time := 0, ownFault := false, result := none }, 2, { (exeT (.owner) ({ cmd := 0x0310, seq := 0, epoch := 0, token := [], body := [2] ++ zT 199, authDigest := 0, authorized := false, time := 0, ownFault := false, result := none }) upT) with life.state := .blank }, by unfold executes; decide +kernel, by decide +kernel⟩,
   ⟨.owner, { cmd := 0x0310, seq := 0, epoch := 0, token := [], body := List.replicate 200 0, authDigest := 0, authorized := false, time := 0, ownFault := false, result := none }, (exeT (.owner) ({ cmd := 0x0310, seq := 0, epoch := 0, token := [], body := List.replicate 200 0, authDigest := 0, authorized := false, time := 0, ownFault := false, result := none }) upT), by unfold executes; decide +kernel, by decide +kernel⟩,
   ⟨.owner, { cmd := 0x0310, seq := 0, epoch := 0, token := [], body := [], authDigest := 0, authorized := false, time := 0, ownFault := false, result := none }, (exeT (.owner) ({ cmd := 0x0310, seq := 0, epoch := 0, token := [], body := [], authDigest := 0, authorized := false, time := 0, ownFault := false, result := none }) upT), by unfold executes; decide +kernel, by decide +kernel⟩,
   ⟨.owner, { cmd := 0x0310, seq := 0, epoch := 0, token := [], body := putT (zT 200) 0 [1], authDigest := 0, authorized := false, time := 0, ownFault := false, result := none }, 0, { exeT (.owner) ({ cmd := 0x0310, seq := 0, epoch := 0, token := [], body := putT (zT 200) 0 [1], authDigest := 0, authorized := false, time := 0, ownFault := false, result := none }) upT with life.state := .production, dbg.nonce := some 0 }, by unfold executes; decide +kernel, by decide +kernel⟩,
   ⟨{ upT with dbg.d2Opening := true }, by decide +kernel⟩,
   ⟨{ upT with dbg.d2Opening := false }, by decide +kernel⟩,
   ⟨.owner, { cmd := 0x0110, seq := 0, epoch := 0, token := [], body := [], authDigest := 0, authorized := false, time := 0, ownFault := false, result := none }, 0, { (exeT (.owner) ({ cmd := 0x0110, seq := 0, epoch := 0, token := [], body := [], authDigest := 0, authorized := false, time := 0, ownFault := false, result := none }) upT) with dbg.session := some (0) }, by unfold executes; decide +kernel, by decide +kernel⟩⟩

theorem test_witness_SpdmConnectionsAnswer :
    (∃ (t : Transport) (s : State), spdmHeard s t ∧ (s.resetTr t).millerFrees ≠ [])
    ∧ (∃ (t : Transport) (s : State), spdmHeard s t ∧ (s.resetTr t).millerFrees = [])
    ∧ (∃ (t : Transport) (v : Nat) (s : State), spdmTakes s t ∧ (s.tr t).phase = .version ∧ (v = 0x12 ∨ v = 0x13))
    ∧ (∃ (t : Transport) (s : State), spdmTakes s t ∧ (s.tr t).phase ≠ .version)
    ∧ (∃ (t : Transport) (o : AlgOffer) (s : State), spdmTakes s t ∧ (s.tr t).phase = .capabilities ∧ AlgOffer_all o = true)
    ∧ (∃ (t : Transport) (o : AlgOffer) (s : State), spdmTakes s t ∧ (s.tr t).phase = .capabilities ∧ AlgOffer_all o = false)
    ∧ (∃ (t : Transport) (s : State), spdmTakes s t)
    ∧ (∃ (t : Transport) (s : State), s.spdmUp t = false ∧ s.mil.asleep = false ∧ s.gov.state ≠ .deep)
    ∧ (∃ (t : Transport) (s : State), s.spdmUp t = true ∧ s.gov.state ≠ .deep ∧ s.mil.asleep = false ∧ s.mbx.order ≠ [])
    ∧ (∃ (t : Transport) (s : State), spdmOpen s t)
    ∧ (∃ (t : Transport) (s : State), spdmOpen s t)
    ∧ (∃ (t : Transport) (s : State), spdmOpen s t ∧ s.signsFor (s.tr t) = true ∧ s.chainOk = true)
    ∧ (∃ (t : Transport) (s : State), spdmOpen s t ∧ (s.signsFor (s.tr t) = false ∨ s.chainOk = false))
    ∧ (∃ (t : Transport) (index : Nat) (n : Nat) (rec : List Byte) (s : State), spdmTakes s t ∧ (s.tr t).phase = .negotiated ∧ s.measRecord index = some (n, rec))
    ∧ (∃ (t : Transport) (index : Nat) (n : Nat) (rec : List Byte) (s : State), spdmTakes s t ∧ (s.tr t).phase = .negotiated ∧ s.measRecord index = some (n, rec) ∧ s.signsFor (s.tr t) = true)
    ∧ (∃ (t : Transport) (index : Nat) (s : State), spdmTakes s t ∧ (s.tr t).phase = .negotiated ∧ s.measRecord index = none)
    ∧ (∃ (t : Transport) (s : State), spdmTakes s t ∧ s.noIdentity = true)
    ∧ (∃ (t : Transport) (s : State), spdmOpen s t ∧ (s.tr t).session = none ∧ s.signsFor (s.tr t) = true)
    ∧ (∃ (t : Transport) (s : State), spdmOpen s t ∧ (s.tr t).session.isSome = true ∧ (s.tr t).established = false)
    ∧ (∃ (t : Transport) (s : State), spdmOpen s t ∧ (s.tr t).session.isSome = true ∧ (s.tr t).established = true)
    ∧ (∃ (t : Transport) (data : List Byte) (s : State), spdmOpen s t ∧ data.length ≤ 12288)
    ∧ (∃ (t : Transport) (k : Nat) (n : Nat) (bs : List Byte) (s : State), spdmOpen s t ∧ (s.tr t).large = some (k, n, bs))
    ∧ (∃ (m : MbxId) (r : Request) (s : State), executes s m r 7 ∧ (s.tr (mbxTransport m)).signing = none)
    ∧ (∃ (t : Transport) (id : Nat) (s : State), spdmHeard s t ∧ (s.tr t).session = some id ∧ (s.tr t).established = true ∧ (s.tr t).keyed = true) :=
  ⟨⟨.owner, upT, by unfold spdmHeard; decide +kernel, by decide +kernel⟩,
   ⟨.owner, { upT with dge.ctx := Vector.replicate 16 { state := .done } }, by unfold spdmHeard; decide +kernel, by decide +kernel⟩,
   ⟨.owner, 0x12, (modTr upT (.owner) fun z_ => { z_ with phase := .version }), by unfold spdmTakes spdmHeard; decide +kernel, by decide +kernel⟩,
   ⟨.owner, upT, by unfold spdmTakes spdmHeard; decide +kernel, by decide +kernel⟩,
   ⟨.owner, ⟨1, 2, 0x80, 2, 0x10, 2, 1⟩, (modTr upT (.owner) fun z_ => { z_ with phase := .capabilities }), by unfold spdmTakes spdmHeard; decide +kernel, by decide +kernel⟩,
   ⟨.owner, ⟨0, 0, 0, 0, 0, 0, 0⟩, (modTr upT (.owner) fun z_ => { z_ with phase := .capabilities }), by unfold spdmTakes spdmHeard; decide +kernel, by decide +kernel⟩,
   ⟨.owner, upT, by unfold spdmTakes spdmHeard; decide +kernel⟩,
   ⟨.owner, State.reset, by decide +kernel⟩,
   ⟨.owner, { upT with mbx.order := [.owner] }, by decide +kernel⟩,
   ⟨.owner, (modTr upT .owner fun z_ => { z_ with phase := .negotiated }), by unfold spdmOpen spdmTakes spdmHeard; decide +kernel⟩,
   ⟨.owner, (modTr upT .owner fun z_ => { z_ with phase := .negotiated }), by unfold spdmOpen spdmTakes spdmHeard; decide +kernel⟩,
   ⟨.owner, { (modTr upT .owner fun z_ => { z_ with phase := .negotiated }) with pke.sealedKey := some (1, []) }, by unfold spdmOpen spdmTakes spdmHeard; decide +kernel, by decide +kernel⟩,
   ⟨.owner, (modTr upT .owner fun z_ => { z_ with phase := .negotiated }), by unfold spdmOpen spdmTakes spdmHeard; decide +kernel, by decide +kernel⟩,
   ⟨.owner, 0xFF, _, _, modTr upT .owner fun z_ => { z_ with phase := .negotiated }, by unfold spdmTakes spdmHeard; decide +kernel, by decide +kernel, rfl⟩,
   ⟨.owner, 4, _, _, { (modTr upT .owner fun z_ => { z_ with phase := .negotiated }) with pke.sealedKey := some (1, []) }, by unfold spdmTakes spdmHeard; decide +kernel, by decide +kernel, rfl, by decide +kernel⟩,
   ⟨.owner, 90, (modTr upT .owner fun z_ => { z_ with phase := .negotiated }), by unfold spdmTakes spdmHeard; decide +kernel, by decide +kernel⟩,
   ⟨.owner, { upT with life.state := .locked }, by unfold spdmTakes spdmHeard; decide +kernel, by decide +kernel⟩,
   ⟨.owner, { (modTr upT .owner fun z_ => { z_ with phase := .negotiated }) with pke.sealedKey := some (1, []) }, by unfold spdmOpen spdmTakes spdmHeard; decide +kernel, by decide +kernel⟩,
   ⟨.owner, (modTr upT .owner fun z_ => { z_ with phase := .negotiated, session := some 1 }), by unfold spdmOpen spdmTakes spdmHeard; decide +kernel, by decide +kernel⟩,
   ⟨.owner, (modTr upT .owner fun z_ => { z_ with phase := .negotiated, session := some 1, established := true }), by unfold spdmOpen spdmTakes spdmHeard; decide +kernel, by decide +kernel⟩,
   ⟨.owner, [], (modTr upT .owner fun z_ => { z_ with phase := .negotiated }), by unfold spdmOpen spdmTakes spdmHeard; decide +kernel, by decide +kernel⟩,
   ⟨.owner, 0, 4, [1], (modTr upT .owner fun z_ => { z_ with phase := .negotiated, large := some (0, 4, [1]) }), by unfold spdmOpen spdmTakes spdmHeard; decide +kernel, by decide +kernel⟩,
   ⟨.owner, { cmd := 7, seq := 0, epoch := 0, token := [], body := [], authDigest := 0, authorized := false, time := 0, ownFault := false, result := none }, (exeT (.owner) ({ cmd := 7, seq := 0, epoch := 0, token := [], body := [], authDigest := 0, authorized := false, time := 0, ownFault := false, result := none }) upT), by unfold executes; decide +kernel, by decide +kernel⟩,
   ⟨.owner, 1, (modTr upT .owner fun z_ => { z_ with phase := .negotiated, session := some 1, established := true, keyed := true }), by unfold spdmHeard; decide +kernel, by decide +kernel⟩⟩

theorem test_witness_SpdmSessionsAndMessages :
    (∃ (t : Transport) (s : State), spdmOpen s t ∧ (s.tr t).session = none ∧ s.signsFor (s.tr t) = true)
    ∧ (∃ (t : Transport) (id : Nat) (s : State), spdmOpen s t ∧ (s.tr t).session = some id)
    ∧ (∃ (t : Transport) (s : State), spdmOpen s t ∧ (s.tr t).session = none ∧ s.signsFor (s.tr t) = false)
    ∧ (∃ (t : Transport) (c : Fin 2) (r : PkeReq) (job : SpdmJob) (s : State), s.pkeOn = true ∧ (s.pke.core c).state = .millerOp ∧ (s.pke.core c).req = some r ∧ r.user = .miller ∧ (s.tr t).signing = some job ∧ r.job = some job.id ∧ job.route = .wire ∧ job.chunk = none ∧ (∀ k j, k ≠ t → (s.tr k).signing = some j → j.id ≠ job.id) ∧ (s.pkeRun r.args false).1 = 0x10)
    ∧ (∃ (t : Transport) (id : Nat) (s : State), spdmOpen s t ∧ (s.tr t).session = some id ∧ (s.tr t).established = false ∧ s.undigested (s.tr t) = false)
    ∧ (∃ (t : Transport) (id : Nat) (s : State), spdmOpen s t ∧ (s.tr t).session = some id ∧ (s.tr t).established = false ∧ s.undigested (s.tr t) = true)
    ∧ (∃ (t : Transport) (id : Nat) (s : State), spdmOpen s t ∧ (s.tr t).session = some id ∧ (s.tr t).established = true)
    ∧ (∃ (t : Transport) (data : List Byte) (s : State), spdmOpen s t ∧ data.length ≤ 12288)
    ∧ (∃ (t : Transport) (k : Nat) (data : List Byte) (s : State), spdmOpen s t ∧ k ≠ 0 ∧ (s.tr t).chunks.length = k ∧ (s.tr t).chunks.flatten.length + data.length ≤ 12288)
    ∧ (∃ (t : Transport) (k : Nat) (n : Nat) (bs : List Byte) (s : State), spdmOpen s t ∧ (s.tr t).large = some (k, n, bs) ∧ 16 < (s.tr t).dataSize)
    ∧ (∃ (m : MbxId) (r : Request) (s : State), executes s m r 7 ∧ (s.tr (mbxTransport m)).signing = none)
    ∧ (∃ (m : MbxId) (r : Request) (s : State), executes s m r 7 ∧ (s.tr (mbxTransport m)).signing = none)
    ∧ (∃ (t : Transport) (id : Nat) (data : List Byte) (s : State), spdmHeard s t ∧ (((s.tr t).session ≠ some id ∨ (s.tr t).established = false ∨ (s.tr t).keyed = false ∨ Config.securedOpen (s.tr t).keys (s.tr t).seqIn data = none)))
    ∧ (∃ (t : Transport) (id : Nat) (s : State), spdmHeard s t ∧ (s.tr t).session = some id ∧ (s.tr t).established = true ∧ (s.tr t).keyed = true) :=
  ⟨⟨.owner, { (modTr upT .owner fun z_ => { z_ with phase := .negotiated }) with pke.sealedKey := some (1, []) }, by unfold spdmOpen spdmTakes spdmHeard; decide +kernel, by decide +kernel⟩,
   ⟨.owner, 1, (modTr upT .owner fun z_ => { z_ with phase := .negotiated, session := some 1 }), by unfold spdmOpen spdmTakes spdmHeard; decide +kernel, by decide +kernel⟩,
   ⟨.owner, (modTr upT .owner fun z_ => { z_ with phase := .negotiated }), by unfold spdmOpen spdmTakes spdmHeard; decide +kernel, by decide +kernel⟩,
   ⟨.owner, 0, { user := .miller, cmd := 0x00000204, len0 := 0, len1 := 0, arg := 0, input := [], second := false, job := some 7 }, jobT, { (modTr upT .owner fun z_ => { z_ with phase := .negotiated, signing := some jobT }) with pke.core0.state := .millerOp, pke.core0.req := some { user := .miller, cmd := 0x00000204, len0 := 0, len1 := 0, arg := 0, input := [], second := false, job := some 7 } }, four (by decide +kernel) (four (by decide +kernel) ⟨(fun k j h e => by cases k <;> first | exact absurd rfl h | exact nomatch (show none = some j from e)), by decide +kernel⟩)⟩,
   ⟨.owner, 1, (modTr upT .owner fun z_ => { z_ with phase := .negotiated, session := some 1 }), by unfold spdmOpen spdmTakes spdmHeard; decide +kernel, by decide +kernel⟩,
   ⟨.owner, 1, (modTr { upT with dge.ctx := upT.dge.ctx.set 0 { ({} : Context) with fault := true } } .owner fun z_ => { z_ with phase := .negotiated, session := some 1, ctx := some 0 }), by unfold spdmOpen spdmTakes spdmHeard; decide +kernel, by decide +kernel⟩,
   ⟨.owner, 1, (modTr upT .owner fun z_ => { z_ with phase := .negotiated, session := some 1, established := true }), by unfold spdmOpen spdmTakes spdmHeard; decide +kernel, by decide +kernel⟩,
   ⟨.owner, [], (modTr upT .owner fun z_ => { z_ with phase := .negotiated }), by unfold spdmOpen spdmTakes spdmHeard; decide +kernel, by decide +kernel⟩,
   ⟨.owner, 1, [], (modTr upT .owner fun z_ => { z_ with phase := .negotiated, chunks := [[0]] }), by unfold spdmOpen spdmTakes spdmHeard; decide +kernel, by decide +kernel⟩,
   ⟨.owner, 0, 4, [1], (modTr upT .owner fun z_ => { z_ with phase := .negotiated, large := some (0, 4, [1]), dataSize := 64 }), by unfold spdmOpen spdmTakes spdmHeard; decide +kernel, by decide +kernel⟩,
   ⟨.owner, { cmd := 7, seq := 0, epoch := 0, token := [], body := [], authDigest := 0, authorized := false, time := 0, ownFault := false, result := none }, (exeT (.owner) ({ cmd := 7, seq := 0, epoch := 0, token := [], body := [], authDigest := 0, authorized := false, time := 0, ownFault := false, result := none }) upT), by unfold executes; decide +kernel, by decide +kernel⟩,
   ⟨.owner, { cmd := 7, seq := 0, epoch := 0, token := [], body := [], authDigest := 0, authorized := false, time := 0, ownFault := false, result := none }, (exeT (.owner) ({ cmd := 7, seq := 0, epoch := 0, token := [], body := [], authDigest := 0, authorized := false, time := 0, ownFault := false, result := none }) upT), by unfold executes; decide +kernel, by decide +kernel⟩,
   ⟨.owner, 7, [], upT, by unfold spdmHeard; decide +kernel, by decide +kernel⟩,
   ⟨.owner, 1, (modTr upT .owner fun z_ => { z_ with phase := .negotiated, session := some 1, established := true, keyed := true }), by unfold spdmHeard; decide +kernel, by decide +kernel⟩⟩

theorem test_witness_I3cTargetAnswers :
    (∃ (s : State), s.i3cUp = true)
    ∧ (∃ (s : State), s.i3cPrivate = true)
    ∧ (∃ (s : State), s.i3cPrivate = true)
    ∧ (∃ (s : State), s.i3cPrivate = true)
    ∧ (∃ (s : State), s.i3cPrivate = true)
    ∧ (∃ (s : State), s.i3cPrivate = false)
    ∧ (∃ (a : Nat) (s : State), s.i3cPrivate = true ∧ a % 4 = 0 ∧ a < 2 ^ 24)
    ∧ (∃ (a : Nat) (n : Nat) (s : State), s.i3cPrivate = true ∧ a % 4 = 0 ∧ n ≤ 256 ∧ a + 256 ≤ 2 ^ 24)
    ∧ (∃ (s : State), s.i3cPrivate = false) :=
  ⟨⟨upT, by decide +kernel⟩,
   ⟨{ upT with i3c.addr := some 1 }, by decide +kernel⟩,
   ⟨{ upT with i3c.addr := some 1 }, by decide +kernel⟩,
   ⟨{ upT with i3c.addr := some 1 }, by decide +kernel⟩,
   ⟨{ upT with i3c.addr := some 1 }, by decide +kernel⟩,
   ⟨upT, by decide +kernel⟩,
   ⟨0xFFFFFC, { upT with i3c.addr := some 1 }, by decide +kernel⟩,
   ⟨0xFFFF00, 64, { upT with i3c.addr := some 1 }, by decide +kernel⟩,
   ⟨upT, by decide +kernel⟩⟩

theorem test_witness_EngineWindowCommands :
    (∃ (s : State), s.ownerWrites = true ∧ engineCalm s ∧ s.pke.status = 0 ∧ s.pke.queue = [] ∧ s.pke.waiting = [] ∧ s.pke.core0.state = .idle ∧ s.pke.ownerCore = none)
    ∧ (∃ (s : State), 1 ≤ s.pke.status ∧ s.pke.status ≤ 3)
    ∧ (∃ (s : State), s.ownerWrites = false)
    ∧ (∃ (s : State), s.ownerWrites = true ∧ s.pke.core0.state = .ownerGrant ∧ s.pkeRefuse (PkeArgs.mk s.pke.cmd s.pke.len0.toNat s.pke.len1.toNat s.pke.arg.toNat s.pke.core0.mem) true = none)
    ∧ (∃ (code : Nat) (s : State), s.ownerWrites = true ∧ s.pke.core0.state = .ownerGrant ∧ s.pkeRefuse (PkeArgs.mk s.pke.cmd s.pke.len0.toNat s.pke.len1.toNat s.pke.arg.toNat s.pke.core0.mem) true = some code)
    ∧ (∃ (s : State), s.pke.ownerCore = none)
    ∧ (∃ (s : State), s.ownerWrites = true ∧ s.pke.status = 2 ∧ s.pke.core0.state = .ownerGrant ∧ s.pke.queue = [] ∧ s.pke.waiting = [])
    ∧ (∃ (s : State), s.pke.status = 0)
    ∧ (∃ (s : State), s.dark = false ∧ s.pke.core0.state = .millerOp ∧ s.pke.queue = [] ∧ s.pke.waiting = [])
    ∧ (∃ (s : State), s.ownerWrites = true ∧ engineCalm s ∧ s.pke.core0.state = .ownerDone ∧ s.pke.queue = [] ∧ s.pke.waiting = [])
    ∧ (∃ (s : State), s.dark = false ∧ engineCalm s ∧ s.pke.core0.state = .ownerGrant ∧ s.pke.queue = [] ∧ s.pke.waiting = [])
    ∧ (∃ (r : PkeReq) (s : State), s.pkeOn = true ∧ s.pke.core0.state = .ownerOp ∧ s.pke.core0.req = some r ∧ r.user = .owner) :=
  ⟨⟨{ upT with fan.owner := some .m0 }, by decide +kernel, calm_of _ (by decide +kernel) (by decide +kernel) (by decide +kernel), by decide +kernel⟩,
   ⟨{ upT with pke.status := 3 }, by decide +kernel⟩,
   ⟨upT, by decide +kernel⟩,
   ⟨{ { upT with fan.owner := some .m0, pke.core0.state := .ownerGrant } with pke.cmd := 0x101, pke.len0 := 64 }, by decide +kernel⟩,
   ⟨_, { upT with fan.owner := some .m0, pke.core0.state := .ownerGrant }, by decide +kernel, by decide +kernel, rfl⟩,
   ⟨upT, by decide +kernel⟩,
   ⟨{ upT with fan.owner := some .m0, pke.status := 2, pke.core0.state := .ownerGrant, pke.queue := [], pke.waiting := [] }, by decide +kernel⟩,
   ⟨{ upT with pke.status := 0 }, by decide +kernel⟩,
   ⟨{ upT with pke.core0.state := .millerOp, pke.queue := [], pke.waiting := [] }, by decide +kernel⟩,
   ⟨{ upT with fan.owner := some .m0, pke.core0.state := .ownerDone, pke.queue := [], pke.waiting := [] }, by decide +kernel, calm_of _ (by decide +kernel) (by decide +kernel) (by decide +kernel), by decide +kernel⟩,
   ⟨{ upT with pke.core0.state := .ownerGrant, pke.queue := [], pke.waiting := [] }, by decide +kernel, calm_of _ (by decide +kernel) (by decide +kernel) (by decide +kernel), by decide +kernel⟩,
   ⟨reqT, { upT with pke.core0.state := .ownerOp, pke.core0.req := some (reqT) }, by decide +kernel⟩⟩

theorem test_witness_EngineAndDrbgFaults :
    (∃ (cmd : Word) (a : Word) (b : Word) (c : Word) (ins : List Byte) (s : State), s.dark = false ∧ engineCalm s ∧ s.pke.core0.state = .idle ∧ s.pke.queue = [] ∧ s.pke.waiting = [] ∧ s.pkeRefuse (PkeArgs.mk cmd a.toNat b.toNat c.toNat (memWrites [] 0 ins)) false = none)
    ∧ (∃ (cmd : Word) (a : Word) (b : Word) (c : Word) (ins : List Byte) (code : Nat) (s : State), s.dark = false ∧ engineCalm s ∧ s.pke.queue = [] ∧ s.pke.waiting = [] ∧ s.pkeRefuse (PkeArgs.mk cmd a.toNat b.toNat c.toNat (memWrites [] 0 ins)) false = some code)
    ∧ (∃ (r : PkeReq) (first : Option PkeOut) (second : Option PkeOut) (s : State), s.dark = false ∧ s.pkeOn = true ∧ engineCalm s ∧ s.pke.core0.state = .ownerOp ∧ s.pke.core0.req = some r ∧ r.user = .owner ∧ r.second = false ∧ s.pke.core1.state ≠ .idle ∧ s.pke.queue = [] ∧ s.pke.waiting = [] ∧ ((faultCheck (s.pkeMode 0) (cmdOp r.cmd) = .repeatAndCompare ∧ first.getD (s.pkeRun r.args true) ≠ second.getD (s.pkeRun r.args true)) ∨ (faultCheck (s.pkeMode 0) (cmdOp r.cmd) = .verifyBeforeRelease ∧ ∃ w, first = some w ∧ s.signatureGood r.args w = false)))
    ∧ (∃ (s : State), s.pkeOn = true ∧ s.pke.core0.state = .kat ∧ s.pke.queue = [] ∧ s.pke.waiting = [] ∧ (recent s.pke.core0.faultAt 60000000000 s.pke.core0.transients).length ≤ 4)
    ∧ (∃ (pass : Bool) (s : State), s.pkeOn = true ∧ s.pke.core0.state = .kat ∧ ((pass = false ∨ 4 < (recent s.pke.core0.faultAt 60000000000 s.pke.core0.transients).length)))
    ∧ (∃ (c : Fin 2) (s : State), ((s.pke.core c).state ≠ .kat ∨ s.pkeOn = false))
    ∧ (∃ (s : State), s.dark = false ∧ s.pke.core0.recovery = true ∧ s.pke.core0.state ≠ .kat)
    ∧ (∃ (c : Fin 2) (s : State), ((s.pke.core c).state ≠ .powerKat ∨ s.pkeOn = false))
    ∧ (∃ (s : State), s.pkeOn = true ∧ s.pke.core0.state = .powerKat ∧ s.pke.queue = [] ∧ s.pke.waiting = [])
    ∧ (∃ (s : State), s.pkeOn = true ∧ s.pke.core0.state = .powerKat)
    ∧ (∃ (s : State), s.dark = false ∧ s.drbg.failed = false ∧ s.drbg.seeded = true ∧ 65536 ≤ s.drbg.requests)
    ∧ (∃ (s : State), s.drbg.failed = false ∧ s.drbg.requests < 65536)
    ∧ (∃ (s : State), s.drbg.failed = true)
    ∧ (∃ (s : State), s.dark = true)
    ∧ (∃ (s : State), s.dark = false ∧ s.drbg.failed = false)
    ∧ (∃ (r : PkeReq) (s : State), s.dark = false ∧ s.drbg.failed = false ∧ s.pke.core0.state = .millerOp ∧ s.pke.core0.req = some r ∧ s.pkeRefuse r.args false = none ∧ needsDrbg (cmdOp r.cmd) = true ∧ s.pke.queue = [] ∧ s.pke.waiting = []) :=
  ⟨⟨0x102, 32, 0, 0, [], { upT with pke.core0.state := .idle, pke.queue := [], pke.waiting := [] }, by decide +kernel, calm_of _ (by decide +kernel) (by decide +kernel) (by decide +kernel), by decide +kernel⟩,
   ⟨0, 0, 0, 0, [], 0x23, { upT with pke.queue := [], pke.waiting := [] }, by decide +kernel, calm_of _ (by decide +kernel) (by decide +kernel) (by decide +kernel), by decide +kernel⟩,
   ⟨{ user := .owner, cmd := 0x102, len0 := 32, len1 := 0, arg := 0, input := [], second := false }, some (0x10, []), some (0x11, []), { { upT with pke.core0.state := .ownerOp, pke.core0.req := some { user := .owner, cmd := 0x102, len0 := 32, len1 := 0, arg := 0, input := [], second := false }, pke.core1.state := .millerOp } with pke.core1.state := .millerOp }, by decide +kernel, by decide +kernel, calm_of _ (by decide +kernel) (by decide +kernel) (by decide +kernel), four (by decide +kernel) ⟨by decide +kernel, by decide +kernel, by decide +kernel, .inl (by decide +kernel)⟩⟩,
   ⟨{ upT with pke.core0.state := .kat, pke.queue := [], pke.waiting := [] }, by decide +kernel⟩,
   ⟨false, { upT with pke.core0.state := .kat }, by decide +kernel⟩,
   ⟨0, upT, by decide +kernel⟩,
   ⟨{ upT with pke.core0.recovery := true }, by decide +kernel⟩,
   ⟨0, upT, by decide +kernel⟩,
   ⟨{ upT with pke.core0.state := .powerKat, pke.queue := [], pke.waiting := [] }, by decide +kernel⟩,
   ⟨{ upT with pke.core0.state := .powerKat }, by decide +kernel⟩,
   ⟨{ upT with drbg.requests := 65536 }, by decide +kernel⟩,
   ⟨{ upT with drbg.failed := false }, by decide +kernel⟩,
   ⟨{ upT with drbg.failed := true }, by decide +kernel⟩,
   ⟨{ upT with aonb.backup := true }, by decide +kernel⟩,
   ⟨{ upT with drbg.failed := false }, by decide +kernel⟩,
   ⟨{ user := .miller, cmd := 0x101, len0 := 32, len1 := 0, arg := 0, input := [], second := false }, { upT with pke.core0.state := .millerOp, pke.core0.req := some { user := .miller, cmd := 0x101, len0 := 32, len1 := 0, arg := 0, input := [], second := false } }, by decide +kernel⟩⟩

theorem test_witness_DigestWindowCommands :
    (∃ (n : Fin 4) (s : State), s.ownerWrites = true ∧ (s.dge.ctx[winCtx n]).state = .free ∧ (∀ k < n, (s.dge.ctx[winCtx k]).state ≠ .free))
    ∧ (∃ (s : State), s.ownerWrites = false)
    ∧ (∃ (s : State), s.ownerWrites = true ∧ (∀ n : Fin 4, (s.dge.ctx[winCtx n]).state ≠ .free))
    ∧ (∃ (n : Fin 4) (s : State), s.ownerWrites = true ∧ (s.dge.ctx[winCtx n]).state ≠ .free ∧ s.fab.queue = [])
    ∧ (∃ (n : Fin 4) (s : State), (s.dge.ctx[winCtx n]).state = .free)
    ∧ (∃ (n : Fin 4) (s : State), (s.dge.ctx[winCtx n]).state ≠ .opened)
    ∧ (∃ (n : Fin 4) (s : State), s.ownerWrites = true ∧ (s.dge.ctx[winCtx n]).state = .opened ∧ (s.dge.ctx[winCtx n]).busy = true)
    ∧ (∃ (n : Fin 4) (s : State), s.ownerWrites = true ∧ (s.dge.ctx[winCtx n]).state = .opened ∧ (s.dge.ctx[winCtx n]).busy = false ∧ (s.dge.ctx[winCtx n]).len ≤ (s.dge.ctx[winCtx n]).msg.length)
    ∧ (∃ (n : Fin 4) (c : Context) (s : State), s.ownerWrites = true ∧ s.dge.ctx[winCtx n] = c ∧ c.state = .opened ∧ c.busy = false ∧ c.finalKept = false ∧ c.msg.length < c.len)
    ∧ (∃ (n : Fin 4) (s : State), s.ownerWrites = true ∧ (s.dge.ctx[winCtx n]).state = .opened ∧ (s.dge.ctx[winCtx n]).busy = true)
    ∧ (∃ (n : Fin 4) (s : State), s.ownerWrites = true ∧ (s.dge.ctx[winCtx n]).state = .opened ∧ (s.dge.ctx[winCtx n]).busy = false ∧ (s.dge.ctx[winCtx n]).msg.length < (s.dge.ctx[winCtx n]).len ∧ s.fab.queue = [])
    ∧ (∃ (n : Fin 4) (c : Context) (s : State), s.ownerWrites = true ∧ s.dge.ctx[winCtx n] = c ∧ c.state = .opened ∧ c.busy = false ∧ c.len ≤ c.msg.length)
    ∧ (∃ (n : Fin 16) (s : State), s.dark = false ∧ 12 ≤ n.val ∧ (s.dge.ctx[n]).state = .finalizing ∧ s.fab.queue = [])
    ∧ (∃ (n : Fin 16) (s : State), s.dark = false ∧ n.val < 12 ∧ (s.dge.ctx[n]).state = .finalizing ∧ s.fab.queue = [])
    ∧ (∃ (s : State), s.ownerWrites = true ∧ s.fab.queue = [])
    ∧ (∃ (s : State), s.dark = false) :=
  ⟨⟨1, { upT with fan.owner := some .m0, dge.ctx := upT.dge.ctx.set 12 { ({} : Context) with state := .opened } }, by decide +kernel⟩,
   ⟨upT, by decide +kernel⟩,
   ⟨{ upT with fan.owner := some .m0, dge.ctx := Vector.replicate 16 { ({} : Context) with state := .opened } }, by decide +kernel⟩,
   ⟨0, { upT with fan.owner := some .m0, dge.ctx := upT.dge.ctx.set 12 { ({} : Context) with state := .ready } }, by decide +kernel⟩,
   ⟨0, { upT with dge := { upT.dge with ctx := upT.dge.ctx.set (winCtx (0) : Fin 16).val { upT.dge.ctx[winCtx (0)] with state := .free } } }, by decide +kernel⟩,
   ⟨0, upT, by decide +kernel⟩,
   ⟨0, { upT with fan.owner := some .m0, dge.ctx := upT.dge.ctx.set 12 { ({} : Context) with state := .opened, busy := true } }, by decide +kernel⟩,
   ⟨0, { upT with fan.owner := some .m0, dge.ctx := upT.dge.ctx.set 12 { ({} : Context) with state := .opened } }, by decide +kernel⟩,
   ⟨0, { ({} : Context) with state := .opened, len := 8 }, { upT with fan.owner := some .m0, dge.ctx := upT.dge.ctx.set 12 { ({} : Context) with state := .opened, len := 8 } }, by decide +kernel⟩,
   ⟨0, { upT with fan.owner := some .m0, dge.ctx := upT.dge.ctx.set 12 { ({} : Context) with state := .opened, busy := true } }, by decide +kernel⟩,
   ⟨0, { upT with fan.owner := some .m0, dge.ctx := upT.dge.ctx.set 12 { ({} : Context) with state := .opened, len := 8 } }, by decide +kernel⟩,
   ⟨0, { ({} : Context) with state := .opened }, { upT with fan.owner := some .m0, dge.ctx := upT.dge.ctx.set 12 { ({} : Context) with state := .opened } }, by decide +kernel⟩,
   ⟨15, { upT with dge.ctx := Vector.replicate 16 { state := .finalizing } }, by decide +kernel⟩,
   ⟨3, { upT with dge.ctx := Vector.replicate 16 { state := .finalizing } }, by decide +kernel⟩,
   ⟨{ upT with fan.owner := some .m0, fab.queue := [] }, by decide +kernel⟩,
   ⟨upT, by decide +kernel⟩⟩

theorem test_witness_LinkTrainingMovesPorts :
    (∃ (l : LinkId) (good : BitVec 4) (peer : BitVec 4) (s : State), (s.lport l).tstate ≠ 6 ∧ (s.lport l).width = 0 ∧ s.gov.state ≠ .deep ∧ s.dark = false ∧ s.gov.porstLow = false ∧ s.gov.vddl = true ∧ s.gov.vddlh = true ∧ s.gov.refclk = true ∧ good &&& ~~~(s.lport l).retired &&& peer ≠ 0)
    ∧ (∃ (l : LinkId) (s : State), (s.lport l).tstate ≠ 6 ∧ (s.lport l).failedTries ≠ 2 ∧ s.gov.state ≠ .deep ∧ s.dark = false ∧ s.gov.porstLow = false)
    ∧ (∃ (l : LinkId) (s : State), (s.lport l).tstate ≠ 6 ∧ (s.lport l).failedTries = 2 ∧ s.gov.state ≠ .deep ∧ s.dark = false ∧ s.gov.porstLow = false)
    ∧ (∃ (l : LinkId) (s : State), ((s.lport l).tstate = 6 ∨ s.gov.state = .deep ∨ s.dark = true ∨ s.gov.porstLow = true))
    ∧ (∃ (l : LinkId) (s : State), (s.lport l).tstate = 0 ∧ s.gov.state ≠ .deep ∧ s.dark = false)
    ∧ (∃ (l : LinkId) (s : State), ((s.lport l).tstate ≠ 0 ∨ s.gov.state = .deep ∨ s.dark = true))
    ∧ (∃ (l : LinkId) (s : State), s.dark = false ∧ (s.lport l).tstate ≠ 0)
    ∧ (∃ (l : LinkId) (i : Fin 4) (s : State), s.lnkOn l = true ∧ (s.lport l).inService.getLsbD i.val = true)
    ∧ (∃ (l : LinkId) (i : Fin 4) (s : State), (s.lnkOn l = false ∨ (s.lport l).inService.getLsbD i.val = false))
    ∧ (∃ (sync : BitVec 2) (kind : Byte), laneError sync kind = false)
    ∧ (∃ (l : LinkId) (i : Fin 4) (sync : BitVec 2) (kind : Byte) (s : State), s.lnkOn l = true ∧ (s.lport l).inService.getLsbD i.val = true ∧ laneError sync kind = true)
    ∧ (∃ (l : LinkId) (s : State), s.lnkOn l = true) :=
  ⟨⟨.la, 8, 8, (State.modLport { upT with gov.porstLow := false, gov.vddl := true, gov.vddlh := true, gov.refclk := true } (.la) fun z_ => { z_ with width := 0 }), by decide +kernel⟩,
   ⟨.la, { upT with gov.porstLow := false }, by decide +kernel⟩,
   ⟨.la, (State.modLport { upT with gov.porstLow := false } (.la) fun z_ => { z_ with failedTries := 2 }), by decide +kernel⟩,
   ⟨.la, (State.modLport upT (.la) fun z_ => { z_ with tstate := 6 }), by decide +kernel⟩,
   ⟨.la, (State.modLport upT (.la) fun z_ => { z_ with tstate := 0 }), by decide +kernel⟩,
   ⟨.la, upT.modLport .la fun z_ => { z_ with tstate := 3 }, by decide +kernel⟩,
   ⟨.la, upT.modLport .la fun z_ => { z_ with tstate := 3 }, by decide +kernel⟩,
   ⟨.la, 3, upT.modLport .la fun z_ => { z_ with tstate := 6, inService := 8 }, by decide +kernel⟩,
   ⟨.la, 0, upT, by decide +kernel⟩,
   ⟨1, 0, by decide +kernel⟩,
   ⟨.la, 3, 0, 0, upT.modLport .la fun z_ => { z_ with tstate := 6, inService := 8 }, by decide +kernel⟩,
   ⟨.la, (State.modLport upT (.la) fun z_ => { z_ with tstate := 6 }), by decide +kernel⟩⟩

theorem test_witness_FramesStartAndArrive :
    (∃ (l : LinkId) (f : Frame) (rest : List Frame) (s : State), s.lnkOn l = true ∧ (s.lport l).txq = f :: rest ∧ f.vc = false ∧ (s.lport (otherLink l)).fwd = [] ∧ (s.lport l).held + f.padded ≤ 16384 ∧ (s.lport l).vc0Used s.now + f.padded ≤ 2048 ∧ (s.lport l).hasCredit (poolOf false (!s.chargesTerm l f)) f.cost = true)
    ∧ (∃ (l : LinkId) (s : State), (s.lnkOn l = false ∨ ((s.lport l).txq = [] ∧ (s.lport (otherLink l)).fwd = [])))
    ∧ (∃ (l : LinkId) (f : Frame) (rest : List Frame) (s : State), s.lnkOn (otherLink l) = true ∧ (s.lport l).fwd = f :: rest ∧ f.vc = false ∧ (s.lport (otherLink l)).txq = [] ∧ (s.lport (otherLink l)).held + f.padded ≤ 16384 ∧ (s.lport (otherLink l)).vc0Used s.now + f.padded ≤ 2048 ∧ (s.lport (otherLink l)).hasCredit (poolOf false (!s.chargesTerm (otherLink l) f)) f.cost = true)
    ∧ (∃ (l : LinkId) (h : Nat) (bs : List Byte) (s : State), s.lnkOn l = true ∧ (h + 4096 - (s.lport l).rxSeq) % 4096 = 0 ∧ hcrcOk bs = true ∧ crcOk bs = true ∧ formatOk bs = true ∧ s.isHere (frameOf bs) = true ∧ (frameOf bs).vc = true ∧ (frameOf bs).cost ≤ ((s.lport l).g[(2 : Fin 4)] - (s.lport l).used[(2 : Fin 4)]).toNat)
    ∧ (∃ (l : LinkId) (h : Nat) (bs : List Byte) (s : State), s.lnkOn l = true ∧ (h + 4096 - (s.lport l).rxSeq) % 4096 = 0 ∧ hcrcOk bs = true ∧ crcOk bs = true ∧ formatOk bs = true ∧ s.isHere (frameOf bs) = false ∧ ((9 ≤ (frameOf bs).dest ∧ (frameOf bs).dest ≤ 14) ∨ (s.lport (otherLink l)).up = false) ∧ (frameOf bs).cost ≤ ((s.lport l).g[s.rxPool (frameOf bs)] - (s.lport l).used[s.rxPool (frameOf bs)]).toNat)
    ∧ (∃ (l : LinkId) (h : Nat) (bs : List Byte) (s : State), s.lnkOn l = true ∧ (h + 4096 - (s.lport l).rxSeq) % 4096 = 0 ∧ hcrcOk bs = true ∧ crcOk bs = true ∧ ((s.lport l).g[s.rxPool (frameOf bs)] - (s.lport l).used[s.rxPool (frameOf bs)]).toNat < (frameOf bs).cost)
    ∧ (∃ (l : LinkId) (h : Nat) (s : State), s.lnkOn l = true ∧ 2048 ≤ (h + 4096 - (s.lport l).rxSeq) % 4096)
    ∧ (∃ (l : LinkId) (h : Nat) (s : State), s.lnkOn l = true ∧ 0 < (h + 4096 - (s.lport l).rxSeq) % 4096 ∧ (h + 4096 - (s.lport l).rxSeq) % 4096 < 2048 ∧ (s.lport l).nakSent = true)
    ∧ (∃ (l : LinkId) (h : Nat) (bs : List Byte) (s : State), s.lnkOn l = true ∧ (((0 < (h + 4096 - (s.lport l).rxSeq) % 4096 ∧ (h + 4096 - (s.lport l).rxSeq) % 4096 < 2048 ∧ (s.lport l).nakSent = false) ∨ ((h + 4096 - (s.lport l).rxSeq) % 4096 = 0 ∧ hcrcOk bs = false))))
    ∧ (∃ (l : LinkId) (h : Nat) (bs : List Byte) (s : State), s.lnkOn l = true ∧ (h + 4096 - (s.lport l).rxSeq) % 4096 = 0 ∧ hcrcOk bs = true ∧ crcOk bs = false ∧ crcStomped bs = false)
    ∧ (∃ (l : LinkId) (h : Nat) (bs : List Byte) (s : State), s.lnkOn l = true ∧ (h + 4096 - (s.lport l).rxSeq) % 4096 = 0 ∧ hcrcOk bs = true ∧ crcOk bs = false ∧ crcStomped bs = true ∧ (frameOf bs).cost ≤ ((s.lport l).g[s.rxPool (frameOf bs)] - (s.lport l).used[s.rxPool (frameOf bs)]).toNat)
    ∧ (∃ (l : LinkId) (h : Nat) (bs : List Byte) (s : State), s.lnkOn l = true ∧ (h + 4096 - (s.lport l).rxSeq) % 4096 = 0 ∧ hcrcOk bs = true ∧ crcOk bs = false ∧ crcStomped bs = true ∧ ((s.lport l).g[s.rxPool (frameOf bs)] - (s.lport l).used[s.rxPool (frameOf bs)]).toNat < (frameOf bs).cost)
    ∧ (∃ (l : LinkId) (s : State), s.lnkOn l = false) :=
  ⟨⟨.la, frameT, [], (State.modLport (State.modLport (State.modLport upT (.la) fun z_ => { z_ with tstate := 6, txq := (frameT) :: ([]) }) (otherLink (.la)) fun z_ => { z_ with fwd := [] }) (.la) fun z_ => { z_ with glast := Vector.replicate 4 1 }), by decide +kernel⟩,
   ⟨.la, upT, by decide +kernel⟩,
   ⟨.la, frameT, [], (State.modLport (State.modLport (State.modLport upT (otherLink (.la)) fun z_ => { z_ with tstate := 6, txq := [] }) (.la) fun z_ => { z_ with fwd := (frameT) :: ([]) }) (otherLink (.la)) fun z_ => { z_ with glast := Vector.replicate 4 1 }), by decide +kernel⟩,
   ⟨.la, 4095, (bytesT { frameT with type := 5, vc := true }), { upT.modLport .la fun z_ => { z_ with tstate := 6, rxSeq := 4095, g := Vector.replicate 4 1 } with sys.node := 1 }, by decide +kernel⟩,
   ⟨.la, 4095, (bytesT { frameT with dest := 14 }), { upT.modLport .la fun z_ => { z_ with tstate := 6, rxSeq := 4095, g := Vector.replicate 4 1 } with sys.node := 1 }, by decide +kernel⟩,
   ⟨.la, 0, (bytesT { frameT with dest := 2 }), upT.modLport .la fun z_ => { z_ with tstate := 6 }, by decide +kernel⟩,
   ⟨.la, 2048, (State.modLport upT (.la) fun z_ => { z_ with tstate := 6 }), by decide +kernel⟩,
   ⟨.la, 2047, (State.modLport upT (.la) fun z_ => { z_ with tstate := 6, nakSent := true }), by decide +kernel⟩,
   ⟨.la, 1, [], (State.modLport upT (.la) fun z_ => { z_ with tstate := 6, nakSent := false }), by decide +kernel⟩,
   ⟨.la, 4095, (bytesT frameT).take 16 ++ ((bytesT frameT).drop 16).map (fun b => b + 1), { upT.modLport .la fun z_ => { z_ with tstate := 6, rxSeq := 4095, g := Vector.replicate 4 1 } with sys.node := 1 }, by decide +kernel⟩,
   ⟨.la, 4095, (bytesT frameT).take 16 ++ ((bytesT frameT).drop 16).map (fun b => ~~~b), { upT.modLport .la fun z_ => { z_ with tstate := 6, rxSeq := 4095, g := Vector.replicate 4 1 } with sys.node := 1 }, by decide +kernel⟩,
   ⟨.la, 4095, (bytesT frameT).take 16 ++ ((bytesT frameT).drop 16).map (fun b => ~~~b), { upT.modLport .la fun z_ => { z_ with tstate := 6, rxSeq := 4095, g := Vector.replicate 4 0 } with sys.node := 1 }, by decide +kernel⟩,
   ⟨.la, upT, by decide +kernel⟩⟩

theorem test_witness_AcknowledgementsAndCredits :
    (∃ (l : LinkId) (s : State), s.lnkOn l = true)
    ∧ (∃ (l : LinkId) (a : Nat) (s : State), s.lnkOn l = true ∧ (∀ r ∈ (s.lport l).uncovered a, r.sends < 3))
    ∧ (∃ (l : LinkId) (s : State), s.lnkOn l = false)
    ∧ (∃ (l : LinkId) (s : State), s.lnkOn l = true ∧ (s.lport l).ackDue = true)
    ∧ (∃ (l : LinkId) (s : State), (s.lport l).ackDue = false)
    ∧ (∃ (l : LinkId) (s : State), s.lnkOn l = true ∧ (s.lport l).replay ≠ [] ∧ (∀ r ∈ (s.lport l).replay, r.sends < 3))
    ∧ (∃ (l : LinkId) (r : Replay) (s : State), s.lnkOn l = true ∧ r ∈ (s.lport l).replay ∧ 3 ≤ r.sends)
    ∧ (∃ (l : LinkId) (s : State), (s.lport l).replay = [])
    ∧ (∃ (l : LinkId) (s : State), s.lnkOn l = true)
    ∧ (∃ (l : LinkId) (s : State), s.lnkOn l = true)
    ∧ (∃ (l : LinkId) (s : State), s.lnkOn l = false) :=
  ⟨⟨.la, (State.modLport upT (.la) fun z_ => { z_ with tstate := 6 }), by decide +kernel⟩,
   ⟨.la, 4095, upT.modLport .la fun z_ => { z_ with tstate := 6, replay := [{ replayT with sends := 2 }] }, by decide +kernel⟩,
   ⟨.la, upT, by decide +kernel⟩,
   ⟨.la, (State.modLport upT (.la) fun z_ => { z_ with tstate := 6, ackDue := true }), by decide +kernel⟩,
   ⟨.la, (State.modLport upT (.la) fun z_ => { z_ with ackDue := false }), by decide +kernel⟩,
   ⟨.la, upT.modLport .la fun z_ => { z_ with tstate := 6, replay := [{ replayT with sends := 2 }] }, by decide +kernel⟩,
   ⟨.la, { replayT with sends := 3 }, upT.modLport .la fun z_ => { z_ with tstate := 6, replay := [({ replayT with sends := 3 })] }, by decide +kernel⟩,
   ⟨.la, (State.modLport upT (.la) fun z_ => { z_ with replay := [] }), by decide +kernel⟩,
   ⟨.la, (State.modLport upT (.la) fun z_ => { z_ with tstate := 6 }), by decide +kernel⟩,
   ⟨.la, (State.modLport upT (.la) fun z_ => { z_ with tstate := 6 }), by decide +kernel⟩,
   ⟨.la, upT, by decide +kernel⟩⟩

theorem test_witness_RegisterFramesAndBulkAreServed :
    (∃ (l : LinkId) (f : Frame) (s : State), s.dark = false ∧ served s l f 1 ∧ f.payload = [] ∧ f.argA % 4 = 0 ∧ 1 ≤ f.argB ∧ f.argB ≤ 64 ∧ f.argA + 4 * f.argB ≤ 0x1000000)
    ∧ (∃ (l : LinkId) (f : Frame) (s : State), s.dark = false ∧ served s l f 1 ∧ f.payload = [] ∧ f.argA % 4 = 0 ∧ 1 ≤ f.argB ∧ f.argB ≤ 64 ∧ 0x1000000 < f.argA + 4 * f.argB)
    ∧ (∃ (l : LinkId) (f : Frame) (m : Master) (k : Nat) (w : Word) (s : State), s.dark = false ∧ served s l f 3 ∧ masterOf f.src = some m ∧ m ≠ .m14 ∧ s.takesWrites m = true ∧ s.fan.owner = some m ∧ f.argB = 0 ∧ k < 32 ∧ f.argA = 0x4080 + 4 * k ∧ f.payload = leBytes 4 w.toNat)
    ∧ (∃ (l : LinkId) (f : Frame) (m : Master) (s : State), s.dark = false ∧ served s l f 3 ∧ masterOf f.src = some m ∧ m ≠ .m14 ∧ s.fan.owner ≠ some m ∧ f.argB = 0 ∧ f.argA % 4 = 0 ∧ 4 ≤ f.payload.length ∧ f.argA / 0x4000 = 1 ∧ f.argA + f.payload.length ≤ 0x1000000)
    ∧ (∃ (l : LinkId) (f : Frame) (s : State), s.dark = false ∧ served s l f 3 ∧ f.argB = 0 ∧ f.argA % 4 = 0 ∧ f.payload ≠ [] ∧ 0x1000000 < f.argA + f.payload.length)
    ∧ (∃ (l : LinkId) (s : State), (s.lport l).term0 = [])
    ∧ (∃ (l : LinkId) (f : Frame) (rest : List Frame) (x : Transfer) (s : State), s.dark = false ∧ (s.lport l).term1 = f :: rest ∧ s.hop.current = some x ∧ x.id = f.argB ∧ s.hop.takes f.argB f.argA f.payload = true)
    ∧ (∃ (l : LinkId) (f : Frame) (rest : List Frame) (s : State), s.dark = false ∧ (s.lport l).term1 = f :: rest ∧ ((s.hop.current = none ∨ ∃ x, s.hop.current = some x ∧ x.id ≠ f.argB)))
    ∧ (∃ (l : LinkId) (f : Frame) (rest : List Frame) (s : State), (s.lport l).term1 = f :: rest ∧ s.hop.takes f.argB f.argA f.payload = false)
    ∧ (∃ (l : LinkId) (s : State), (s.lport l).term1 = []) :=
  ⟨⟨.la, { frameT with argA := 0xFFFF00, argB := 64 }, (srvT (.la) ({ frameT with argA := 0xFFFF00, argB := 64 }) upT), by decide +kernel, ⟨⟨_, rfl⟩, by decide +kernel⟩, by decide +kernel⟩,
   ⟨.la, { frameT with argA := 0xFFFF04, argB := 64 }, (srvT (.la) ({ frameT with argA := 0xFFFF04, argB := 64 }) upT), by decide +kernel, ⟨⟨_, rfl⟩, by decide +kernel⟩, by decide +kernel⟩,
   ⟨.la, { frameT with type := 3, argA := 0x40FC, argB := 0, payload := [0, 0, 0, 0] }, .m0, 31, 0, { (srvT (.la) ({ frameT with type := 3, argA := 0x40FC, argB := 0, payload := [0, 0, 0, 0] }) upT) with fan.owner := some (.m0) }, by decide +kernel, ⟨⟨_, rfl⟩, by decide +kernel⟩, by decide +kernel⟩,
   ⟨.la, { frameT with type := 3, argA := 0x4000, argB := 0, payload := [0, 0, 0, 0] }, .m0, (srvT (.la) ({ frameT with type := 3, argA := 0x4000, argB := 0, payload := [0, 0, 0, 0] }) upT), by decide +kernel, ⟨⟨_, rfl⟩, by decide +kernel⟩, by decide +kernel⟩,
   ⟨.la, { frameT with type := 3, argA := 0xFFFFFC, argB := 0, payload := zT 8 }, (srvT (.la) ({ frameT with type := 3, argA := 0xFFFFFC, argB := 0, payload := zT 8 }) upT), by decide +kernel, ⟨⟨_, rfl⟩, by decide +kernel⟩, by decide +kernel⟩,
   ⟨.la, (State.modLport upT (.la) fun z_ => { z_ with term0 := [] }), by decide +kernel⟩,
   ⟨.la, frameT, [], transT, (State.modLport { upT with hop.current := some (transT) } (.la) fun z_ => { z_ with term1 := (frameT) :: ([]) }), by decide +kernel⟩,
   ⟨.la, frameT, [], (State.modLport { upT with hop.current := none } (.la) fun z_ => { z_ with term1 := (frameT) :: ([]) }), by decide +kernel⟩,
   ⟨.la, { frameT with type := 5, vc := true, argA := 0x200000, argB := 1, payload := [1, 2, 3, 4] }, [], { upT.modLport .la fun z_ => { z_ with term1 := [({ frameT with type := 5, vc := true, argA := 0x200000, argB := 1, payload := [1, 2, 3, 4] })] } with hop.current := some (fullT 0x200000) }, rfl, full_refuses _ (Nat.le_refl _) _ rfl⟩,
   ⟨.la, (State.modLport upT (.la) fun z_ => { z_ with term1 := [] }), by decide +kernel⟩⟩

theorem test_witness_EventFramesAndEnumeration :
    (∃ (r : Record) (rest : List Record) (n : Nat) (s : State), s.dark = false ∧ s.evt.toOwner = r :: rest ∧ s.ownerNode = some n ∧ s.evt.unacked.length < 32 ∧ s.sys.node ≠ 0 ∧ (s.lport (s.portTo n)).up = true)
    ∧ (∃ (s : State), (s.evt.toOwner = [] ∨ 32 ≤ s.evt.unacked.length ∨ s.ownerNode = none))
    ∧ (∃ (n : Nat) (s : State), s.dark = false ∧ s.ownerNode = some n ∧ s.sys.node ≠ 0 ∧ (s.lport (s.portTo n)).up = true)
    ∧ (∃ (l : LinkId) (f : Frame) (rest : List Frame) (s : State), s.dark = false ∧ (s.lport l).term0 = f :: rest ∧ f.type = 7)
    ∧ (∃ (l : LinkId) (s : State), (s.lport l).term0 = [])
    ∧ (∃ (f : Frame) (rest : List Frame) (s : State), s.dark = false ∧ s.link.lb.term0 = f :: rest ∧ f.type = 8 ∧ f.argB % 16 = 1 ∧ s.deviceOn .la = true)
    ∧ (∃ (l : LinkId) (f : Frame) (rest : List Frame) (s : State), s.dark = false ∧ (s.lport l).term0 = f :: rest ∧ f.type = 8 ∧ f.argB % 16 = 1 ∧ ((l = .la ∨ s.deviceOn .la = false)))
    ∧ (∃ (f : Frame) (rest : List Frame) (s : State), s.dark = false ∧ s.link.la.term0 = f :: rest ∧ f.type = 8 ∧ f.argB % 16 = 2 ∧ 1 ≤ f.argA ∧ f.argA ≤ 8)
    ∧ (∃ (f : Frame) (rest : List Frame) (s : State), s.dark = false ∧ s.link.la.term0 = f :: rest ∧ f.type = 8 ∧ f.argB % 16 = 2 ∧ 8 < f.argA)
    ∧ (∃ (f : Frame) (rest : List Frame) (s : State), s.dark = false ∧ s.link.lb.term0 = f :: rest ∧ f.type = 8 ∧ f.argB % 16 = 2)
    ∧ (∃ (l : LinkId) (f : Frame) (rest : List Frame) (s : State), s.dark = false ∧ (s.lport l).term0 = f :: rest ∧ f.type = 8 ∧ f.argB % 16 = 3)
    ∧ (∃ (l : LinkId) (s : State), (s.lport l).term0 = []) :=
  ⟨⟨recT, [], 0, { upT.modLport .la fun z_ => { z_ with tstate := 6 } with sys.node := 1, fan.owner := some .m0, evt.toOwner := [recT] }, by decide +kernel⟩,
   ⟨{ upT with evt.toOwner := [] }, by decide +kernel⟩,
   ⟨0, { upT.modLport .la fun z_ => { z_ with tstate := 6 } with sys.node := 1, fan.owner := some .m0 }, by decide +kernel⟩,
   ⟨.la, { frameT with type := 7 }, [], (State.modLport upT (.la) fun z_ => { z_ with term0 := ({ frameT with type := 7 }) :: ([]) }), by decide +kernel⟩,
   ⟨.la, (State.modLport upT (.la) fun z_ => { z_ with term0 := [] }), by decide +kernel⟩,
   ⟨{ frameT with type := 8, argB := 1 }, [], (upT.modLport .la fun z_ => { z_ with tstate := 6, peerRole := 1 }).modLport .lb fun z_ => { z_ with term0 := [({ frameT with type := 8, argB := 1 })] }, by decide +kernel⟩,
   ⟨.la, { frameT with type := 8, argB := 1 }, [], (State.modLport upT (.la) fun z_ => { z_ with term0 := ({ frameT with type := 8, argB := 1 }) :: ([]) }), by decide +kernel⟩,
   ⟨{ frameT with type := 8, argB := 2, argA := 8 }, [], { upT with link.la.term0 := ({ frameT with type := 8, argB := 2, argA := 8 }) :: ([]) }, by decide +kernel⟩,
   ⟨{ frameT with type := 8, argB := 2, argA := 9 }, [], { upT with link.la.term0 := ({ frameT with type := 8, argB := 2, argA := 9 }) :: ([]) }, by decide +kernel⟩,
   ⟨{ frameT with type := 8, argB := 2 }, [], { upT with link.lb.term0 := ({ frameT with type := 8, argB := 2 }) :: ([]) }, by decide +kernel⟩,
   ⟨.la, { frameT with type := 8, argB := 3 }, [], (State.modLport upT (.la) fun z_ => { z_ with term0 := ({ frameT with type := 8, argB := 3 }) :: ([]) }), by decide +kernel⟩,
   ⟨.la, (State.modLport upT (.la) fun z_ => { z_ with term0 := [] }), by decide +kernel⟩⟩

theorem test_witness_ClaimsAreHeldGrantedOrRefused :
    (∃ (l : LinkId) (e : Bool) (f : Frame) (m : Master) (s : State), s.dark = false ∧ fanFrom s l f 2 m ∧ s.fan.prio m ≠ 0 ∧ s.fan.owner = none ∧ s.checkClaim m f.payload e = 0 ∧ s.fan.window = true)
    ∧ (∃ (l : LinkId) (e : Bool) (f : Frame) (m : Master) (s : State), s.dark = false ∧ fanFrom s l f 2 m ∧ s.fan.prio m ≠ 0 ∧ s.fan.owner = none ∧ s.checkClaim m f.payload e = 0 ∧ s.fan.window = false)
    ∧ (∃ (l : LinkId) (f : Frame) (m : Master) (s : State), s.dark = false ∧ fanFrom s l f 2 m ∧ s.fan.prio m = 0)
    ∧ (∃ (l : LinkId) (f : Frame) (m : Master) (s : State), s.dark = false ∧ fanFrom s l f 2 m ∧ s.fan.prio m ≠ 0 ∧ s.fan.owner.isSome = true)
    ∧ (∃ (l : LinkId) (e : Bool) (f : Frame) (m : Master) (s : State), s.dark = false ∧ fanFrom s l f 2 m ∧ s.fan.prio m ≠ 0 ∧ s.fan.owner = none ∧ s.checkClaim m f.payload e ≠ 0)
    ∧ (∃ (l : LinkId) (s : State), (s.lport l).term0 = []) :=
  ⟨⟨.la, false, { frameT with type := 9, argB := 2, payload := zT 232 }, .m0, { { (srvT (.la) ({ frameT with type := 9, argB := 2, payload := zT 232 }) upT) with fan.owner := none, fan.window := true } with fan.offered := true }, by decide +kernel, ⟨⟨⟨_, rfl⟩, by decide +kernel⟩, by decide +kernel⟩, by decide +kernel⟩,
   ⟨.la, false, { frameT with type := 9, argB := 2, payload := zT 232 }, .m0, { { (srvT (.la) ({ frameT with type := 9, argB := 2, payload := zT 232 }) upT) with fan.owner := none, fan.window := false } with fan.offered := true }, by decide +kernel, ⟨⟨⟨_, rfl⟩, by decide +kernel⟩, by decide +kernel⟩, by decide +kernel⟩,
   ⟨.la, { frameT with type := 9, argB := 2, payload := zT 232 }, .m0, { (srvT (.la) ({ frameT with type := 9, argB := 2, payload := zT 232 }) upT) with fan.prio0 := 0 }, by decide +kernel, ⟨⟨⟨_, rfl⟩, by decide +kernel⟩, by decide +kernel⟩, by decide +kernel⟩,
   ⟨.la, { frameT with type := 9, argB := 2, payload := zT 232 }, .m0, { (srvT (.la) ({ frameT with type := 9, argB := 2, payload := zT 232 }) upT) with fan.owner := some .m0 }, by decide +kernel, ⟨⟨⟨_, rfl⟩, by decide +kernel⟩, by decide +kernel⟩, by decide +kernel⟩,
   ⟨.la, false, { frameT with type := 9, argB := 2, payload := [] }, .m0, { (srvT (.la) ({ frameT with type := 9, argB := 2, payload := [] }) upT) with fan.owner := none }, by decide +kernel, ⟨⟨⟨_, rfl⟩, by decide +kernel⟩, by decide +kernel⟩, by decide +kernel⟩,
   ⟨.la, (State.modLport upT (.la) fun z_ => { z_ with term0 := [] }), by decide +kernel⟩⟩

theorem test_witness_OwnersRenewAndYield :
    (∃ (l : LinkId) (f : Frame) (m : Master) (s : State), s.dark = false ∧ fanFrom s l f 3 m ∧ s.fan.owner = some m)
    ∧ (∃ (l : LinkId) (f : Frame) (m : Master) (s : State), s.dark = false ∧ fanFrom s l f 3 m ∧ s.fan.owner ≠ some m)
    ∧ (∃ (l : LinkId) (f : Frame) (m : Master) (s : State), s.dark = false ∧ fanFrom s l f 4 m ∧ s.fan.owner = some m ∧ f.payload.length = 4 ∧ field f.payload 0 1 = 0xFF ∧ s.electionOk = true ∧ s.fan.window = false)
    ∧ (∃ (l : LinkId) (f : Frame) (m : Master) (k : Master) (s : State), s.dark = false ∧ fanFrom s l f 4 m ∧ s.fan.owner = some m ∧ f.payload.length = 4 ∧ field f.payload 0 1 = masterId k)
    ∧ (∃ (l : LinkId) (f : Frame) (m : Master) (s : State), s.dark = false ∧ fanFrom s l f 4 m ∧ s.fan.owner ≠ some m)
    ∧ (∃ (s : State), s.takesWrites .m14 = true ∧ s.fan.sendBusy = true)
    ∧ (∃ (e : Bool) (s : State), s.takesWrites .m14 = true ∧ s.serves = true ∧ sendOpen s 2 ∧ s.fan.prio14 ≠ 0 ∧ s.fan.owner = none ∧ s.fan.window = false ∧ s.checkClaim .m14 (sendMsg s) e = 0)
    ∧ (∃ (e : Bool) (s : State), s.takesWrites .m14 = true ∧ s.serves = true ∧ sendOpen s 2 ∧ s.fan.prio14 ≠ 0 ∧ s.fan.owner = none ∧ s.checkClaim .m14 (sendMsg s) e ≠ 0)
    ∧ (∃ (s : State), s.takesWrites .m14 = true ∧ s.serves = true ∧ sendOpen s 3)
    ∧ (∃ (s : State), s.takesWrites .m14 = true ∧ s.serves = true ∧ sendOpen s 4)
    ∧ (∃ (s : State), s.takesWrites .m14 = true ∧ s.serves = false ∧ s.fan.sendBusy = false) :=
  ⟨⟨.la, { frameT with type := 9, argB := 3 }, .m0, { (srvT (.la) ({ frameT with type := 9, argB := 3 }) upT) with fan.owner := some (.m0) }, by decide +kernel, ⟨⟨⟨_, rfl⟩, by decide +kernel⟩, by decide +kernel⟩, by decide +kernel⟩,
   ⟨.la, { frameT with type := 9, argB := 3 }, .m0, (srvT (.la) ({ frameT with type := 9, argB := 3 }) upT), by decide +kernel, ⟨⟨⟨_, rfl⟩, by decide +kernel⟩, by decide +kernel⟩, by decide +kernel⟩,
   ⟨.la, { frameT with type := 9, argB := 4, payload := [0xFF, 0, 0, 0] }, .m0, { (srvT (.la) ({ frameT with type := 9, argB := 4, payload := [0xFF, 0, 0, 0] }) upT) with fan.owner := some (.m0), fan.window := false }, by decide +kernel, ⟨⟨⟨_, rfl⟩, by decide +kernel⟩, by decide +kernel⟩, by decide +kernel⟩,
   ⟨.la, { frameT with type := 9, argB := 4, payload := [15, 0, 0, 0] }, .m0, .m15, { (srvT (.la) ({ frameT with type := 9, argB := 4, payload := [15, 0, 0, 0] }) upT) with fan.owner := some (.m0) }, by decide +kernel, ⟨⟨⟨_, rfl⟩, by decide +kernel⟩, by decide +kernel⟩, by decide +kernel⟩,
   ⟨.la, { frameT with type := 9, argB := 4 }, .m0, (srvT (.la) ({ frameT with type := 9, argB := 4 }) upT), by decide +kernel, ⟨⟨⟨_, rfl⟩, by decide +kernel⟩, by decide +kernel⟩, by decide +kernel⟩,
   ⟨{ upT with fan.sendBusy := true }, by decide +kernel⟩,
   ⟨false, { upT with fan.offered := true, fan.msg := [(0, 14)] }, by decide +kernel, by decide +kernel, .inl rfl, by decide +kernel⟩,
   ⟨false, upT, by decide +kernel, by decide +kernel, .inl rfl, by decide +kernel⟩,
   ⟨upT, by decide +kernel, by decide +kernel, .inl rfl⟩,
   ⟨upT, by decide +kernel, by decide +kernel, .inl rfl⟩,
   ⟨State.reset, by decide +kernel⟩⟩

theorem test_witness_ElectionTimersDecide :
    (∃ (s : State), s.dark = false ∧ s.linkUp = false ∧ s.fan.opened = false ∧ s.fan.owner = none ∧ s.fan.window = false ∧ s.electionOk = true)
    ∧ (∃ (s : State), s.dark = false ∧ s.linkUp = false ∧ s.fan.opened = false ∧ s.fan.owner = none ∧ s.fan.window = false ∧ s.electionOk = false)
    ∧ (∃ (s : State), (s.linkUp = true ∨ s.fan.opened = true))
    ∧ (∃ (s : State), s.dark = false ∧ s.fan.window = true ∧ s.claimWaits = false ∧ s.fan.cands ≠ [])
    ∧ (∃ (s : State), s.dark = false ∧ s.fan.window = true ∧ s.claimWaits = false ∧ s.fan.cands = [])
    ∧ (∃ (s : State), (s.fan.window = false ∨ s.claimWaits = true))
    ∧ (∃ (s : State), s.dark = false ∧ s.fan.directed.isSome = true ∧ s.claimWaits = false ∧ s.fan.owner = none ∧ s.fan.window = false ∧ s.electionOk = true)
    ∧ (∃ (s : State), s.fan.directed = none)
    ∧ (∃ (s : State), s.dark = false ∧ s.fan.owner.isSome = true ∧ s.fan.leasePaused = none)
    ∧ (∃ (s : State), (s.fan.owner = none ∨ s.fan.leasePaused.isSome = true)) :=
  ⟨⟨{ upT with fan.opened := false, fan.owner := none, fan.window := false }, by decide +kernel⟩,
   ⟨{ upT with mil.loaded := false }, by decide +kernel⟩,
   ⟨upT.modLport .lb fun z_ => { z_ with tstate := 6 }, by decide +kernel⟩,
   ⟨{ { upT with fan.window := true } with fan.cands := [.m14] }, by decide +kernel⟩,
   ⟨{ upT with fan.window := true, fan.cands := [] }, by decide +kernel⟩,
   ⟨{ upT with fan.window := false }, by decide +kernel⟩,
   ⟨{ { upT with fan.owner := none, fan.window := false } with fan.directed := some .m14 }, by decide +kernel⟩,
   ⟨{ upT with fan.directed := none }, by decide +kernel⟩,
   ⟨{ { upT with fan.leasePaused := none } with fan.owner := some .m14 }, by decide +kernel⟩,
   ⟨{ upT with fan.owner := none }, by decide +kernel⟩⟩

theorem test_witness_RegisterWritesFollowTheirClass :
    (∃ (m : Master) (a : Nat) (s : State), s.fan.owner ≠ some m ∧ a / 0x4000 ≠ 4 ∧ obsBlock (a / 0x4000) = none)
    ∧ (∃ (m : Master) (a : Nat) (s : State), s.fan.owner = some m ∧ ((a / 0x4000 ∈ [2, 9, 0xB, 0xE] ∨ (0x12 ≤ a / 0x4000 ∧ a / 0x4000 < 0x20) ∨ 0x40 ≤ a / 0x4000)))
    ∧ (∃ (m : Master) (k : Master) (b : MbxId) (a : Nat) (s : State), obsBlock (a / 0x4000) = some (k, b) ∧ ((s.fan.owner = some m ∨ m ≠ k)))
    ∧ (∃ (m : Master) (k : Nat) (s : State), s.fan.owner = some m ∧ s.dark = false ∧ s.life.state ≠ .endOfLife ∧ k < 32)
    ∧ (∃ (m : Master) (k : Nat) (q : Nat) (s : State), s.fan.owner = some m ∧ s.dark = false ∧ s.life.state ≠ .endOfLife ∧ k < 32 ∧ q < 4)
    ∧ (∃ (m : Master) (q : Nat) (s : State), s.fan.owner = some m ∧ s.dark = false ∧ s.life.state ≠ .endOfLife ∧ q < 4)
    ∧ (∃ (m : Master) (x : Nat) (s : State), s.fan.owner = some m ∧ s.dark = false ∧ s.life.state ≠ .endOfLife ∧ x % 4 = 0 ∧ x < 0x1000 ∧ memWf s.mbx.owner.req = true)
    ∧ (∃ (x : Nat) (s : State), s.takesWrites .m14 = true ∧ x % 4 = 0 ∧ x < 0x100 ∧ memWf s.fan.msg = true)
    ∧ (∃ (m : Master) (s : State), s.fan.owner = some m ∧ s.dark = false ∧ s.life.state ≠ .endOfLife)
    ∧ (∃ (k : Nat) (s : State), s.takesWrites .m14 = true ∧ k ∈ [2, 3, 4] ∧ s.fan.sendBusy = false)
    ∧ (∃ (k : Nat) (s : State), s.takesWrites .m14 = true ∧ k ∈ [2, 3, 4] ∧ s.fan.sendBusy = true)
    ∧ (∃ (a : Nat) (s : State), a % 4 = 0 ∧ a < 0x1000000 ∧ s.dark = false)
    ∧ (∃ (m : Master) (s : State), s.takesWrites m = false)
    ∧ (∃ (a : Nat), a % 4 ≠ 0) :=
  ⟨⟨.m0, 0, upT, by decide +kernel⟩,
   ⟨.m0, 0x2FFFC + 0x24000, { upT with fan.owner := some (.m0) }, by decide +kernel⟩,
   ⟨.m14, .m0, .obs0, 0x3C000, { upT with fan.owner := some (.m14) }, by decide +kernel⟩,
   ⟨.m0, 0, { upT with fan.owner := some (.m0) }, by decide +kernel⟩,
   ⟨.m0, 0, 0, { upT with fan.owner := some (.m0) }, by decide +kernel⟩,
   ⟨.m0, 0, { upT with fan.owner := some (.m0) }, by decide +kernel⟩,
   ⟨.m0, 0, { upT with fan.owner := some (.m0) }, by decide +kernel⟩,
   ⟨0, upT, by decide +kernel⟩,
   ⟨.m0, { upT with fan.owner := some (.m0) }, by decide +kernel⟩,
   ⟨3, { upT with fan.sendBusy := false }, by decide +kernel⟩,
   ⟨3, { upT with fan.sendBusy := true }, by decide +kernel⟩,
   ⟨0, upT, by decide +kernel⟩,
   ⟨.m0, { upT with life.state := .locked }, by decide +kernel⟩,
   ⟨1, by decide +kernel⟩⟩

theorem test_witness_LogWindowShowsRecords :
    (∃ (y : Nat) (i : Nat), y % 4 = 0 ∧ y < 0x4000 ∧ i < 4)
    ∧ (∃ (l : Log) (i : Nat), tblGet l.records i = none)
    ∧ (∃ (l : Log) (i : Nat) (r : Record), tblGet l.records i = some r)
    ∧ (∃ (off : Nat) (n : Nat) (s : State), off % 4 = 0 ∧ 0 < n ∧ off + 4 * n ≤ 0x4000 ∧ s.dark = false)
    ∧ (∃ (off : Nat) (n : Nat), (off % 4 ≠ 0 ∨ 0x4000 < off + 4 * n)) :=
  ⟨⟨0x3FFC, 3, by decide +kernel⟩,
   ⟨{}, 0, by decide +kernel⟩,
   ⟨{ records := [(65535, recT)] }, 65535, recT, by decide +kernel⟩,
   ⟨0x3FFC, 1, upT, by decide +kernel⟩,
   ⟨0x3FFC, 2, by decide +kernel⟩⟩

theorem test_witness_LogRecordsAreCommitted :
    (∃ (r : Record) (rest : List Record) (s : State), s.log.queue = r :: rest ∧ s.dark = false)
    ∧ (∃ (r : Record) (rest : List Record) (s : State), s.log.queue = r :: rest ∧ s.dark = false)
    ∧ (∃ (s : State), (s.log.queue = [] ∨ s.dark = true)) :=
  ⟨⟨recT, [], { upT with log.queue := (recT) :: ([]) }, by decide +kernel⟩,
   ⟨recT, [], { upT with log.queue := (recT) :: ([]) }, by decide +kernel⟩,
   ⟨{ upT with log.queue := [] }, by decide +kernel⟩⟩

theorem test_witness_MonitorsFire :
    (∃ (level : BitVec 8) (i : Fin 8) (s : State), s.aonb.backup = false ∧ s.pinDisabled i = false ∧ (((pinMode s.mon.pins[i] = 1 ∧ level.getLsbD i.val = false) ∨ (pinMode s.mon.pins[i] = 2 ∧ level.getLsbD i.val = true))) ∧ s.mon.runs[i] + 1 = pinFilter s.mon.pins[i] ∧ s.mon.present.getLsbD i.val = false)
    ∧ (∃ (level : BitVec 8) (i : Fin 8) (s : State), s.aonb.backup = false ∧ s.pinDisabled i = false ∧ (((pinMode s.mon.pins[i] = 1 ∧ level.getLsbD i.val = true) ∨ (pinMode s.mon.pins[i] = 2 ∧ level.getLsbD i.val = false))))
    ∧ (∃ (i : Fin 8) (s : State), s.aonb.backup = false ∧ ((s.pinDisabled i = true ∨ pinMode s.mon.pins[i] = 0)))
    ∧ (∃ (s : State), s.aonb.backup = false)
    ∧ (∃ (m : Fin 64) (s : State), 16 ≤ m.val ∧ m.val ≤ 19 ∧ s.aonb.backup = false ∧ s.mon.present.getLsbD m.val = false)
    ∧ (∃ (m : Fin 64) (on : Bool) (s : State), 16 ≤ m.val ∧ m.val ≤ 19 ∧ s.aonb.backup = false ∧ s.mon.present.getLsbD m.val = on)
    ∧ (∃ (s : State), s.aonb.backup = false)
    ∧ (∃ (m : Fin 64), (m.val < 16 ∨ 20 < m.val))
    ∧ (∃ (s : State), s.aonb.backup = false ∧ s.mon.present.getLsbD 21 = false)
    ∧ (∃ (s : State), s.aonb.backup = false ∧ s.mon.present.getLsbD 22 = false)
    ∧ (∃ (s : State), s.aonb.backup = false)
    ∧ (∃ (s : State), s.aonb.backup = false ∧ s.mon.present.getLsbD 23 = false)
    ∧ (∃ (a : BitVec 12) (b : BitVec 12) (c : BitVec 12) (d : BitVec 12) (s : State), s.aonb.backup = false ∧ s.mon.present.getLsbD 24 = false ∧ (∃ x ∈ [a, b, c, d], x.toInt < s.mon.tlow) ∧ (∀ x ∈ [a, b, c, d], x.toInt ≤ s.mon.thigh))
    ∧ (∃ (a : BitVec 12) (b : BitVec 12) (c : BitVec 12) (d : BitVec 12) (s : State), s.aonb.backup = false ∧ s.mon.present.getLsbD 25 = false ∧ (∃ x ∈ [a, b, c, d], s.mon.thigh < x.toInt) ∧ (∀ x ∈ [a, b, c, d], s.mon.tlow ≤ x.toInt))
    ∧ (∃ (a : BitVec 12) (b : BitVec 12) (c : BitVec 12) (d : BitVec 12) (s : State), s.aonb.backup = false ∧ ((∀ x ∈ [a, b, c, d], s.mon.tlow + 40 ≤ x.toInt ∧ x.toInt ≤ s.mon.thigh - 40)))
    ∧ (∃ (m : Fin 64) (s : State), 32 ≤ m.val ∧ m.val ≤ 48 ∧ s.aonb.backup = false)
    ∧ (∃ (m : Fin 64), (m.val < 32 ∨ 48 < m.val)) :=
  ⟨⟨0, 7, { upT with mon.pins := Vector.replicate 8 1 }, by decide +kernel⟩,
   ⟨0xFF, 7, { upT with mon.pins := Vector.replicate 8 1 }, by decide +kernel⟩,
   ⟨0, { upT with aonb.backup := false }, by decide +kernel⟩,
   ⟨{ upT with aonb.backup := false }, by decide +kernel⟩,
   ⟨19, { upT with aonb.backup := false }, by decide +kernel⟩,
   ⟨16, _, { upT with aonb.backup := false }, by decide +kernel, by decide +kernel, by decide +kernel, rfl⟩,
   ⟨{ upT with aonb.backup := false }, by decide +kernel⟩,
   ⟨0, by decide +kernel⟩,
   ⟨{ upT with aonb.backup := false }, by decide +kernel⟩,
   ⟨{ upT with aonb.backup := false }, by decide +kernel⟩,
   ⟨{ upT with aonb.backup := false }, by decide +kernel⟩,
   ⟨{ upT with aonb.backup := false }, by decide +kernel⟩,
   ⟨0x800, 0, 0, 0, { upT with aonb.backup := false }, by decide +kernel, by decide +kernel, ⟨0x800, by decide +kernel⟩, by simp only [List.mem_cons, List.not_mem_nil, or_false, forall_eq_or_imp, forall_eq]; decide +kernel⟩,
   ⟨0, 0, 0, 0x7FF, { upT with aonb.backup := false }, by decide +kernel, by decide +kernel, ⟨0x7FF, by decide +kernel⟩, by simp only [List.mem_cons, List.not_mem_nil, or_false, forall_eq_or_imp, forall_eq]; decide +kernel⟩,
   ⟨0, 0, 0, 0, { upT with aonb.backup := false }, by decide +kernel, by simp only [List.mem_cons, List.not_mem_nil, or_false, forall_eq_or_imp, forall_eq]; decide +kernel⟩,
   ⟨48, { upT with aonb.backup := false }, by decide +kernel⟩,
   ⟨0, by decide +kernel⟩⟩

theorem test_witness_AlarmsAct :
    (∃ (m : Nat) (mask : BitVec 32) (s : State), s.mon.detected = [(m, mask)] ∧ s.aonb.backup = false ∧ m ≤ 41 ∧ severity (800 + m) ≠ none ∧ m ≠ 16 ∧ m ≠ 18 ∧ (s.actsOf m).getLsbD 5 = false)
    ∧ (∃ (m : Nat) (mask : BitVec 32) (s : State), s.mon.detected = [(m, mask)] ∧ s.aonb.backup = false ∧ m ≤ 41 ∧ (((s.actsOf m).getLsbD 5 = true ∨ m = 16 ∨ m = 18)))
    ∧ (∃ (a : Nat) (b : Nat) (x : BitVec 32) (y : BitVec 32) (s : State), s.mon.detected = [(a, x), (b, y)] ∧ a < b ∧ b ≤ 41 ∧ s.aonb.backup = false ∧ s.actsOf a ||| s.actsOf b = 1#6 ∧ severity (800 + a) ≠ none ∧ severity (800 + b) ≠ none ∧ s.log.queue.length < 63)
    ∧ (∃ (s : State), s.mon.detected = [])
    ∧ (∃ (m : Fin 64) (s : State), s.mon.present.getLsbD m.val = false ∧ s.mon.status m.val = false)
    ∧ (∃ (m : Fin 64) (s : State), (s.mon.present.getLsbD m.val = true ∨ s.mon.status m.val = true))
    ∧ (∃ (m : Fin 64) (s : State), s.aonb.backup = true ∧ s.aonb.lostPower = false ∧ (m.val = 20 ∨ m.val = 21))
    ∧ (∃ (m : Fin 64) (i : Fin 8) (s : State), s.aonb.backup = true ∧ s.aonb.lostPower = false ∧ m.val = i.val ∧ s.pinDisabled i = false ∧ (pinMode s.mon.pins[i] = 1 ∨ pinMode s.mon.pins[i] = 2))
    ∧ (∃ (m : Fin 64) (i : Fin 8) (s : State), m.val = i.val ∧ (s.pinDisabled i = true ∨ pinMode s.mon.pins[i] = 0))
    ∧ (∃ (s : State), (s.aonb.backup = false ∨ s.aonb.lostPower = true)) :=
  ⟨⟨41, 0, { upT with mon.detected := [((41), (0))], aonb.backup := false }, by decide +kernel⟩,
   ⟨18, 0, { upT with mon.detected := [((18), (0))], aonb.backup := false }, by decide +kernel⟩,
   ⟨20, 21, 0, 0, { upT with mon.detected := [(20, 0), (21, 0)], mon.actions := some (List.replicate 64 (1, 0)) }, by decide +kernel⟩,
   ⟨{ upT with mon.detected := [] }, by decide +kernel⟩,
   ⟨0, upT, by decide +kernel⟩,
   ⟨0, { upT with mon.present := 1 }, by decide +kernel⟩,
   ⟨21, { upT with aonb.backup := true, aonb.lostPower := false }, by decide +kernel⟩,
   ⟨7, 7, { upT with aonb.backup := true, aonb.lostPower := false, mon.pins := Vector.replicate 8 2 }, by decide +kernel⟩,
   ⟨0, 0, upT, by decide +kernel⟩,
   ⟨{ upT with aonb.backup := false }, by decide +kernel⟩⟩

theorem test_witness_PowerStatesMove :
    (∃ (i : Instr) (s : State), s.dark = true ∧ needsPower i = true)
    ∧ (∃ (s : State), s.gov.state = .active ∧ s.dark = false ∧ s.gov.wokenAt ≠ some s.now ∧ s.dozeOk = true)
    ∧ (∃ (s : State), s.gov.state = .doze ∧ s.dark = false ∧ s.gov.wokenAt ≠ some s.now ∧ s.dozeOk = true ∧ ((∀ p : PortId, (s.port p).state = .disabled ∨ (s.port p).state = .failed ∨ (s.port p).state = .isolated)) ∧ s.pond.used = false ∧ s.pond.extents = [] ∧ s.hop.current = none)
    ∧ (∃ (p : PortId) (s : State), s.gov.state = .doze ∧ s.gov.wokenAt ≠ some s.now ∧ ((s.port p).state = .service ∨ (s.port p).state = .substitute))
    ∧ (∃ (s : State), s.gov.state = .park ∧ s.dark = false ∧ s.gov.wokenAt ≠ some s.now ∧ s.dozeOk = true ∧ s.parkOk = true ∧ s.link.la.tstate = 0 ∧ s.link.lb.tstate = 0 ∧ s.link.la.energy = false ∧ s.link.lb.energy = false ∧ s.ctxUsed = false)
    ∧ (∃ (s : State), s.gov.wokenAt ≠ some s.now ∧ (s.dozeOk = false ∨ s.gov.state = .deep))
    ∧ (∃ (s : State), s.dark = false ∧ s.gov.wokenAt = some s.now)
    ∧ (∃ (s : State), s.dark = false)
    ∧ (∃ (d : Fin 24) (s : State), s.dark = false ∧ s.demand d.val = true ∧ s.fab.queue = [] ∧ ((d.val = 4 ∨ d.val = 5 → s.gov.dom[d] ≠ .off)))
    ∧ (∃ (d : Fin 24) (s : State), s.dark = false ∧ s.demand d.val = true ∧ s.fab.queue = [] ∧ (d.val = 4 ∨ d.val = 5) ∧ s.gov.dom[d] = .off)
    ∧ (∃ (d : Fin 24) (s : State), (s.dark = true ∨ s.demand d.val = false))
    ∧ (∃ (r : Fin 6) (s : State), s.aonb.backup = false ∧ r.val < 2)
    ∧ (∃ (s : State), s.aonb.backup = false)
    ∧ (∃ (s : State), s.aonb.backup = false)
    ∧ (∃ (s : State), s.aonb.backup = false ∧ s.gov.vbat = true)
    ∧ (∃ (s : State), s.aonb.backup = true ∧ s.aonb.lostPower = false)
    ∧ (∃ (s : State), s.aonb.backup = false)
    ∧ (∃ (r : Fin 6) (s : State), s.aonb.backup = true ∧ (r.val ≠ 3 ∨ s.aonb.lostPower = true)) :=
  ⟨⟨.wake, { upT with aonb.backup := true }, by decide +kernel⟩,
   ⟨{ upT with gov.state := .active }, by decide +kernel⟩,
   ⟨{ upT with gov.state := .doze, ports := Vector.replicate 32 { state := .failed } }, by decide +kernel⟩,
   ⟨0, (State.modPort { upT with gov.state := .doze } (0) fun z_ => { z_ with state := .service }), by decide +kernel⟩,
   ⟨{ upT with gov.state := .park, ports := Vector.replicate 32 { state := .failed } }, by decide +kernel⟩,
   ⟨{ upT with sys.stage := .rom }, by decide +kernel⟩,
   ⟨{ upT with gov := { upT.gov with wokenAt := some upT.now } }, by decide +kernel⟩,
   ⟨upT, by decide +kernel⟩,
   ⟨0, { upT with fab.queue := [] }, by decide +kernel⟩,
   ⟨4, { svcT upT with gov.dom := Vector.replicate 24 .off }, by decide +kernel⟩,
   ⟨20, upT, by decide +kernel⟩,
   ⟨0, { upT with aonb.backup := false }, by decide +kernel⟩,
   ⟨{ upT with aonb.backup := false }, by decide +kernel⟩,
   ⟨{ upT with aonb.backup := false }, by decide +kernel⟩,
   ⟨{ upT with aonb.backup := false, gov.vbat := true }, by decide +kernel⟩,
   ⟨{ upT with aonb.backup := true, aonb.lostPower := false }, by decide +kernel⟩,
   ⟨{ upT with aonb.backup := false }, by decide +kernel⟩,
   ⟨0, { upT with aonb.backup := true }, by decide +kernel⟩⟩

theorem test_witness_TapInstructionsActWhereOffered :
    (∃ (level : BitVec 8) (s : State), s.tapDebug = true ∧ s.levelOk level.toNat = true ∧ s.drbg.failed = false)
    ∧ (∃ (level : BitVec 8) (s : State), s.tapDebug = true ∧ s.levelOk level.toNat = false)
    ∧ (∃ (s : State), s.tapDebug = true ∧ s.life.state = .production ∧ s.dbg.level = 0 ∧ s.dbg.nonce = none)
    ∧ (∃ (pk : List Byte) (sg : List Byte) (n : BitVec 256) (s : State), s.tapDebug = true ∧ s.life.state = .production ∧ s.dbg.level = 0 ∧ s.dbg.nonce = some n ∧ s.engineUp = true ∧ pk.length = 97 ∧ sg.length = 96)
    ∧ (∃ (n : BitVec 256) (fault : Bool) (s : State), s.tapDebug = true ∧ s.life.state = .production ∧ s.dbg.level = 0 ∧ s.dbg.nonce = some n ∧ ((s.engineUp = false ∨ fault = true)))
    ∧ (∃ (s : State), s.tapDebug = false)
    ∧ (∃ (s : State), s.tapDebug = true)
    ∧ (∃ (n : Nat) (s : State), s.tapStat = true ∧ s.dbg.session = some n)
    ∧ (∃ (s : State), s.tapStat = true ∧ s.dbg.session = none ∧ s.dbg.d2Opening = false)
    ∧ (∃ (s : State), s.tapStat = false)
    ∧ (∃ (s : State), (s.dark = true ∨ s.dbg.trstHigh = false ∨ s.gov.romPending = true))
    ∧ (∃ (s : State), s.dark = false)
    ∧ (∃ (s : State), s.dark = false ∧ s.gov.romPending = false ∧ s.life.state ≠ .endOfLife)
    ∧ (∃ (s : State), s.tapStat = true)
    ∧ (∃ (s : State), s.tapUp = true ∧ s.life.state = .endOfLife)
    ∧ (∃ (s : State), (s.dbg.session = none ∨ s.tapUp = false))
    ∧ (∃ (k : BitVec 4) (s : State), s.tapUp = true ∧ s.dbg.session = some 1 ∧ (k = 2 ∨ k = 3))
    ∧ (∃ (n : Nat) (a : Word) (s : State), s.tapUp = true ∧ s.dbg.session = some n ∧ 1 ≤ n ∧ a.toNat < 0x1000000 ∧ a.toNat % 4 = 0 ∧ a.toNat ≠ 0x2FFFC)
    ∧ (∃ (n : Nat) (s : State), s.tapUp = true ∧ s.dbg.session = some n ∧ 1 ≤ n)
    ∧ (∃ (a : Word) (s : State), s.tapUp = true ∧ s.dbg.session = some 2 ∧ a.toNat % 4 = 0 ∧ memWf s.mil.ram = true)
    ∧ (∃ (a : Word) (s : State), s.tapUp = true ∧ s.dbg.session = some 2 ∧ a.toNat % 4 = 0)
    ∧ (∃ (s : State), s.tapUp = true ∧ s.dbg.session = some 2)
    ∧ (∃ (s : State), s.tapOpen = true)
    ∧ (∃ (s : State), s.tapOpen = true)
    ∧ (∃ (s : State), s.tapOpen = false)
    ∧ (∃ (s : State), s.tapStat = true)
    ∧ (∃ (s : State), s.tapStat = false) :=
  ⟨⟨2, { upT with drbg.failed := false }, by decide +kernel⟩,
   ⟨0, upT, by decide +kernel⟩,
   ⟨{ upT with life.state := .production, dbg.level := 0, dbg.nonce := none }, by decide +kernel⟩,
   ⟨zT 97, zT 96, 0, { upT with life.state := .production, dbg.level := 0, dbg.nonce := some (0) }, by decide +kernel⟩,
   ⟨0, true, { upT with life.state := .production, dbg.nonce := some 0 }, by decide +kernel⟩,
   ⟨{ upT with aonb.backup := true }, by decide +kernel⟩,
   ⟨upT, by decide +kernel⟩,
   ⟨0, { upT with dbg.session := some (0) }, by decide +kernel⟩,
   ⟨{ upT with dbg.session := none, dbg.d2Opening := false }, by decide +kernel⟩,
   ⟨{ upT with aonb.backup := true }, by decide +kernel⟩,
   ⟨State.reset, .inr (.inl (by decide +kernel))⟩,
   ⟨upT, by decide +kernel⟩,
   ⟨{ upT with gov.romPending := false }, by decide +kernel⟩,
   ⟨upT, by decide +kernel⟩,
   ⟨{ upT with life.state := .endOfLife }, by decide +kernel⟩,
   ⟨{ upT with dbg.session := none }, by decide +kernel⟩,
   ⟨3, { upT with dbg.session := some 1 }, by decide +kernel⟩,
   ⟨1, 0xFFFFFC, { upT with dbg.session := some (1) }, by decide +kernel⟩,
   ⟨1, { upT with dbg.session := some (1) }, by decide +kernel⟩,
   ⟨0, { upT with dbg.session := some 2 }, by decide +kernel⟩,
   ⟨0, { upT with dbg.session := some 2 }, by decide +kernel⟩,
   ⟨{ upT with dbg.session := some 2 }, by decide +kernel⟩,
   ⟨upT, by decide +kernel⟩,
   ⟨upT, by decide +kernel⟩,
   ⟨{ upT with life.state := .production }, by decide +kernel⟩,
   ⟨upT, by decide +kernel⟩,
   ⟨{ upT with aonb.backup := true }, by decide +kernel⟩⟩

/-- The state a step leaves. -/
def stepT (s : State) : State := match step s with | .next t => t | _ => s

/-- The state a command leaves. -/
def doT (c : Instr) (s : State) : State := match exec c s with | .next t => t | _ => s

theorem stepT_next (s : State) (h : (match step s with | .next _ => true | _ => false) = true) : step s = .next (stepT s) := by
  unfold stepT
  cases e : step s <;> simp_all

theorem doT_next (c : Instr) (s : State) (h : (match exec c s with | .next _ => true | _ => false) = true) : exec c s = .next (doT c s) := by
  unfold doT
  cases e : exec c s <;> simp_all

/-- SOURCE_DISABLE of source 0 waits in the queue. -/
def fuseT : State :=
  { exeT .owner { cmd := 0x030B, seq := 0, epoch := 0, token := [], body := zT 4, authDigest := 0, authorized := false, time := 0, ownFault := false, result := none } upT
      with pending := [.sourceDisable []] }

def fallT : State := { upT with pending := [.porstFalls] }

def msgT : State := { upT with pending := [.registerWrite .m14 0x10100 ⟨5, true⟩] }

def hrdyT : State := upT.modPort 31 fun x => { x with state := .service, brake := false, hrdyQ := true }

theorem test_witness_OtpBitsNeverClear : ∃ s t : State, step s = .next t ∧ s.otp.fuses = 0 ∧ t.otp.fuses = 1 :=
  ⟨fuseT, stepT fuseT, stepT_next _ (by decide +kernel), by decide +kernel⟩

theorem test_witness_HostsStayHeld : ∃ s t : State, s.hostsHeld ∧ step s = .next t :=
  ⟨fallT, stepT fallT, by unfold State.hostsHeld; decide +kernel, stepT_next _ (by decide +kernel)⟩

theorem test_witness_BuffersStayCanonical : ∃ s t : State, s.buffersWf ∧ step s = .next t :=
  ⟨msgT, stepT msgT, ⟨fun m => by cases m <;> decide +kernel, by decide +kernel⟩, stepT_next _ (by decide +kernel)⟩

/-- A MEASURED port that can be released. -/
def readyT : State :=
  upT.modPort 31 fun x => { x with state := .measured, settleDone := true, brakeMinDone := true, vdReady := true }

theorem test_witness_OnlyTheSequencerReleases :
    (∃ (c : Instr) (s t : State) (p : PortId), c ≠ .portRelease ∧ exec c s = .next t ∧ (s.port p).brake = true)
    ∧ (∃ (s t : State) (p : PortId), exec .portRelease s = .next t ∧ (s.port p).brake = true ∧ (t.port p).brake = false)
    ∧ (∃ (cause : DevCause) (s t : State), exec (.deviceResetBegin cause) s = .next t ∨ exec .porstFalls s = .next t) :=
  ⟨⟨.wake, upT, doT .wake upT, 0, by decide +kernel, doT_next _ _ (by decide +kernel), by decide +kernel⟩,
   ⟨readyT, doT .portRelease readyT, 31, doT_next _ _ (by decide +kernel), by decide +kernel⟩,
   ⟨.alarm, upT, doT .porstFalls upT, Or.inr (doT_next _ _ (by decide +kernel))⟩⟩

theorem test_witness_QualifiedHrdyStays :
    (∃ (c : Instr) (s t : State) (p : PortId), s.hostsHeld ∧ exec c s = .next t ∧ (s.port p).brake = false ∧ (s.port p).hrdyQ = true
      ∧ (t.port p).brake = false)
    ∧ (∃ (p : PortId) (s : State), (s.port p).brake = false ∧ (s.port p).hrdyQ = true) :=
  ⟨⟨.hrdyDropped 31, hrdyT, doT (.hrdyDropped 31) hrdyT, 31, by unfold State.hostsHeld; decide +kernel, doT_next _ _ (by decide +kernel), by decide +kernel⟩,
   ⟨31, hrdyT, by decide +kernel⟩⟩

end Sys2Proof.Tests

end
end

section
/-! What the device's own commands on a port's tailrace leave: the settings of the real parts, and the port's own reset (02 R45, R53, R62, R74 to R80). -/

namespace Sys2Proof.Machine

open Sys2Proof

/-! ### One port changes -/

/-- A state whose ports differ in one place leaves every other port as it was. -/
theorem othersKept_of_ports {p : PortId} {s t : State} {x : Port} (h : t.ports = s.ports.set p x) : othersKept p s t := by
  intro q hq
  have hs : t.port q = (s.setPort p x).port q := by simp [State.port, h]
  rw [hs, State.setPort_port_other s p q x hq]

/-- A row that leaves the state leaves it with power and without. -/
theorem State.powered_idle (s : State) : s.powered (.next s) = .next s := by simp [State.powered]

@[simp] theorem State.emit_port (s : State) (o : Out) (p : PortId) : (s.emit o).port p = s.port p := rfl

@[simp] theorem State.setPort_self (s : State) (p : PortId) : s.setPort p (s.port p) = s := by simp [State.setPort, State.port]

/-! ### The settings of the real parts -/

/-- Other settings of a port's real parts, and outputs that are driven for them: nothing else changes. -/
def State.retune (s : State) (p : PortId) (r : RealParts) (l : List Out) : State :=
  { s.setPort p { s.port p with real := r } with out := s.out ++ l }

theorem State.retune_nil (s : State) (p : PortId) : s.retune p (s.port p).real [] = s := by
  rw [State.retune, List.append_nil]
  exact s.setPort_self p

@[simp] theorem State.retune_port (s : State) (p : PortId) (r : RealParts) (l : List Out) :
    (s.retune p r l).port p = { s.port p with real := r } :=
  State.setPort_port_same s p _

@[simp] theorem State.retune_out (s : State) (p : PortId) (r : RealParts) (l : List Out) : (s.retune p r l).out = s.out ++ l := rfl

@[simp] theorem State.retune_retune (s : State) (p : PortId) (r r' : RealParts) (l l' : List Out) :
    (s.retune p r l).retune p r' l' = s.retune p r' (l ++ l') := by
  simp only [State.retune, State.setPort, State.port, List.append_assoc]
  simp

/-- A setting changes and one output goes out for it. -/
theorem State.modReal_emit (s : State) (p : PortId) (f : RealParts → RealParts) (o : Out) :
    (s.modReal p f).emit o = s.retune p (f (s.port p).real) [o] := rfl

/-- The extended address register is the one setting that R45's write changes. -/
theorem State.setExt_retunes (s : State) (p : PortId) (cs : Bool) (b : Byte) :
    ∃ r l, s.setExt p cs b = s.retune p r l ∧ r.mode = (s.port p).real.mode ∧ r.addr4 = (s.port p).real.addr4
      ∧ r.dummy0 = (s.port p).real.dummy0 ∧ r.dummy1 = (s.port p).real.dummy1 := by
  unfold State.setExt
  split
  · exact ⟨_, [], (s.retune_nil p).symm, rfl, rfl, rfl, rfl⟩
  · exact ⟨_, _, State.modReal_emit .., by cases cs <;> exact ⟨rfl, rfl, rfl, rfl⟩⟩

theorem State.restoreExt_retunes (s : State) (p : PortId) :
    ∃ r l, s.restoreExt p = s.retune p r l ∧ r.mode = (s.port p).real.mode ∧ r.addr4 = (s.port p).real.addr4
      ∧ r.dummy0 = (s.port p).real.dummy0 ∧ r.dummy1 = (s.port p).real.dummy1 := by
  unfold State.restoreExt
  simp only []
  split
  · exact s.setExt_retunes p _ _
  · exact ⟨_, [], (s.retune_nil p).symm, rfl, rfl, rfl, rfl⟩

/-- N_real is programmed into a part that was read at arming, and into no other (02 R53). -/
theorem State.programDummy_retunes (s : State) (p : PortId) (cs : Bool) :
    ∃ r l, s.programDummy p cs = s.retune p r l ∧ r.mode = (s.port p).real.mode ∧ r.addr4 = (s.port p).real.addr4
      ∧ r.dummy (!cs) = (s.port p).real.dummy (!cs)
      ∧ ∀ q c, (s.port p).partOn cs = some q → (s.port p).cfg = some c →
          r.dummy cs = some (nRealOf q c.fastRead) ∧ Out.partDummy p cs (nRealOf q c.fastRead) ∈ l := by
  unfold State.programDummy
  split
  next q c hq hc =>
    refine ⟨_, _, State.modReal_emit .., ?_⟩
    rw [hq, hc]
    cases cs <;> simp [RealParts.dummy]
  next hno =>
    exact ⟨_, [], (s.retune_nil p).symm, rfl, rfl, rfl, fun q c hq hc => (hno q c hq hc).elim⟩

/-- Parts in 3-byte mode take the configured address mode (02 R80). -/
theorem State.matchAddr_retunes (s : State) (p : PortId) :
    ∃ r l, s.matchAddr p = s.retune p r l ∧ r.mode = (s.port p).real.mode ∧ r.dummy0 = (s.port p).real.dummy0
      ∧ r.dummy1 = (s.port p).real.dummy1
      ∧ ∀ c, (s.port p).cfg = some c → (s.port p).real.addr4 = false → r.addr4 = c.addr4 := by
  unfold State.matchAddr
  split
  next c hc =>
    split
    next h4 =>
      refine ⟨_, _, State.modReal_emit .., rfl, rfl, rfl, ?_⟩
      rintro d hd -
      rw [Option.some.inj (hd.symm.trans hc)]
      simp_all
    next h4 =>
      refine ⟨_, [], (s.retune_nil p).symm, rfl, rfl, rfl, ?_⟩
      rintro d hd h3
      rw [Option.some.inj (hd.symm.trans hc)]
      simpa [h3] using h4
  next hc => exact ⟨_, [], (s.retune_nil p).symm, rfl, rfl, rfl, by simp [hc]⟩

/-- A reset of the real parts goes out first; then the parts are in 1S-1S-1S, hold their N_real again and are in the configured address mode (02 R53, R76, R80). -/
theorem State.resetParts_retunes (s : State) (p : PortId) (method : Nat) :
    ∃ r l, s.resetParts p method = s.retune p r (Out.partReset p method :: l) ∧ r.mode = .s111
      ∧ (∀ c, (s.port p).cfg = some c → r.addr4 = c.addr4)
      ∧ (∀ q c, (s.port p).sfdp0 = some q → (s.port p).cfg = some c →
          r.dummy0 = some (nRealOf q c.fastRead) ∧ Out.partDummy p false (nRealOf q c.fastRead) ∈ l)
      ∧ ∀ q c, (s.port p).sfdp1 = some q → (s.port p).cfg = some c →
          r.dummy1 = some (nRealOf q c.fastRead) ∧ Out.partDummy p true (nRealOf q c.fastRead) ∈ l := by
  have h0 : (s.emit (.partReset p method)).modReal p (fun _ => {}) = s.retune p {} [.partReset p method] := rfl
  obtain ⟨r1, l1, e1, m1, a1, k1, d1⟩ := (s.retune p {} [.partReset p method]).programDummy_retunes p false
  obtain ⟨r2, l2, e2, m2, a2, k2, d2⟩ := (s.retune p r1 (.partReset p method :: l1)).programDummy_retunes p true
  obtain ⟨r3, l3, e3, m3, a3, j3, k3⟩ := (s.retune p r2 (.partReset p method :: (l1 ++ l2))).restoreExt_retunes p
  obtain ⟨r4, l4, e4, m4, j4, k4, a4⟩ := (s.retune p r3 (.partReset p method :: (l1 ++ l2 ++ l3))).matchAddr_retunes p
  simp only [State.retune_port, State.retune_retune, Port.partOn, RealParts.dummy] at *
  refine ⟨r4, l1 ++ l2 ++ l3 ++ l4, ?_, ?_, ?_, ?_, ?_⟩
  · simp only [State.resetParts, State.programParts, h0, e1, List.cons_append, List.nil_append, e2, e3, e4]
  · rw [m4, m3, m2, m1]
  · exact fun c hc => a4 c hc (by rw [a3, a2, a1])
  · intro q c hq hc
    obtain ⟨hd, hm⟩ := d1 q c hq hc
    refine ⟨?_, by simp [hm]⟩
    rw [j4, j3]
    simpa using k2.trans hd
  · intro q c hq hc
    obtain ⟨hd, hm⟩ := d2 q c hq hc
    exact ⟨by rw [k4, k3]; simpa using hd, by simp [hm]⟩

/-! ### The virtual device's reset -/

/-- The reset of R75 and R76 on a port that is to be reset and whose parts are free for it. -/
theorem virtualDeviceReset_performed (p : PortId) (c : PortCfg) (s : State) (hd : s.dark = false) (hc : s.recoveryCfg p = some c)
    (hv : (s.port p).vdResetDue = true) (hb : (s.port p).brake = false ∨ (s.port p).partBusy = false) (hi : (s.port p).state ≠ .isolated) :
    exec (.virtualDeviceReset p) s
      = .next ((s.setPort p (((s.port p).vdReset c s.now).retime s.now)).resetParts p c.resetMethod) := by
  change execVirtualDeviceReset p s = _
  simp only [execVirtualDeviceReset, State.powered_lit s _ hd, hc, hv]
  rcases hb with hb | hb <;> simp [hb, hi]

/-- The reset of the parts that a brake alone asks for (05 R182). -/
theorem virtualDeviceReset_ofParts (p : PortId) (c : PortCfg) (s : State) (hd : s.dark = false) (hc : s.recoveryCfg p = some c)
    (hv : (s.port p).vdResetDue = false) (hp : (s.port p).partResetDue = true)
    (hb : (s.port p).brake = false ∨ (s.port p).partBusy = false) (hi : (s.port p).state ≠ .isolated) :
    exec (.virtualDeviceReset p) s
      = .next ((s.setPort p { s.port p with partResetDue := false }).resetParts p c.resetMethod) := by
  change execVirtualDeviceReset p s = _
  simp only [execVirtualDeviceReset, State.powered_lit s _ hd, hc, hv, hp]
  rcases hb with hb | hb <;> simp [hb, hi]

/-- Nothing goes out on the tailrace of an ISOLATED port (14 R453). -/
theorem virtualDeviceReset_isolated (p : PortId) (s : State) (hi : (s.port p).state = .isolated) :
    exec (.virtualDeviceReset p) s = .next s := by
  change execVirtualDeviceReset p s = _
  unfold execVirtualDeviceReset
  cases s.recoveryCfg p <;> simp [hi, State.powered_idle]

/-- Settles O13: a pulse of 75 samples asks for the reset, and the reset is `Port.vdReset` on the host side with `State.resetParts` on the tailrace. -/
theorem virtualDeviceResets : Obligations.VirtualDeviceResets := by
  unfold Obligations.VirtualDeviceResets
  refine ⟨fun p n s hd hn hc => ?_, fun p n s hn => ?_, fun p c s hd hc hv hb hi => ?_, fun p c s hd hc hv hp hb hi => ?_,
    virtualDeviceReset_isolated, fun p s hd hr => ?_, fun p s hr => ?_⟩
  · change execHrstPulse p n s = _
    simp only [execHrstPulse, State.powered_lit s _ hd, hn, hc, and_self, if_true]
    rfl
  · change execHrstPulse p n s = _
    simp only [execHrstPulse, Nat.not_le.mpr hn, false_and, if_false, State.powered_idle]
  · have heq := virtualDeviceReset_performed p c s hd hc hv hb hi
    obtain ⟨r, l, e, hm, h4, h0, h1⟩ :=
      (s.setPort p (((s.port p).vdReset c s.now).retime s.now)).resetParts_retunes p c.resetMethod
    rw [e] at heq
    simp only [State.setPort_port_same] at h4 h0 h1
    refine ⟨_, heq, ?_⟩
    simp only [State.retune_port, State.setPort_port_same]
    exact ⟨rfl, rfl, rfl, rfl, rfl, rfl, rfl, rfl, rfl, rfl, rfl, rfl, rfl, rfl, hm, h4 c,
      fun x hx hs => ⟨(h0 x c hs hx).1, by simp [(h0 x c hs hx).2]⟩,
      fun x hx hs => ⟨(h1 x c hs hx).1, by simp [(h1 x c hs hx).2]⟩,
      ⟨l, rfl⟩, othersKept_of_ports (Vector.set_set ..), rfl⟩
  · have heq := virtualDeviceReset_ofParts p c s hd hc hv hp hb hi
    obtain ⟨r, l, e, -⟩ := (s.setPort p { s.port p with partResetDue := false }).resetParts_retunes p c.resetMethod
    rw [e] at heq
    refine ⟨_, heq, ?_⟩
    simp only [State.retune_port, State.setPort_port_same]
    exact ⟨trivial, trivial, trivial, trivial, ⟨l, rfl⟩, othersKept_of_ports (Vector.set_set ..), rfl⟩
  · change execVirtualDeviceRecovery p s = _
    simp only [execVirtualDeviceRecovery, State.powered_lit s _ hd, hr, if_true]
    rfl
  · change execVirtualDeviceRecovery p s = _
    simp only [execVirtualDeviceRecovery, hr, Bool.false_eq_true, if_false, State.powered_idle]

end Sys2Proof.Machine
end

section
/-! What follows on a port's tailrace: a passed command's issue, poll, suspend and resume, and the end of an absorbed one (02 R41, R55 to R60, 05 R173 to R182). -/

namespace Sys2Proof.Machine

open Sys2Proof

/-! ### Passed commands -/

/-- A passed command goes out after 0x06 (02 R41, 05 R174). -/
theorem heldCommandIssue_waiting (p : PortId) (h : Held) (s : State) (hd : s.dark = false) (hr : (s.port p).resetFirst = false)
    (h2 : (s.port p).held2 = none) (h1 : (s.port p).held = some h) (hw : h.phase = .waiting) :
    exec (.heldCommandIssue p) s
      = .next ((s.issue p h).setPort p ({ s.port p with held := some { h with phase := .executing } }.retime s.now)) := by
  change execHeldCommandIssue p s = _
  simp [execHeldCommandIssue, State.powered_lit s _ hd, hr, h2, h1, hw]

/-- The completion of a passed command (02 R55, 05 R175). -/
theorem statusPoll_completes (p : PortId) (h : Held) (s : State) (hd : s.dark = false) (hb : (s.port p).brake = false)
    (hs : (s.port p).suspendNext = false) (h2 : (s.port p).held2 = none) (h1 : (s.port p).held = some h) (hx : h.phase = .executing) :
    exec (.statusPoll p false) s
      = .next (s.setPort p (((({ s.port p with held := none, suspendDue := none, resumeDue := none } : Port).ends h.cls).settleWip).retime s.now)) := by
  change execStatusPoll p false s = _
  simp [execStatusPoll, State.powered_lit s _ hd, hb, hs, h2, h1, hx]

/-- With the brake asserted and no issue interval open, the part's WIP 0 ends what was passed (05 R182). -/
theorem statusPoll_braked (p : PortId) (s : State) (hd : s.dark = false) (hb : (s.port p).brake = true) (hi : (s.port p).issuing = false) :
    exec (.statusPoll p false) s
      = .next (s.setPort p (({ s.port p with
          held := none, held2 := none, suspendDue := none, resumeDue := none
          partResetDue := (s.port p).partResetDue || (s.port p).held.isSome || (s.port p).held2.isSome } : Port).retime s.now)) := by
  change execStatusPoll p false s = _
  simp [execStatusPoll, State.powered_lit s _ hd, hb, hi, Port.suspendNext]

/-- A poll has no effect while the part is busy, while a command is in its issue interval under the brake, and while a suspend goes first (05 R174, R178, R182). -/
theorem statusPoll_idle (p : PortId) (b : Bool) (s : State)
    (h : (b || ((s.port p).brake && (s.port p).issuing) || (s.port p).suspendNext) = true) : exec (.statusPoll p b) s = .next s := by
  change execStatusPoll p b s = _
  simp only [execStatusPoll, h, if_true, State.powered_idle]

/-- A passed suspend goes to the executing operation's part (05 R178). -/
theorem suspendIssue_executing (p : PortId) (op : Byte) (h : Held) (s : State) (hd : s.dark = false) (hr : (s.port p).resetFirst = false)
    (ho : (s.port p).suspendDue = some op) (h1 : (s.port p).held = some h) (hx : h.phase = .executing) :
    exec (.suspendIssue p) s
      = .next ((s.modPort p fun x => { x with suspendDue := none, held := some { h with phase := .suspending } }).emit
          (.tail p (!h.cs) h.cs op none [])) := by
  change execSuspendIssue p s = _
  simp [execSuspendIssue, State.powered_lit s _ hd, hr, ho, h1, hx, State.modPort]

theorem suspendIssue_idle (p : PortId) (s : State) (h : (s.port p).suspendDue = none) : exec (.suspendIssue p) s = .next s := by
  change execSuspendIssue p s = _
  simp only [execSuspendIssue, h, ite_self, State.powered_idle]

/-- A passed resume goes to the suspended operation's part once no other passed command stands (05 R180, R181). -/
theorem heldResumeIssue_suspended (p : PortId) (op : Byte) (h : Held) (s : State) (hd : s.dark = false) (hr : (s.port p).resetFirst = false)
    (ho : (s.port p).resumeDue = some op) (h1 : (s.port p).held = some h) (h2 : (s.port p).held2 = none) (hx : h.phase = .suspended) :
    exec (.heldResumeIssue p) s
      = .next ((s.setPort p ({ s.port p with resumeDue := none, held := some { h with phase := .executing } }.retime s.now)).emit
          (.tail p (!h.cs) h.cs op none [])) := by
  change execHeldResumeIssue p s = _
  simp [execHeldResumeIssue, State.powered_lit s _ hd, hr, ho, h1, h2, hx]

theorem heldResumeIssue_idle (p : PortId) (s : State) (h : (s.port p).resumeDue = none) : exec (.heldResumeIssue p) s = .next s := by
  change execHeldResumeIssue p s = _
  simp only [execHeldResumeIssue, h, ite_self, State.powered_idle]

/-- A reset of the virtual device that is asked for goes before whatever would start on the tailrace (02 R561). -/
theorem tailrace_waits_of_resetFirst (p : PortId) (s : State) (h : (s.port p).resetFirst = true) :
    exec (.heldCommandIssue p) s = .next s ∧ exec (.suspendIssue p) s = .next s ∧ exec (.heldResumeIssue p) s = .next s := by
  change execHeldCommandIssue p s = _ ∧ execSuspendIssue p s = _ ∧ execHeldResumeIssue p s = _
  simp only [execHeldCommandIssue, execSuspendIssue, execHeldResumeIssue, h, if_true, State.powered_idle, and_self]

/-! ### Absorbed commands -/

/-- An absorbed operation ends at its typical time (02 R55, R57). -/
theorem absorbEmulationExpiry_ends (p : PortId) (a : Absorbed) (s : State) (hd : s.dark = false) (h2 : (s.port p).absorbed2 = none)
    (h1 : (s.port p).absorbed = some a) (hl : a.left = none) :
    exec (.absorbEmulationExpiry p) s
      = .next ((s.upTo a.due).setPort p (((({ s.port p with absorbed := none } : Port).ends a.cls).settleWip).protect a.cls)) := by
  change execAbsorbEmulationExpiry p s = _
  simp [execAbsorbEmulationExpiry, State.powered_lit s _ hd, h2, h1, hl]

/-- The latency of an absorbed operation's suspend ends (05 R179). -/
theorem suspendLatencyExpiry_ends (p : PortId) (a : Absorbed) (d : Nat) (s : State) (hd : s.dark = false)
    (h1 : (s.port p).absorbed = some a) (hs : a.suspDue = some d) :
    exec (.suspendLatencyExpiry p) s
      = .next ((s.upTo d).setPort p ({ s.port p with absorbed := some { a with suspDue := none } } : Port).settleWip) := by
  change execSuspendLatencyExpiry p s = _
  simp [execSuspendLatencyExpiry, State.powered_lit s _ hd, h1, hs]

/-- A profile other than S1 has its protection error set by an absorbed command, and S1 has none (02 R58). -/
theorem Port.protect_protErr (x : Port) (cls : Nat) : (x.protect cls).protErr = if x.profile = 1 then x.protErr else true := by
  unfold Port.protect
  split <;> rfl

/-- Of a port's operations the indications leave everything (02 R58). -/
theorem Port.protect_keeps (x : Port) (cls : Nat) : (x.protect cls).absorbed = x.absorbed ∧ (x.protect cls).wel = x.wel := by
  unfold Port.protect
  split <;> exact ⟨rfl, rfl⟩

/-- The virtual WEL goes with a program, an erase or a register write (02 R55). -/
theorem Port.ends_wel (x : Port) (cls : Nat) (h : cls = 2 ∨ cls = 3 ∨ cls = 5) : (x.ends cls).wel = false := if_pos h

/-! ### The statement -/

/-- Settles O17: each row by its own equation above; what it keeps is then read off the one port that it writes. -/
theorem heldAndAbsorbedOperationsEnd : Obligations.HeldAndAbsorbedOperationsEnd := by
  unfold Obligations.HeldAndAbsorbedOperationsEnd
  refine ⟨⟨?_, ?_, ?_, ?_, ?_, ?_, ?_, ?_⟩, ⟨?_, ?_⟩, suspendIssue_executing, ?_, suspendIssue_idle, heldResumeIssue_idle, ?_, ?_⟩
  · intro p h s hd hr h2 h1 hw
    refine ⟨_, heldCommandIssue_waiting p h s hd hr h2 h1 hw, ?_⟩
    simp only [State.setPort_port_same]
    exact ⟨by simp [State.issue], rfl, rfl, othersKept_of_ports rfl, rfl⟩
  · intro p h s hd hb hs h2 h1 hx
    refine ⟨_, statusPoll_completes p h s hd hb hs h2 h1 hx, ?_⟩
    simp only [State.setPort_port_same]
    refine ⟨rfl, Port.ends_wel _ h.cls, fun ha ha2 _ => ?_, othersKept_of_ports rfl, rfl⟩
    simp [Port.retime, Port.settleWip, Port.ends, heldRuns, runs, h2, ha, ha2]
  · exact fun p s => statusPoll_idle p true s (by simp)
  · intro p s hd hb hi
    refine ⟨_, statusPoll_braked p s hd hb hi, ?_⟩
    simp only [State.setPort_port_same]
    exact ⟨rfl, rfl, rfl, rfl, rfl, rfl, othersKept_of_ports rfl, rfl⟩
  · exact fun p s hb hi => statusPoll_idle p false s (by simp [hb, hi])
  · intro p s hd hw
    change execAbsorbWelClear p s = _
    simp only [execAbsorbWelClear, State.powered_lit s _ hd, hw, if_true]
    rfl
  · intro p s hw
    change execAbsorbWelClear p s = _
    simp only [execAbsorbWelClear, hw, Bool.false_eq_true, if_false, State.powered_idle]
  · intro p s hd hw
    change execModeEntryWipExpiry p s = _
    simp only [execModeEntryWipExpiry, State.powered_lit s _ hd, State.modPort, hw, if_true]
  · intro p a s hd h2 h1 hl
    refine ⟨_, absorbEmulationExpiry_ends p a s hd h2 h1 hl, ?_⟩
    simp only [State.setPort_port_same]
    obtain ⟨ha, hw⟩ := Port.protect_keeps ((({ s.port p with absorbed := none } : Port).ends a.cls).settleWip) a.cls
    refine ⟨ha, fun hc => hw.trans (Port.ends_wel _ a.cls hc), fun hp => ?_, fun hp => ?_, rfl, othersKept_of_ports rfl, rfl⟩
    · rw [Port.protect_protErr]
      exact if_neg hp
    · rw [Port.protect_protErr]
      exact if_pos hp
  · intro p a d s hd h1 hs
    refine ⟨_, suspendLatencyExpiry_ends p a d s hd h1 hs, ?_⟩
    simp only [State.setPort_port_same]
    refine ⟨rfl, rfl, othersKept_of_ports rfl, fun hl hh hh2 ha2 hres => ?_⟩
    obtain ⟨left, hl⟩ := Option.isSome_iff_exists.mp hl
    simp [Port.settleWip, heldRuns, runs, hh, hh2, ha2, hl, Option.isSome_eq_false_iff.mp hres]
  · intro p op h s hd hr ho h1 h2 hx
    refine ⟨_, heldResumeIssue_suspended p op h s hd hr ho h1 h2 hx, ?_⟩
    simp only [State.emit_port, State.setPort_port_same]
    exact ⟨rfl, rfl, rfl, othersKept_of_ports rfl, rfl⟩
  · exact fun p s hv hb => tailrace_waits_of_resetFirst p s (by simp [Port.resetFirst, hv, hb])
  · intro p b op h s hb ho h2 h1 hx
    exact statusPoll_idle p b s (by simp [Port.suspendNext, hb, ho, h2, h1, hx])

end Sys2Proof.Machine
end

section
/-! A host command that no sluice entry names, and what a passed or absorbed program leaves (02 R38 to R41, 05 R165 to R173, R184, 07 R225, R226). -/

namespace Sys2Proof.Machine

open Sys2Proof

/-! ### Work for the stones -/

/-- A block that starts concerns the stones and the contexts alone (04 R149, 10 R328). -/
theorem State.startBlock_frame (s : State) (b : Block) (n : Fin 32) :
    s.startBlock b n = { s with fab := (s.startBlock b n).fab, dge := (s.startBlock b n).dge } := by
  unfold State.startBlock State.finalActs State.enqueue
  simp only []
  split
  · split
    · split
      · rfl
      · split <;> rfl
    · rfl
  · rfl

theorem State.dispatchFuel_frame (n : Nat) (s : State) :
    s.dispatchFuel n = { s with fab := (s.dispatchFuel n).fab, dge := (s.dispatchFuel n).dge } := by
  induction n generalizing s with
  | zero => rfl
  | succ n ih =>
    unfold State.dispatchFuel
    split
    · rw [ih, State.startBlock_frame]
    · rfl

/-- Work for the stones concerns the stones, the contexts and the digest domains alone (04 R148, R149). -/
theorem State.hashWork_frame (s : State) (cls : Nat) (src : BlockSource) (n : Nat) (ex : List (Fin 32)) (a b : Bool) :
    s.hashWork cls src n ex a b
      = { s with fab := (s.hashWork cls src n ex a b).fab, dge := (s.hashWork cls src n ex a b).dge,
                 gov := (s.hashWork cls src n ex a b).gov } := by
  unfold State.hashWork
  split
  · rfl
  · simp only [State.dispatch]
    rw [State.dispatchFuel_frame]
    rfl

/-! ### Staging intake -/

/-- At most a port's intake blocks, the millpond and the stones' work change, and nothing goes out: what intake does to the state (07 R225, R226). -/
def State.intakeOnly (s : State) (p : PortId) (t : State) : Prop :=
  t.out = s.out ∧ t.evt = s.evt ∧ ∃ l b, t.port p = { s.port p with intake := l, intakeOff := b }

theorem State.intakeOnly_refl (s : State) (p : PortId) : s.intakeOnly p s := ⟨rfl, rfl, _, _, rfl⟩

theorem State.abandonIntake_intakeOnly (s : State) (p : PortId) : s.intakeOnly p (s.abandonIntake p) :=
  ⟨rfl, rfl, [], true, State.modPort_port_same s p fun x => { x with intake := [], intakeOff := true }⟩

theorem State.fitIntake_intakeOnly (s : State) (p : PortId) : s.intakeOnly p (s.fitIntake p) := by
  unfold State.fitIntake
  simp only []
  split
  · exact ⟨rfl, rfl, _, _, rfl⟩
  · exact s.abandonIntake_intakeOnly p

theorem State.intakeOnly_trans {s t u : State} {p : PortId} (h : s.intakeOnly p t) (g : t.intakeOnly p u) : s.intakeOnly p u := by
  obtain ⟨ho, he, l, b, hp⟩ := h
  obtain ⟨go, ge, l', b', gp⟩ := g
  exact ⟨go.trans ho, ge.trans he, l', b', by rw [gp, hp]⟩

theorem State.hashWork_intakeOnly (s : State) (p : PortId) (cls : Nat) (src : BlockSource) (n : Nat) (ex : List (Fin 32)) (a b : Bool) :
    s.intakeOnly p (s.hashWork cls src n ex a b) := by
  rw [State.hashWork_frame]
  exact s.intakeOnly_refl p

theorem State.setIntake_intakeOnly (s : State) (p : PortId) (l : List Intake) :
    s.intakeOnly p (s.setPort p { s.port p with intake := l }) :=
  ⟨rfl, rfl, _, _, State.setPort_port_same s p _⟩

theorem State.takeIn_intakeOnly (s : State) (p : PortId) (e : SlEntry) (off : Nat) (data : List Byte) (asc : Bool) :
    s.intakeOnly p (s.takeIn p e off data asc) := by
  unfold State.takeIn
  simp only []
  split
  · exact s.intakeOnly_refl p
  · split
    · exact State.intakeOnly_trans (State.intakeOnly_trans (s.setIntake_intakeOnly p _) (State.hashWork_intakeOnly ..))
        (State.fitIntake_intakeOnly ..)
    · split
      · exact s.setIntake_intakeOnly p _
      · exact s.intakeOnly_refl p

/-- What a passed command does to the intake of its port (04 R154, 07 R225, R226). -/
theorem State.intakeOf_intakeOnly (s : State) (p : PortId) (e : SlEntry) (staged : Option Nat) (off : Nat) (data : List Byte) (asc : Bool) :
    s.intakeOnly p (s.intakeOf p e staged off data asc) := by
  unfold State.intakeOf
  split
  · split
    · exact s.abandonIntake_intakeOnly p
    · exact s.takeIn_intakeOnly ..
  · exact s.intakeOnly_refl p

/-! ### Events of a port -/

/-- A port's event that its severity list names stands in the event status (16 R498, R503). -/
theorem State.portEvent_raised (s : State) (p : PortId) (off v : Nat) (d : List Byte) (c : Bool)
    (h : severity (20 * p.val + off) = some v) (ho : off < 20) : raised (s.portEvent p off d c) (20 * p.val + off) := by
  have own := State.raise_own s { src := 20 * p.val + off, data := d, act := fixedActions (20 * p.val + off), contains := c } v h (by grind)
  unfold raised State.portEvent
  simp only []
  split
  · rwa [State.stir_evt]
  · exact own

/-! ### The actions of a Held command -/

/-- A passed program on a port with nothing held waits for its issue, and nothing is driven yet (02 R41, 05 R174). -/
theorem State.passCmd_held (s : State) (t : HostTxn) (e : SlEntry) (v shown : Option Nat) (c : Check) (n : Nat)
    (he : e.evtPass = false) (hh : (s.port t.port).held = none) :
    ((s.passCmd t e v shown c n).port t.port).wip = true ∧ (s.passCmd t e v shown c n).out = s.out
      ∧ (∃ h, ((s.passCmd t e v shown c n).port t.port).held = some h ∧ h.op = t.op ∧ h.cls = e.cls ∧ h.phase = .waiting)
      ∧ ((s.passCmd t e v shown c n).port t.port).cntPass = (s.port t.port).cntPass + 1 := by
  simp only [State.passCmd, he, Bool.false_eq_true, if_false]
  generalize hu : State.modPort s t.port _ = u
  obtain ⟨ho, -, l, b, hp⟩ := u.intakeOf_intakeOnly t.port e ((s.port t.port).stagedOff v) _ _ _
  rw [hp, ho, ← hu]
  simp only [State.modPort_port_same, hh]
  exact ⟨rfl, rfl, ⟨_, rfl, rfl, rfl, rfl⟩, rfl⟩

/-- An absorbed command on a port with nothing absorbed is emulated from then on, and its event stands (02 R57, 05 R184). -/
theorem State.absorbCmd_absorbed (s : State) (t : HostTxn) (e : SlEntry) (reason : Nat) (a : Option Nat) (c : Check) (n : Nat)
    (ha : (s.port t.port).absorbed = none) :
    let u := s.absorbCmd t e reason a c n
    (u.port t.port).wip = true ∧ u.out = s.out ∧ (u.port t.port).held = (s.port t.port).held
      ∧ (∃ b, (u.port t.port).absorbed = some b ∧ b.cls = e.cls) ∧ (u.port t.port).welClearDue = true
      ∧ (u.port t.port).cntAbsorb = (s.port t.port).cntAbsorb + 1 ∧ raised u (20 * t.port.val + 6) := by
  have hs : severity (20 * t.port.val + 6) = some 1 := by
    have := t.port.isLt
    simp [severity, show 20 * t.port.val + 6 < 640 by omega]
  simp only [State.absorbCmd, State.portEvent_port, State.portEvent_out, State.modPort_port_same, State.modPort_out, ha]
  exact ⟨trivial, trivial, rfl, ⟨_, rfl, rfl⟩, trivial, trivial, State.portEvent_raised _ _ _ _ _ _ hs (by decide)⟩

/-! ### A command that no entry names -/

/-- Several changes of one port are one. -/
theorem State.modPort_modPort (s : State) (p : PortId) (f g : Port → Port) :
    (s.modPort p f).modPort p g = s.modPort p fun x => g (f x) := by
  simp [State.modPort, State.setPort, State.port]

/-- The port of a transaction once its command is decoded: Pn_HCS# is low, and neither a mode entry nor a reset pair goes on (02 R60, R74, R81). -/
def Port.opened (x : Port) : Port := { x with hcsLow := true, poison := false, hdqs := false, rstEnable := false, seqs := [] }

/-- What the decoder makes of a command that no entry names: the default handling of its class, or a cancel (02 R40, 05 R165). -/
def State.defaultCmd (s : State) (t : HostTxn) (k : Option Nat) : State :=
  k.elim (s.cancelCmd t 5 none { ok := true } 0xFF) (s.knownCmd t)

/-- The mode-entry sequences are matched against the port's parts, its configuration and what it has matched so far (02 R60). -/
theorem State.seqStep_modPort (s : State) (t : HostTxn) (f : Port → Port) (hq : (f (s.port t.port)).seqs = (s.port t.port).seqs)
    (hp : (f (s.port t.port)).part = (s.port t.port).part) (hc : (f (s.port t.port)).cfg = (s.port t.port).cfg) :
    (s.modPort t.port f).seqStep t = s.seqStep t := by
  have hs : (s.modPort t.port f).sequences t.port = s.sequences t.port := by
    simp only [State.sequences, State.modPort_port_same, hp, hc]
    rfl
  simp only [State.seqStep, State.modPort_port_same, hq, hs]

/-- A command that no entry names and no sequence expects, while the virtual WIP is clear (02 R39, R40, 05 R165). -/
theorem State.hostCmd_default (s : State) (t : HostTxn) (hw : (s.port t.port).wip = false) (hm : (s.port t.port).matchEntry t.op = none)
    (hs : s.seqStep t = .none) :
    s.hostCmd t = (s.modPort t.port fun y => { y with seqs := [] }).defaultCmd t ((s.port t.port).knows t.op) := by
  simp only [State.hostCmd, hw, hm, hs, Bool.false_and, Bool.false_eq_true, if_false, State.defaultCmd]
  cases (s.port t.port).knows t.op <;> rfl

/-- A transaction on a port that is ready is its command (02 R61, R63, R77). -/
theorem State.hostTxn_ready (s : State) (t : HostTxn) (h : hostReady (s.port t.port)) :
    s.hostTxn t = (s.modPort t.port fun y => { y with rstEnable := false }).hostCmd t := by
  obtain ⟨hst, hb, hv, hr, hwm, hm, hre, hd, -⟩ := h
  simp [State.hostTxn, hst, hb, hv, hr, hwm, hm, hre, hd]

/-- A host transaction whose command no entry names, on a port that is ready. -/
theorem hostTransaction_default (t : HostTxn) (q : Sfdp) (cls : Option Nat) (s : State) (hr : hostReady (s.port t.port))
    (hd : hostDecodes s t q cls) :
    exec (.hostTransaction t) s
      = .next (((s.modPort t.port Port.opened).defaultCmd t ((s.port t.port).knows t.op)).modPort t.port fun x => x.hcsEnds t.stays) := by
  obtain ⟨hm, hs, -, -⟩ := hd
  have hw : (s.port t.port).wip = false := by
    obtain ⟨-, -, -, -, -, -, -, -, hw⟩ := hr
    exact hw
  change execHostTransaction t s = _
  rw [execHostTransaction, State.hostTxn_ready _ _ (by rw [State.modPort_port_same]; exact hr), State.modPort_modPort,
    State.hostCmd_default]
  · rw [State.modPort_modPort, State.modPort_port_same]
    rfl
  · rw [State.modPort_port_same]; exact hw
  · rw [State.modPort_port_same]; exact hm
  · exact (State.seqStep_modPort s t _ rfl rfl rfl).trans hs

/-- In 1S-1S-1S the decoder knows of an opcode what the part's tables say, unless the profile reads a status by it (02 R40, R54). -/
theorem Port.knows_of_part (x : Port) (op : Byte) (q : Sfdp) (c : Nat) (hm : x.mode = some .s111) (hp : x.part = some q)
    (hk : partKnows q false op = some c) : x.knows op = some c := by
  simp only [Port.knows, hm, hp]
  change (partKnows q false op).orElse _ = _
  rw [hk]
  rfl

/-- The end of a transaction concerns Pn_HCS#, the pull-ups and the remap alone (02 R49, R81 to R83). -/
theorem Port.hcsEnds_frame (x : Port) (b : Bool) :
    ∃ low poison hdqs remap, x.hcsEnds b = { x with hcsLow := low, poison := poison, hdqs := hdqs, remap := remap } := by
  unfold Port.hcsEnds Port.mapTo
  split
  · exact ⟨_, _, _, _, rfl⟩
  · split <;> exact ⟨_, _, _, _, rfl⟩

/-! ### A page program's phases -/

theorem length_leBytes (n v : Nat) : (leBytes n v).length = n := by
  induction n generalizing v with
  | zero => rfl
  | succ n ih => simp [leBytes, ih]

theorem leNat_leBytes (n v : Nat) (h : v < 256 ^ n) : leNat (leBytes n v) = v := by
  induction n generalizing v with
  | zero => simp at h; simp [leBytes, leNat, h]
  | succ n ih =>
    have := ih (v / 256) (by rw [Nat.pow_succ] at h; omega)
    simp only [leBytes, leNat, this, BitVec.toNat_ofNat]
    omega

theorem length_beBytes (n v : Nat) : (beBytes n v).length = n := by simp [beBytes, length_leBytes]

theorem beNat_beBytes (n v : Nat) (h : v < 256 ^ n) : beNat (beBytes n v) = v := by
  simp [beNat, beBytes, leNat_leBytes n v h]

/-- A command with as many address bytes as its entry names keeps its address, and its data where the host sends it (05 R166). -/
theorem cutPhases_whole (t : HostTxn) (h : t.addr < 256 ^ t.addrBytes) : cutPhases t t.addrBytes 2 = { t with clocked := 0 } := by
  have hl := length_beBytes t.addrBytes t.addr
  simp [cutPhases, hl, beNat_beBytes _ _ h]

/-- R40's commands carry no address, or one of 3 or 4 bytes. -/
theorem knownAddrBytes_cases (x : Port) (op : Byte) : knownAddrBytes x op = 0 ∨ knownAddrBytes x op = 3 ∨ knownAddrBytes x op = 4 := by
  simp only [knownAddrBytes]
  by_cases h3 : op = 0x5A
  · exact .inr (.inl (if_pos h3))
  rw [if_neg h3]
  by_cases h0 : op ∈ [0x60, 0xC7, 0x75, 0xB0, 0x7A, 0x30]
  · exact .inl (if_pos h0)
  rw [if_neg h0]
  generalize (fourByteOps.contains op || _ || _ || _) = four
  cases four with
  | true => exact .inr (.inr rfl)
  | false =>
    cases x.addr4 with
    | true => exact .inr (.inr rfl)
    | false => exact .inr (.inl rfl)

/-- A default handling has the address phase that R40 gives its command (05 R165). -/
theorem defaultEntry_addrBytes (x y : Port) (op : Byte) (cls extent : Nat) :
    (defaultEntry x op cls extent).addrBytes y = knownAddrBytes x op := by
  rcases knownAddrBytes_cases x op with h | h | h <;> simp [SlEntry.addrBytes, defaultEntry, h]

/-! ### A Held command's decision -/

/-- With the virtual WEL clear a Held command is only counted (05 R171). -/
theorem State.heldCmd_unlatched (s : State) (t : HostTxn) (e : SlEntry) (n : Nat) (he : e.moves = false)
    (hw : (s.port t.port).wel = false) : s.heldCmd t e n = s.countCancel t.port := by
  simp [State.heldCmd, he, hw]

/-- A Held program whose check passes is passed, on a port that is no substitute (05 R183). -/
theorem State.heldAct_pass (s : State) (t : HostTxn) (e : SlEntry) (v shown : Option Nat) (k : Check) (n : Nat) (hm : e.moves = false)
    (hs : (s.port t.port).state ≠ .substitute) : s.heldAct t e v shown k 2 n = s.passCmd t e v shown k n := by
  simp [State.heldAct, hs, hm]

/-- A Held program whose check fails is absorbed (05 R183). -/
theorem State.heldAct_absorb (s : State) (t : HostTxn) (e : SlEntry) (v shown : Option Nat) (k : Check) (n : Nat) (hm : e.moves = false)
    (hs : (s.port t.port).state ≠ .substitute) : s.heldAct t e v shown k 3 n = s.absorbCmd t e (k.why e 3) shown k n := by
  simp [State.heldAct, hs, hm]

/-- A page program that no entry names is a Held command with the defaults of R165. -/
theorem hostTransaction_program (t : HostTxn) (q : Sfdp) (s : State) (hr : hostReady (s.port t.port)) (hd : hostDecodes s t q (some 2)) :
    exec (.hostTransaction t) s
      = .next (((s.modPort t.port Port.opened).heldCmd t (defaultEntry (s.port t.port) t.op 2 0) 0xFF).modPort t.port
          fun x => x.hcsEnds t.stays) := by
  rw [hostTransaction_default t q _ s hr hd]
  obtain ⟨-, -, hp, hk⟩ := hd
  obtain ⟨-, -, -, -, -, hm, -⟩ := hr
  rw [Port.knows_of_part _ _ q 2 hm hp hk, State.defaultCmd, Option.elim_some, State.knownCmd]
  simp only [State.modPort_port_same]
  rfl

theorem opened_ne_substitute {s : State} {p : PortId} (hr : hostReady (s.port p)) :
    ((s.modPort p Port.opened).port p).state ≠ .substitute := by
  obtain ⟨hst, -⟩ := hr
  rw [State.modPort_port_same, Port.opened, hst]
  decide

/-- The region check of a page program under the defaults of R165 (05 R169, R170). -/
def Port.programCheck (x : Port) (m : MillMap) (c : PortCfg) (t : HostTxn) : Check :=
  regionCheck x m c.v (defaultEntry x t.op 2 0) (x.virtAddr c.v t.addrBytes t.addr)

section

variable {t : HostTxn} {q : Sfdp} {m : MillMap} {c : PortCfg} {s : State} (hr : hostReady (s.port t.port)) (hd : hostDecodes s t q (some 2))
  (hw : (s.port t.port).wel = true) (hm : (s.port t.port).map = some m) (hc : (s.port t.port).cfg = some c)
  (hn : t.addrBytes = knownAddrBytes (s.port t.port) t.op) (h0 : 0 < t.addrBytes) (ha : t.addr < 256 ^ t.addrBytes)
  (hp : t.partialByte = false) (hs : t.sent ≠ [])

include hw hm hc hn h0 ha hp hs

/-- A whole page program under the virtual WEL takes the action that its region check gives it (05 R165, R169 to R172). -/
theorem State.heldCmd_program :
    s.heldCmd t (defaultEntry (s.port t.port) t.op 2 0) 0xFF
      = s.heldAct { t with clocked := 0 } (defaultEntry (s.port t.port) t.op 2 0) (some ((s.port t.port).virtAddr c.v t.addrBytes t.addr))
          (some ((s.port t.port).virtAddr c.v t.addrBytes t.addr)) ((s.port t.port).programCheck m c t)
          (if ((s.port t.port).programCheck m c t).ok then 2 else 3) 0xFF := by
  generalize he : defaultEntry (s.port t.port) t.op 2 0 = e
  have hb : e.addrBytes (s.port t.port) = t.addrBytes := by rw [← he, defaultEntry_addrBytes, hn]
  have ht : e.takes (s.port t.port) t = { t with clocked := 0 } := by
    rw [SlEntry.takes, hb, show e.data = 2 by rw [← he]; rfl]
    exact cutPhases_whole t ha
  have hcut : e.cut (s.port t.port) { t with clocked := 0 } = false := by simp [SlEntry.cut, hb, hp, hs]
  have hmv : e.moves = false := by rw [← he]; rfl
  have hcls : e.cls = 2 := by rw [← he]; rfl
  have harr : e.array = true := by rw [← he]; rfl
  have hact : e.actPass = 2 ∧ e.actDeny = 3 := by rw [← he]; exact ⟨rfl, rfl⟩
  simp [State.heldCmd, ht, hcut, hmv, hcls, hw, hm, hc, harr, hb, hact, Nat.ne_of_gt h0, Port.programCheck, he]

include hr hd

/-- A whole page program comes down to the action of its region check, at the end of the transaction. -/
theorem hostTransaction_program_act :
    exec (.hostTransaction t) s
      = .next (((s.modPort t.port Port.opened).heldAct { t with clocked := 0 } (defaultEntry (s.port t.port) t.op 2 0)
          (some ((s.port t.port).virtAddr c.v t.addrBytes t.addr)) (some ((s.port t.port).virtAddr c.v t.addrBytes t.addr))
          ((s.port t.port).programCheck m c t) (if ((s.port t.port).programCheck m c t).ok then 2 else 3) 0xFF).modPort t.port
            fun x => x.hcsEnds t.stays) := by
  have ho := State.modPort_port_same s t.port Port.opened
  have hprog := State.heldCmd_program (s := s.modPort t.port Port.opened) (by rw [ho]; exact hw) (by rw [ho]; exact hm)
    (by rw [ho]; exact hc) (by rw [ho]; exact hn) h0 ha hp hs
  rw [ho] at hprog
  rw [hostTransaction_program t q s hr hd]
  exact congrArg (fun u : State => Host.Outcome.next (u.modPort t.port fun x => x.hcsEnds t.stays)) hprog

/-- A page program whose region check passes is Held, and nothing is driven yet (02 R41). -/
theorem hostTransaction_program_passes (hk : ((s.port t.port).programCheck m c t).ok = true) (hh : (s.port t.port).held = none) :
    Completes (.hostTransaction t) s fun u =>
      (u.port t.port).wip = true ∧ u.out = s.out
        ∧ (∃ h, (u.port t.port).held = some h ∧ h.op = t.op ∧ h.cls = 2 ∧ h.phase = .waiting)
        ∧ (u.port t.port).cntPass = (s.port t.port).cntPass + 1 := by
  have hact := hostTransaction_program_act hr hd hw hm hc hn h0 ha hp hs
  have ho := State.modPort_port_same s t.port Port.opened
  rw [hk, if_pos rfl, State.heldAct_pass _ { t with clocked := 0 } _ _ _ _ _ rfl (opened_ne_substitute hr)] at hact
  refine ⟨_, hact, ?_⟩
  obtain ⟨hwip, hout, hheld, hcnt⟩ := (s.modPort t.port Port.opened).passCmd_held { t with clocked := 0 }
    (defaultEntry (s.port t.port) t.op 2 0) (some ((s.port t.port).virtAddr c.v t.addrBytes t.addr))
    (some ((s.port t.port).virtAddr c.v t.addrBytes t.addr)) ((s.port t.port).programCheck m c t) 0xFF rfl (by rw [ho]; exact hh)
  generalize State.passCmd _ _ _ _ _ _ _ = w at hwip hout hheld hcnt ⊢
  obtain ⟨_, _, _, _, hf⟩ := (w.port t.port).hcsEnds_frame t.stays
  simp only [State.modPort_port_same, hf]
  exact ⟨hwip, hout, hheld, hcnt.trans (by rw [ho]; rfl)⟩

/-- A page program whose region check fails is absorbed, with its event (02 R57, 05 R184). -/
theorem hostTransaction_program_absorbs (hk : ((s.port t.port).programCheck m c t).ok = false) (hab : (s.port t.port).absorbed = none) :
    Completes (.hostTransaction t) s fun u =>
      (u.port t.port).wip = true ∧ u.out = s.out ∧ (u.port t.port).held = (s.port t.port).held
        ∧ (∃ a, (u.port t.port).absorbed = some a ∧ a.cls = 2) ∧ (u.port t.port).welClearDue = true
        ∧ (u.port t.port).cntAbsorb = (s.port t.port).cntAbsorb + 1 ∧ raised u (20 * t.port.val + 6) := by
  have hact := hostTransaction_program_act hr hd hw hm hc hn h0 ha hp hs
  have ho := State.modPort_port_same s t.port Port.opened
  rw [hk, if_neg (by decide), State.heldAct_absorb _ { t with clocked := 0 } _ _ _ _ _ rfl (opened_ne_substitute hr)] at hact
  refine ⟨_, hact, ?_⟩
  obtain ⟨hwip, hout, hheld, habs, hwc, hcnt, hev⟩ := (s.modPort t.port Port.opened).absorbCmd_absorbed { t with clocked := 0 }
    (defaultEntry (s.port t.port) t.op 2 0) (((s.port t.port).programCheck m c t).why (defaultEntry (s.port t.port) t.op 2 0) 3)
    (some ((s.port t.port).virtAddr c.v t.addrBytes t.addr)) ((s.port t.port).programCheck m c t) 0xFF (by rw [ho]; exact hab)
  generalize State.absorbCmd _ _ _ _ _ _ _ = w at hwip hout hheld habs hwc hcnt hev ⊢
  obtain ⟨_, _, _, _, hf⟩ := (w.port t.port).hcsEnds_frame t.stays
  simp only [State.modPort_port_same, hf]
  exact ⟨hwip, hout, hheld.trans (by rw [ho]; rfl), habs, hwc, hcnt.trans (by rw [ho]; rfl), hev⟩

end

/-- With the virtual WEL clear a page program only counts (05 R171). -/
theorem hostTransaction_program_counts (t : HostTxn) (q : Sfdp) (s : State) (hr : hostReady (s.port t.port))
    (hd : hostDecodes s t q (some 2)) (hw : (s.port t.port).wel = false) :
    Completes (.hostTransaction t) s fun u =>
      (u.port t.port).cntCancel = (s.port t.port).cntCancel + 1 ∧ u.out = s.out ∧ (u.port t.port).held = (s.port t.port).held := by
  refine ⟨_, hostTransaction_program t q s hr hd, ?_⟩
  rw [State.heldCmd_unlatched _ _ _ _ rfl (by rw [State.modPort_port_same]; exact hw)]
  obtain ⟨_, _, _, _, hf⟩ := (((s.modPort t.port Port.opened).countCancel t.port).port t.port).hcsEnds_frame t.stays
  simp only [State.modPort_port_same, hf]
  simp only [State.countCancel, State.modPort_port_same]
  exact ⟨rfl, rfl, rfl⟩

/-- Settles O16: a page program is a Held command under the defaults of R165; the virtual WEL, then the region check alone decide what it does. -/
theorem heldProgramIsChecked : Obligations.HeldProgramIsChecked := by
  refine ⟨hostTransaction_program_counts, fun t q m c s hr hd hw hm hc hn h0 ha hp hs hh hab => ?_⟩
  cases hk : ((s.port t.port).programCheck m c t).ok with
  | true =>
    obtain ⟨u, hu, hwip, hout, hheld, hcnt⟩ := hostTransaction_program_passes hr hd hw hm hc hn h0 ha hp hs hk hh
    exact ⟨u, hu, hwip, hout, fun _ => ⟨hheld, hcnt⟩, fun hf => absurd (hf.symm.trans hk) (by decide)⟩
  | false =>
    obtain ⟨u, hu, hwip, hout, hheld, habs⟩ := hostTransaction_program_absorbs hr hd hw hm hc hn h0 ha hp hs hk hab
    exact ⟨u, hu, hwip, hout, fun ht => absurd (ht.symm.trans hk) (by decide), fun _ => ⟨hheld.trans hh, habs⟩⟩

end Sys2Proof.Machine
end

section
/-! A read whose address does not fit the address bytes that the host sent: the counterexample to O15 (02 R44, 04 R126). -/

namespace Sys2Proof.Machine

open Sys2Proof

/-- A part that lists nothing. -/
def farPart : Sfdp :=
  { jedec := [], capacity := 2 ^ 25, page := 256, progUs := 0, erases := [], chipEraseUs := 0, suspendOk := false, suspendUs := 0, addr3 := true,
    addr4 := false, extAddr := false, dummies := [], prog4 := [], four := [], fastOps := [], revision := 0, octalEnable := 0, sectors := [],
    sccrReads := [], sccrWrites := [], flagStatus := false, sr2 := none, octal := [], quad := [] }

/-- A virtual size of 32 MiB, which 3 address bytes do not span. -/
def farCfg : PortCfg := { portCfgOf [] with vlog2 := 25 }

/-- One resident-verify granule, at 16 MiB. -/
def farRegion : Region := { policy := 1, rflags := 0, start := 2 ^ 24, len := 4096, ltOffset := 0, leafCount := 1, rparam := 0, root := 0 }

def farMap : MillMap :=
  { bytes := [], mapLen := 0, signedLen := 0, portMask := 1, vsize := 2 ^ 25, domain := 0, hybrid := false, secVersion := 0, serial := [],
    imageId := [], imageDigest := 0, regions := [farRegion], digest := 0 }

/-- Its VALID granule, all zero. -/
def farGranule : Granule :=
  { state := .valid, hold := none, owner := some 0, region := 0, va := 2 ^ 24, data := [], digest := none, fromReserve := false }

/-- A serving port on that map. -/
def farState : State :=
  { State.reset.modPort 0 fun x =>
      { x with state := .service, brake := false, mode := some .s111, cfg := some farCfg, map := some farMap, sfdp0 := some farPart }
    with pond.granules := [(0, farGranule)] }

/-- A fast read of one byte with 3 address bytes, whose address operand is 2^24: no 3 bytes hold it (`HostTxn.wf`). -/
def farRead : HostTxn :=
  { port := 0, op := 0x0B, ext := 0, addrBytes := 3, addr := 2 ^ 24, sent := [], partialByte := false, clocked := 1, clockMHz := 50, real := [],
    ecc := .ok, stays := false }

/-- The decoder takes the three bytes, which say address 0: an uncovered one, where the host reads 0xFF (02 R42, R44). -/
theorem farRead_reads_address_zero :
    ∃ u, exec (.hostTransaction farRead) farState = .next u ∧ Out.host 0 [0xFF] ∈ u.out ∧ Out.host 0 [0x00] ∉ u.out :=
  ⟨_, rfl, by decide +kernel, by decide +kernel⟩

/-- Refutes O15: nothing in its clause on a VALID granule bounds the address operand by the address bytes, so a read whose operand is 2^24 with 3 address bytes is promised the granule at 16 MiB, while the device reads address 0. -/
theorem not_hostReadsAreAnswered : ¬ Obligations.HostReadsAreAnswered := by
  rintro ⟨-, hvalid, -⟩
  obtain ⟨u, hu, hdata, -⟩ := hvalid farRead farPart farMap farCfg 0 0 (2 ^ 24) farRegion farGranule farState
    (by unfold hostReady; decide +kernel) (by unfold hostDecodes; decide +kernel) (by decide +kernel) rfl rfl (by decide +kernel)
    (by decide +kernel) (by decide +kernel) rfl (by decide) (by decide +kernel) (by decide +kernel) (by decide +kernel) rfl rfl rfl (by decide +kernel)
  obtain ⟨v, hv, -, hno⟩ := farRead_reads_address_zero
  obtain rfl : u = v := Host.Outcome.next.inj (hu.symm.trans hv)
  exact hno hdata

end Sys2Proof.Machine
end

section
/-! What the device's own reads of a port's parts leave, and what the events of a port are (02 R60, R556, 04 R148, 05 R167, 16 R503). -/

namespace Sys2Proof.Machine

open Sys2Proof

/-! ### One port changes -/

theorem othersKept_refl (p : PortId) (s : State) : othersKept p s s := fun _ _ => rfl

theorem othersKept_trans {p : PortId} {s t u : State} (h : othersKept p s t) (g : othersKept p t u) : othersKept p s u :=
  fun q hq => (g q hq).trans (h q hq)

theorem othersKept_modPort (s : State) (p : PortId) (f : Port → Port) : othersKept p s (s.modPort p f) := othersKept_of_ports rfl

theorem othersKept_of_ports_eq {p : PortId} {s t : State} (h : t.ports = s.ports) : othersKept p s t := fun q _ => by
  simp [State.port, h]

/-! ### The device's own reads of the real parts -/

/-- A mode-entry sequence is its commands, in order, and nothing else (02 R60). -/
theorem State.sendSeq_eq (p : PortId) (s : State) (cs : List SeqCmd) :
    State.sendSeq p s cs = { s with out := s.out ++ cs.map fun c => Out.tail p true true c.op none c.bytes } := by
  induction cs generalizing s with
  | nil => simp [State.sendSeq]
  | cons c cs ih => simp [State.sendSeq, ih, State.emit]

/-- Outside MEASURED the entry to a mode concerns the real parts alone (02 R556). -/
theorem State.enterMode_retunes (s : State) (p : PortId) (m : BusMode) (hm : (s.port p).state ≠ .measured) :
    ∃ r l, s.enterMode p m = s.retune p r l := by
  unfold State.enterMode
  simp only [hm, if_false]
  split
  · exact ⟨_, [], (s.retune_nil p).symm⟩
  · split
    · split
      · exact ⟨_, _, by rw [State.sendSeq_eq]; rfl⟩
      · exact ⟨_, [], (s.retune_nil p).symm⟩
    · exact ⟨_, [], (s.retune_nil p).symm⟩

theorem State.address_retunes (s : State) (p : PortId) (q : Sfdp) (cs : Bool) (op : Byte) (a : Nat) :
    ∃ r l, (s.address p q cs op a).1 = s.retune p r l := by
  unfold State.address
  split
  · exact ⟨_, [], (s.retune_nil p).symm⟩
  · split
    · exact ⟨_, [], (s.retune_nil p).symm⟩
    · split
      · obtain ⟨r, l, h, -⟩ := s.setExt_retunes p cs (BitVec.ofNat 8 (a / 2 ^ 24))
        exact ⟨r, l, h⟩
      · exact ⟨_, [], (s.retune_nil p).symm⟩

theorem State.retune_emit (s : State) (p : PortId) (r : RealParts) (l : List Out) (o : Out) :
    (s.retune p r l).emit o = s.retune p r (l ++ [o]) := by
  simp [State.retune, State.emit]

/-- Steps that each concern the real parts alone, one after the other. -/
theorem State.foldl_retunes {α : Type} (p : PortId) (f : State → α → State) (hf : ∀ s a, ∃ r l, f s a = s.retune p r l) (as : List α)
    (s : State) : ∃ r l, as.foldl f s = s.retune p r l := by
  induction as generalizing s with
  | nil => exact ⟨_, [], (s.retune_nil p).symm⟩
  | cons a as ih =>
    obtain ⟨r, l, h⟩ := hf s a
    obtain ⟨r', l', h'⟩ := ih (s.retune p r l)
    exact ⟨r', l ++ l', by rw [List.foldl_cons, h, h', State.retune_retune]⟩

/-- An array read of the device's own concerns the real parts and the tailrace alone (02 R556). -/
theorem State.devReads_retunes (s : State) (p : PortId) (cs : Bool) (a n : Nat) (half : Bool) (hm : (s.port p).state ≠ .measured) :
    ∃ r l, s.devReads p cs a n half = s.retune p r l := by
  have idle : ∃ r l, s = s.retune p r l := ⟨_, [], (s.retune_nil p).symm⟩
  unfold State.devReads State.devRead
  simp only []
  split
  next q c hq hc =>
    split
    · exact idle
    · obtain ⟨r, l, h⟩ := s.enterMode_retunes p ((s.port p).readMode c) hm
      obtain ⟨r', l', h'⟩ := State.foldl_retunes p (fun u e =>
        let (t, o, k) := u.address p q cs (readOp q c ((s.port p).readMode c)) e.1
        t.emit (.devRead p cs o ((s.port p).readMode c) (s.readClock p ((s.port p).readMode c) half) k e.1 (nRealOf q c.fastRead) e.2))
        (fun u e => by
          obtain ⟨r, l, h⟩ := u.address_retunes p q cs (readOp q c ((s.port p).readMode c)) e.1
          exact ⟨r, _, by simp only [h]; exact State.retune_emit ..⟩)
        ((s.port p).pieces q (readOp q c ((s.port p).readMode c)) a n) (s.retune p r l)
      exact ⟨r', l ++ l', by rw [Option.getD_some, h, h', State.retune_retune]⟩
  · exact idle

/-- The transfer of a capture: the entry's opcode on the active chip select from address 0, for 16 × VDATA bytes, behind what the mode needs (05 R167). -/
theorem State.captureRead_retunes (s : State) (p : PortId) (e : SlEntry) (hm : (s.port p).state ≠ .measured) :
    ∃ r l, s.captureRead p e = s.retune p r l
      ∧ ∀ c, (s.port p).cfg = some c →
          ∃ pre mode mhz n d, l = pre ++ [Out.devRead p (s.port p).activeCs e.opcode mode mhz n 0 d (16 * e.vdata)] := by
  unfold State.captureRead
  simp only []
  split
  next c hc =>
    obtain ⟨r, l, h⟩ := s.enterMode_retunes p ((s.port p).readMode c) hm
    exact ⟨r, _, by rw [h, State.retune_emit], fun _ _ => ⟨l, _, _, _, _, rfl⟩⟩
  next hc => exact ⟨_, [], (s.retune_nil p).symm, by simp [hc]⟩

/-! ### A read and its blocks -/

/-- A read by the device whose bytes are hashed: the real parts, the tailrace and the stones' work may change, not the millpond, the events or the rest of any port (02 R556, 04 R148). -/
structure ReadsOnly (p : PortId) (s t : State) : Prop where
  others : othersKept p s t
  pond : t.pond = s.pond
  evt : t.evt = s.evt
  port : ∃ r, t.port p = { s.port p with real := r }

theorem State.readHashed (s : State) (p : PortId) (cs : Bool) (a n : Nat) (half : Bool) (cls : Nat) (src : BlockSource) (k : Nat)
    (hm : (s.port p).state ≠ .measured) : ReadsOnly p s ((s.devReads p cs a n half).hashWork cls src k) := by
  obtain ⟨r, l, h⟩ := s.devReads_retunes p cs a n half hm
  rw [h, State.hashWork_frame]
  exact ⟨othersKept_of_ports rfl, rfl, rfl, r, s.retune_port p r l⟩

/-- The stones' work leaves the supplies as they are: of the governor, the domains alone move (04 R148, 17 R514). -/
theorem State.hashWork_gov (s : State) (cls : Nat) (src : BlockSource) (n : Nat) (ex : List (Fin 32)) (a b : Bool) :
    ∃ d, (s.hashWork cls src n ex a b).gov = { s.gov with dom := d } := by
  unfold State.hashWork
  split
  · exact ⟨_, rfl⟩
  · simp only [State.dispatch]
    rw [State.dispatchFuel_frame]
    exact ⟨_, rfl⟩

/-! ### Events of a port -/

theorem State.raise_keeps (s : State) (e : Raised) (src : Nat) (h : raised s src) : raised (s.raise e) src :=
  State.raise_stat s e src (State.raiseOne_stat s e src h)

theorem State.portEvent_keeps (s : State) (p : PortId) (off : Nat) (d : List Byte) (c : Bool) (src : Nat) (h : raised s src) :
    raised (s.portEvent p off d c) src := by
  unfold raised State.portEvent
  simp only []
  split
  · rw [State.stir_evt]; exact s.raise_keeps _ src h
  · exact s.raise_keeps _ src h

/-- Every port has the same sources, and the same severities (16 R503). -/
theorem severity_port (p : PortId) (off : Nat) (h : off < 20) : severity (20 * p.val + off) = severity off := by
  have := p.isLt
  simp [severity, show 20 * p.val + off < 640 by omega, show off < 640 by omega]

theorem State.armFail_raised (s : State) (p : PortId) (reason code region : Nat) : raised (s.armFail p reason code region) (20 * p.val + 10) :=
  State.portEvent_raised s p 10 2 _ _ (severity_port p 10 (by decide)) (by decide)

end Sys2Proof.Machine
end

section
/-! What a failure on a port and the recovery after it keep, and the uncorrectable errors of the millpond (04 R117, R127, 07 R222, R246). -/

namespace Sys2Proof.Machine

open Sys2Proof

/-! ### What a failure and a recovery keep -/

/-- What the failure of an arming or of a port's content leaves, and the recovery that follows: every other port, the settings store, the events that stand, a brake that is asserted, and the count of millpond faults (04 R117, R127, 06 R187, 07 R246). -/
structure FailureKeeps (p : PortId) (s t : State) : Prop where
  others : othersKept p s t
  store : t.store = s.store
  events : ∀ src, raised s src → raised t src
  brake : (s.port p).brake = true → (t.port p).brake = true
  faults : (t.port p).cntPond = (s.port p).cntPond

namespace FailureKeeps

theorem trans {p : PortId} {s t u : State} (h : FailureKeeps p s t) (g : FailureKeeps p t u) : FailureKeeps p s u :=
  ⟨othersKept_trans h.others g.others, g.store.trans h.store, fun i k => g.events i (h.events i k), fun b => g.brake (h.brake b),
    g.faults.trans h.faults⟩

/-- Nothing of the ports, the store and the events changes. -/
theorem of_eq {p : PortId} {s t : State} (hp : t.ports = s.ports) (hs : t.store = s.store) (he : t.evt = s.evt) : FailureKeeps p s t := by
  have hx : t.port p = s.port p := by simp [State.port, hp]
  exact ⟨othersKept_of_ports_eq hp, hs, fun i h => by rwa [raised, he], fun h => by rwa [hx], by rw [hx]⟩

/-- The port alone changes, of the ports, the store and the events. -/
theorem of_port {p : PortId} {s t : State} {x : Port} (hp : t.ports = s.ports.set p x) (hs : t.store = s.store) (he : t.evt = s.evt)
    (hb : (s.port p).brake = true → x.brake = true) (hc : x.cntPond = (s.port p).cntPond) : FailureKeeps p s t := by
  have hx : t.port p = x := by simp [State.port, hp]
  exact ⟨othersKept_of_ports hp, hs, fun i h => by rwa [raised, he], by rwa [hx], by rwa [hx]⟩

theorem portEvent (s : State) (p : PortId) (off : Nat) (d : List Byte) (c : Bool) : FailureKeeps p s (s.portEvent p off d c) :=
  ⟨othersKept_of_ports_eq (by simp), by simp, s.portEvent_keeps p off d c, by simp, by simp⟩

end FailureKeeps

@[simp] theorem Port.holdBrake_brake (x : Port) (n : Nat) : (x.holdBrake n).brake = true := by
  unfold Port.holdBrake
  split
  · assumption
  · rfl

@[simp] theorem Port.holdBrake_cntPond (x : Port) (n : Nat) : (x.holdBrake n).cntPond = x.cntPond := by
  unfold Port.holdBrake
  split <;> rfl

@[simp] theorem Port.mapTo_brake (x : Port) : x.mapTo.brake = x.brake := by
  unfold Port.mapTo
  split <;> rfl

@[simp] theorem Port.mapTo_cntPond (x : Port) : x.mapTo.cntPond = x.cntPond := by
  unfold Port.mapTo
  split <;> rfl

theorem State.failPort_keeps (s : State) (p : PortId) : FailureKeeps p s (s.failPort p) :=
  .of_port rfl rfl rfl (fun _ => Port.holdBrake_brake _ s.now) (Port.holdBrake_cntPond _ s.now)

@[simp] theorem State.failPort_state (s : State) (p : PortId) : ((s.failPort p).port p).state = .failed := by
  simp [State.failPort, State.port, State.modPort, State.setPort]

theorem State.beginOption_keeps (s : State) (p : PortId) (k : Nat) (src : Source) (pending : Bool) :
    FailureKeeps p s (s.beginOption p k src pending) :=
  FailureKeeps.of_port rfl rfl rfl (by simp) (by simp)

theorem State.requestSubst_keeps (s : State) (p : PortId) (k : Nat) (c : PortCfg) (m : MillMap) :
    FailureKeeps p s (s.requestSubst p k c m) := by
  unfold State.requestSubst
  simp only []
  generalize ht : State.modPort _ p _ = t
  have asked : FailureKeeps p s t := by
    rw [← ht]
    exact (s.beginOption_keeps p k .adapter false).trans (.of_port rfl rfl rfl (fun h => h) rfl)
  exact asked.trans ((FailureKeeps.portEvent t p 17 _ _).trans (.of_eq rfl rfl rfl))

/-- What is tried only under a condition keeps what it keeps when it is tried. -/
theorem FailureKeeps.of_ite {p : PortId} {s t u : State} {c : Prop} [Decidable c] (h : (if c then some u else none) = some t)
    (k : FailureKeeps p s u) : FailureKeeps p s t := by
  simp only [Option.ite_none_right_eq_some, Option.some.injEq] at h
  obtain ⟨-, rfl⟩ := h
  exact k

theorem State.tryOption_keeps (s t : State) (p : PortId) (c : PortCfg) (k : Nat) (h : s.tryOption p c k = some t) : FailureKeeps p s t := by
  unfold State.tryOption at h
  split at h
  · exact .of_ite h (s.beginOption_keeps ..)
  · split at h
    · exact .of_ite h (s.beginOption_keeps ..)
    · cases h
  · split at h
    · exact .of_ite h (s.requestSubst_keeps ..)
    · cases h
  · cases h

theorem State.tryOptions_keeps (p : PortId) (c : PortCfg) (s : State) (ks : List Nat) : FailureKeeps p s (State.tryOptions p c s ks) := by
  induction ks with
  | nil => exact (s.failPort_keeps p).trans (FailureKeeps.portEvent _ p 19 _ _)
  | cons k ks ih =>
    unfold State.tryOptions
    split
    next t h => exact s.tryOption_keeps t p c k h
    next => exact ih

theorem State.goThrough_keeps (s : State) (p : PortId) (which : PortCfg → List Nat) : FailureKeeps p s (s.goThrough p which) := by
  unfold State.goThrough
  simp only []
  generalize ht : State.modPort { s with pond := s.pond.freePort p } p _ = t
  have braked : FailureKeeps p s t := by
    rw [← ht]
    exact .of_port rfl rfl rfl (fun _ => Port.holdBrake_brake _ s.now) (Port.holdBrake_cntPond _ s.now)
  refine braked.trans ?_
  split
  · exact State.tryOptions_keeps ..
  · exact (State.failPort_keeps ..).trans (FailureKeeps.portEvent _ p 19 _ _)

/-- What a port leaves behind as it enters RECOVERING is neither its brake nor its count of faults (07 R246). -/
theorem State.recovers_keeps (s : State) (p : PortId) : FailureKeeps p s (s.modPort p (Port.recovers · s.now)) :=
  .of_port rfl rfl rfl (fun _ => Port.holdBrake_brake _ s.now) (Port.holdBrake_cntPond _ s.now)

theorem State.startRecovery_keeps (s : State) (p : PortId) : FailureKeeps p s (s.startRecovery p) :=
  (s.recovers_keeps p).trans (State.goThrough_keeps ..)

/-- A port enters RECOVERING braked, whatever option it goes on with (07 R246). -/
theorem State.startRecovery_brake (s : State) (p : PortId) : ((s.startRecovery p).port p).brake = true := by
  refine (State.goThrough_keeps (s.modPort p (Port.recovers · s.now)) p _).brake ?_
  rw [State.modPort_port_same]
  exact Port.holdBrake_brake _ s.now

theorem State.recoverLost_keeps (s : State) (p : PortId) : FailureKeeps p s (s.recoverLost p) := by
  unfold State.recoverLost
  split
  · exact (s.recovers_keeps p).trans (State.goThrough_keeps ..)
  · exact s.startRecovery_keeps p

theorem State.contentLost_keeps (s : State) (p : PortId) : FailureKeeps p s (s.contentLost p) := by
  unfold State.contentLost
  simp only []
  generalize ht : State.modPort s p _ = t
  have contained : FailureKeeps p s t.stir := by
    refine .trans (t := t) ?_ (.of_eq (State.stir_ports t) (State.stir_store t) (State.stir_evt t))
    rw [← ht]
    exact .of_port rfl rfl rfl (fun _ => Port.holdBrake_brake _ s.now) (Port.holdBrake_cntPond _ s.now)
  split
  · exact contained.trans (State.recoverLost_keeps ..)
  · exact contained

/-! ### Errors of the millpond -/

theorem State.putGranule_keeps (s : State) (p : PortId) (n : Nat) (g : Granule) : FailureKeeps p s (s.putGranule n g) := .of_eq rfl rfl rfl

@[simp] theorem State.putGranule_port (s : State) (n : Nat) (g : Granule) (p : PortId) : (s.putGranule n g).port p = s.port p := rfl

@[simp] theorem State.noteErr_port (s : State) (n : Nat) (p : PortId) : (s.noteErr n).port p = s.port p := rfl

@[simp] theorem State.pondFault_port (s : State) (p : PortId) (sub : Nat) (c : Bool) :
    (s.pondFault p sub c).port p = { s.port p with cntPond := (s.port p).cntPond + 1 } := by simp [State.pondFault]

@[simp] theorem State.pondFault_pond (s : State) (p : PortId) (sub : Nat) (c : Bool) : (s.pondFault p sub c).pond = s.pond := by
  simp [State.pondFault]

theorem State.pondFault_others (s : State) (p : PortId) (sub : Nat) (c : Bool) : othersKept p s (s.pondFault p sub c) :=
  othersKept_trans (othersKept_modPort s p _) (FailureKeeps.portEvent _ p 4 _ c).others

theorem State.pondFault_raised (s : State) (p : PortId) (sub : Nat) (c : Bool) : raised (s.pondFault p sub c) (20 * p.val + 4) :=
  State.portEvent_raised _ p 4 2 _ _ (severity_port p 4 (by decide)) (by decide)

@[simp] theorem State.eccCorrected_port (s : State) (p : PortId) (sub : Nat) :
    (s.eccCorrected p sub).port p = { s.port p with cntEcc := (s.port p).cntEcc + 1 } := by simp [State.eccCorrected]

@[simp] theorem State.eccCorrected_pond (s : State) (p : PortId) (sub : Nat) : (s.eccCorrected p sub).pond = s.pond := by
  simp [State.eccCorrected]

theorem State.eccCorrected_others (s : State) (p : PortId) (sub : Nat) : othersKept p s (s.eccCorrected p sub) :=
  othersKept_trans (othersKept_modPort s p _) (FailureKeeps.portEvent _ p 5 _ _).others

theorem State.eccCorrected_raised (s : State) (p : PortId) (sub : Nat) : raised (s.eccCorrected p sub) (20 * p.val + 5) :=
  State.portEvent_raised _ p 5 0 _ _ (severity_port p 5 (by decide)) (by decide)

/-- The first uncorrectable error of a granule within 60 s: a fault of the port, and the granule INVALID (04 R127). -/
theorem State.memError_first (s : State) (p : PortId) (n : Nat) (g : Granule) (h : (s.port p).source ≠ .adapter)
    (hh : s.errHot n = false) :
    ∃ c, s.memError p n g = ((s.noteErr n).pondFault p 1 c).putGranule n { g with state := .invalid } := by
  obtain ⟨c, hc⟩ : ∃ c, s.memError p n g = ((s.noteErr n).pondFault p 1 c).invalidate p n g := by
    unfold State.memError
    simp only [hh, Bool.false_eq_true, if_false]
    exact ⟨_, rfl⟩
  exact ⟨c, by rw [hc, State.invalidate, if_neg (by simpa using h)]⟩

/-- A further one within 60 s: a fault of the port, the granule BAD, and its content moved to a FREE one, or lost (04 R127). -/
theorem State.memError_again (s : State) (p : PortId) (n : Nat) (g : Granule) (h : (s.port p).source ≠ .adapter)
    (hh : s.errHot n = true) :
    ∃ c, FailureKeeps p ((s.noteErr n).pondFault p 2 c) (s.memError p n g) := by
  unfold State.memError
  simp only [hh, if_true, State.noteErr_port, beq_eq_false_iff_ne.mpr h, Bool.false_eq_true, if_false]
  cases (s.noteErr n).pond.takeFree p ((s.noteErr n).pond.rank p g.va) with
  | some k => exact ⟨_, (State.putGranule_keeps _ p n g.withdrawn).trans (State.putGranule_keeps ..)⟩
  | none => exact ⟨_, (State.putGranule_keeps _ p n g.withdrawn).trans (State.contentLost_keeps ..)⟩

/-- An uncorrectable error of a flash slot's granule is a fault of its port, and what follows keeps it (04 R127). -/
theorem State.memError_keeps (s : State) (p : PortId) (n : Nat) (g : Granule) (h : (s.port p).source ≠ .adapter) :
    ∃ sub c, FailureKeeps p ((s.noteErr n).pondFault p sub c) (s.memError p n g) := by
  cases hh : s.errHot n with
  | false =>
    obtain ⟨c, hc⟩ := s.memError_first p n g h hh
    exact ⟨1, c, hc ▸ State.putGranule_keeps ..⟩
  | true => exact ⟨2, s.memError_again p n g h hh⟩

end Sys2Proof.Machine
end

section
/-! The reads of a measurement on a flash slot, and the comparison of roots (03 R94 to R96, 04 R117, R122, R127, 05 R167, 06 R203, 07 R222). -/

namespace Sys2Proof.Machine

open Sys2Proof

/-! ### The reads of a measurement -/

theorem State.readsGoOn_state {s : State} {p : PortId} (h : s.readsGoOn p = true) : (s.port p).state = .measuring := by
  simp only [State.readsGoOn, Bool.and_eq_true, beq_iff_eq] at h
  exact h.1

theorem State.measuringFlash_state {s : State} {p : PortId} (h : s.measuringFlash p = true) : (s.port p).state = .measuring := by
  simp only [State.measuringFlash, Bool.and_eq_true] at h
  obtain ⟨⟨⟨reads, -⟩, -⟩, -⟩ := h
  exact State.readsGoOn_state reads

theorem State.not_measured_of_measuring {s : State} {p : PortId} (h : (s.port p).state = .measuring) : (s.port p).state ≠ .measured := by
  rw [h]; decide

/-- The content of a measurement on a flash slot is no adapter's (07 R253). -/
theorem State.measuringFlash_source {s : State} {p : PortId} (h : s.measuringFlash p = true) : (s.port p).source ≠ .adapter := by
  intro ha
  simp [State.measuringFlash, ha, Source.slotId] at h

/-- The state in which a read's bytes are taken: a corrected single-bit error counted before (04 R127). -/
def State.afterEcc (s : State) (p : PortId) (ecc : Ecc) : State := if ecc = .corrected then s.eccCorrected p else s

theorem State.afterEcc_others (s : State) (p : PortId) (ecc : Ecc) : othersKept p s (s.afterEcc p ecc) := by
  unfold State.afterEcc
  split
  · exact s.eccCorrected_others p 0
  · exact othersKept_refl p s

theorem State.afterEcc_pond (s : State) (p : PortId) (ecc : Ecc) : (s.afterEcc p ecc).pond = s.pond := by
  unfold State.afterEcc
  split
  · exact s.eccCorrected_pond p 0
  · rfl

theorem State.afterEcc_port (s : State) (p : PortId) (ecc : Ecc) : ∃ k, (s.afterEcc p ecc).port p = { s.port p with cntEcc := k } := by
  unfold State.afterEcc
  split
  · exact ⟨_, s.eccCorrected_port p 0⟩
  · exact ⟨_, rfl⟩

/-- A read whose single-bit error was corrected is counted, with its event (04 R127). -/
theorem State.afterEcc_corrected (s : State) (p : PortId) :
    ((s.afterEcc p .corrected).port p).cntEcc = (s.port p).cntEcc + 1 ∧ raised (s.afterEcc p .corrected) (20 * p.val + 5) := by
  rw [State.afterEcc, if_pos rfl, State.eccCorrected_port]
  exact ⟨rfl, s.eccCorrected_raised p 0⟩

/-- The answer of an entry of VSRC 0x02 is captured, read from address 0 (05 R167). -/
theorem sluiceCaptureRead_captures (p : PortId) (data : List Byte) (e : SlEntry) (s : State) (hd : s.dark = false)
    (he : (s.port p).captureEntries[(s.port p).captures.length]? = some e) (hr : s.readsGoOn p = true) :
    Completes (.sluiceCaptureRead p data) s fun t =>
      e.vsrc = 2 ∧ (t.port p).captures = (s.port p).captures ++ [slice data 0 (16 * e.vdata)] ∧ (t.port p).state = .measuring
        ∧ othersKept p s t
        ∧ (∀ c, (s.port p).cfg = some c → ∃ pre mode mhz n d,
            t.out = s.out ++ pre ++ [Out.devRead p (s.port p).activeCs e.opcode mode mhz n 0 d (16 * e.vdata)])
        ∧ t = { s with ports := t.ports, out := t.out } := by
  have measuring := State.readsGoOn_state hr
  obtain ⟨r, l, hread, hout⟩ := s.captureRead_retunes p e (State.not_measured_of_measuring measuring)
  have heq : exec (.sluiceCaptureRead p data) s
      = .next ((s.retune p r l).modPort p fun x => { x with captures := x.captures ++ [slice data 0 (16 * e.vdata)] }) := by
    change execSluiceCaptureRead p data s = _
    simp only [execSluiceCaptureRead, State.powered_lit s _ hd, he, hr, hread, if_true]
  have entry : e.vsrc = 2 := by
    have listed := List.mem_of_getElem? he
    simp only [Port.captureEntries, List.mem_filter, beq_iff_eq] at listed
    exact listed.2
  refine ⟨_, heq, entry, ?_, ?_, ?_, fun c hc => ?_, rfl⟩
  · rw [State.modPort_port_same, State.retune_port]
  · rw [State.modPort_port_same, State.retune_port]; exact measuring
  · exact othersKept_trans (t := s.retune p r l) (othersKept_of_ports rfl) (othersKept_modPort _ p _)
  · obtain ⟨pre, mode, mhz, n, d, hl⟩ := hout c hc
    exact ⟨pre, mode, mhz, n, d, by rw [State.modPort_out, State.retune_out, hl, List.append_assoc]⟩

theorem sluiceCaptureRead_idle (p : PortId) (data : List Byte) (s : State)
    (h : s.readsGoOn p = false ∨ (s.port p).captureEntries.length ≤ (s.port p).captures.length) :
    exec (.sluiceCaptureRead p data) s = .next s := by
  change execSluiceCaptureRead p data s = _
  unfold execSluiceCaptureRead
  rcases h with h | h
  · simp only [h, Bool.false_eq_true, if_false]
    split <;> exact s.powered_idle
  · rw [List.getElem?_eq_none h]
    exact s.powered_idle

/-- What a leaf table that was read leaves of the regions whose root differed, the lowest of them (03 R95). -/
def worstRegion (b : Option Nat) (k : Nat) : Nat := match b with | some b => min b k | none => k

/-- A region whose root differed is remembered as the lowest (03 R95). -/
theorem worstRegion_le (b : Option Nat) (k : Nat) : worstRegion b k ≤ k := by
  cases b with
  | none => exact Nat.le_refl k
  | some b => exact Nat.min_le_right b k

/-- A leaf table enters the tree store where its root is ROOT, and nowhere else (03 R95). -/
theorem State.loadTable_enters (s : State) (p : PortId) (k : Nat) (r : Region) (data : List Byte) :
    (s.loadTable p k r data).2.ports = s.ports
      ∧ (treeRoot (tableLeaves r.leafCount data) = r.root → (s.loadTable p k r data).1 = true
          ∧ (s.loadTable p k r data).2.pond = s.pond.setLeaves p k (tableLeaves r.leafCount data))
      ∧ (treeRoot (tableLeaves r.leafCount data) ≠ r.root → (s.loadTable p k r data).1 = false
          ∧ (s.loadTable p k r data).2.pond = s.pond) := by
  unfold State.loadTable
  simp only []
  split
  next h => exact ⟨rfl, fun _ => ⟨rfl, rfl⟩, fun k => absurd h k⟩
  next h => exact ⟨rfl, fun k => absurd k h, fun _ => ⟨rfl, rfl⟩⟩

section

variable {p : PortId} {m : MillMap} {s : State} (hd : s.dark = false) (hm : (s.port p).armMap = some m)
  (hf : s.measuringFlash p = true) (hc : (s.port p).captured = true)

include hd hm hf hc

/-- A granule that reads, with its error corrected or without one, is filled, hashed and PENDING (04 R122, R127). -/
theorem granuleFill_pends {r va n : Nat} {g : Granule} (data : List Byte) (ecc : Ecc) (hg : m.granules[(s.port p).filled]? = some (r, va))
    (ha : s.pond.granuleAt p va = some (n, g)) (he : ecc ≠ .uncorrectable) :
    Completes (.granuleFill p data ecc) s fun t =>
      othersKept p s t ∧ t.pond = s.pond.put n (g.fill data .pending) ∧ (t.port p).filled = (s.port p).filled + 1
        ∧ (t.port p).state = .measuring
        ∧ (ecc = .corrected → (t.port p).cntEcc = (s.port p).cntEcc + 1 ∧ raised t (20 * p.val + 5)) := by
  have measuring := State.measuringFlash_state hf
  obtain ⟨k, port⟩ := s.afterEcc_port p ecc
  have reads := (s.afterEcc p ecc).readHashed p (s.port p).activeCs ((s.port p).activeBase + va) 4096 (s.port p).halfRate 2 (.port p)
    (hashBlocks 4097) (by rw [port]; exact State.not_measured_of_measuring measuring)
  generalize hu : State.hashWork _ _ _ _ = u at reads
  have heq : exec (.granuleFill p data ecc) s
      = .next ((u.putGranule n (g.fill data .pending)).modPort p fun y => { y with filled := y.filled + 1 }) := by
    change execGranuleFill p data ecc s = _
    unfold State.afterEcc at hu
    simp only [execGranuleFill, State.powered_lit s _ hd, hm, hg, hf, hc, ha, he, if_false, hu]
    rfl
  obtain ⟨real, hx⟩ := reads.port
  refine ⟨_, heq, othersKept_trans (othersKept_trans (s.afterEcc_others p ecc) reads.others)
    (othersKept_modPort (u.putGranule ..) p _), ?_, ?_⟩
  · rw [State.modPort_pond, State.putGranule, reads.pond, State.afterEcc_pond]
  · rw [State.modPort_port_same, State.putGranule_port, hx]
    refine ⟨by rw [port], by rw [port]; exact measuring, ?_⟩
    rintro rfl
    obtain ⟨count, event⟩ := s.afterEcc_corrected p
    refine ⟨count, ?_⟩
    rw [raised, ← reads.evt] at event
    exact event

/-- A granule that does not read is a fault of the millpond, and the fill goes on behind it (04 R127). -/
theorem granuleFill_faults {r va n : Nat} {g : Granule} (data : List Byte) (hg : m.granules[(s.port p).filled]? = some (r, va))
    (ha : s.pond.granuleAt p va = some (n, g)) :
    Completes (.granuleFill p data .uncorrectable) s fun t =>
      othersKept p s t ∧ (t.port p).cntPond = (s.port p).cntPond + 1 ∧ raised t (20 * p.val + 4)
        ∧ (s.errHot n = false →
            t.pond.granules = tblSet s.pond.granules n { g with state := .invalid } ∧ (t.port p).filled = (s.port p).filled + 1
              ∧ (t.port p).state = .measuring) := by
  have heq : exec (.granuleFill p data .uncorrectable) s
      = .next ((s.memError p n g).modPort p fun y => { y with filled := y.filled + 1 }) := by
    change execGranuleFill p data .uncorrectable s = _
    simp only [execGranuleFill, State.powered_lit s _ hd, hm, hg, hf, hc, ha]
    rfl
  have source := State.measuringFlash_source hf
  obtain ⟨sub, c, keeps⟩ := s.memError_keeps p n g source
  have others := othersKept_trans (State.pondFault_others (s.noteErr n) p sub c) keeps.others
  refine ⟨_, heq, othersKept_trans others (othersKept_modPort _ p _), ?_, keeps.events _ (State.pondFault_raised ..), fun first => ?_⟩
  · rw [State.modPort_port_same, keeps.faults, State.pondFault_port, State.noteErr_port]
  · obtain ⟨c, h⟩ := s.memError_first p n g source first
    rw [h, State.modPort_port_same, State.modPort_pond, State.putGranule_port, State.pondFault_port, State.putGranule, State.pondFault_pond]
    exact ⟨rfl, rfl, State.measuringFlash_state hf⟩

/-- A leaf table is read, and the loading goes on whatever its root is (03 R95). -/
theorem leafTableLoad_loads {k : Nat} {r : Region} (data : List Byte) (hs : m.streams[(s.port p).loaded]? = some (k, r)) :
    Completes (.leafTableLoad p data) s fun t =>
      (t.port p).loaded = (s.port p).loaded + 1 ∧ (t.port p).state = .measuring ∧ othersKept p s t
        ∧ (treeRoot (tableLeaves r.leafCount data) = r.root →
            t.pond = s.pond.setLeaves p k (tableLeaves r.leafCount data) ∧ (t.port p).badRegion = (s.port p).badRegion)
        ∧ (treeRoot (tableLeaves r.leafCount data) ≠ r.root →
            t.pond = s.pond ∧ ∃ b, b ≤ k ∧ (t.port p).badRegion = some b) := by
  have measuring := State.measuringFlash_state hf
  have reads := s.readHashed p (s.port p).activeCs ((s.port p).activeBase + r.ltOffset) r.tableLen (s.port p).halfRate 2 (.port p)
    (rootBlocks r.leafCount) (State.not_measured_of_measuring measuring)
  generalize hu : State.hashWork _ _ _ _ = u at reads
  obtain ⟨ports, same, differs⟩ := u.loadTable_enters p k r data
  generalize hl : u.loadTable p k r data = l at ports same differs
  obtain ⟨ok, v⟩ := l
  have heq : exec (.leafTableLoad p data) s
      = .next (v.modPort p fun y =>
          { y with loaded := y.loaded + 1, badRegion := if ok then y.badRegion else some (worstRegion y.badRegion k) }) := by
    change execLeafTableLoad p data s = _
    simp only [execLeafTableLoad, State.powered_lit s _ hd, measuring, hm, hs, hf, hc, hu, hl]
    rfl
  obtain ⟨real, hx⟩ := reads.port
  have port : v.port p = { s.port p with real := real } := by rw [← hx, State.port, ports, State.port]
  refine ⟨_, heq, ?_, ?_, ?_, fun root => ?_, fun root => ?_⟩
  · rw [State.modPort_port_same, port]
  · rw [State.modPort_port_same, port]; exact measuring
  · exact othersKept_trans (othersKept_trans reads.others (othersKept_of_ports_eq ports)) (othersKept_modPort v p _)
  · obtain ⟨rfl, pond⟩ := same root
    rw [State.modPort_port_same, State.modPort_pond, port]
    exact ⟨by rw [pond, reads.pond], rfl⟩
  · obtain ⟨rfl, pond⟩ := differs root
    rw [State.modPort_port_same, State.modPort_pond, port]
    exact ⟨by rw [pond, reads.pond], _, worstRegion_le .., rfl⟩

end

/-! ### The comparison of roots -/

/-- Everything of the fill has been read (03 R94, R95, 04 R122, 05 R167). -/
def State.readWhole (s : State) (p : PortId) (m : MillMap) : Bool :=
  s.measuringFlash p && (s.port p).captured && s.fillWhole p && (s.port p).filled == m.granules.length
    && (s.port p).loaded == m.streams.length

/-- The blocks of the roots of the resident regions join the stones' work as the roots are compared (03 R94, 04 R148). -/
def State.rootsHashed (s : State) (p : PortId) (m : MillMap) : State :=
  s.hashWork 2 (.port p) (m.regions.map fun r => if r.resident then rootBlocks r.leafCount else 0).sum

@[simp] theorem State.rootsHashed_ports (s : State) (p : PortId) (m : MillMap) : (s.rootsHashed p m).ports = s.ports := by
  rw [State.rootsHashed, State.hashWork_frame]

@[simp] theorem State.rootsHashed_port (s : State) (p q : PortId) (m : MillMap) : (s.rootsHashed p m).port q = s.port q := by
  simp [State.port]

@[simp] theorem State.rootsHashed_pond (s : State) (p : PortId) (m : MillMap) : (s.rootsHashed p m).pond = s.pond := by
  rw [State.rootsHashed, State.hashWork_frame]

@[simp] theorem State.rootsHashed_store (s : State) (p : PortId) (m : MillMap) : (s.rootsHashed p m).store = s.store := by
  rw [State.rootsHashed, State.hashWork_frame]

/-- A wake leaves the supplies as they are (17 R519). -/
theorem State.stir_supplies (s : State) : s.stir.gov.vdd = s.gov.vdd ∧ s.stir.gov.vioHome = s.gov.vioHome := by
  unfold State.stir State.wakeUp Gov.relock
  split
  · split
    · exact ⟨rfl, rfl⟩
    · split <;> exact ⟨rfl, rfl⟩
  · exact ⟨rfl, rfl⟩

/-- The miller runs once it is woken, where it has started, is not halted and has power (01 R24, 17 R519, R528). -/
theorem State.stir_millerRuns (s : State) :
    s.stir.millerRuns = (s.sys.stage == .running && s.mil.running.isSome && !s.mil.halted && !s.mil.dbgHalt && !s.dark) := by
  have hdark : s.stir.dark = s.dark := by simp [State.dark, s.stir_supplies]
  rw [State.millerRuns, hdark, State.stir_sys]
  unfold State.stir State.wakeUp
  cases ha : s.mil.asleep <;> cases hd : s.dark <;> simp [ha]

/-- The stones' work does not decide whether the miller, woken, runs, nor whether the home port takes a write (04 R148, 17 R528, R531). -/
theorem State.rootsHashed_stir (s : State) (p : PortId) (m : MillMap) :
    (s.rootsHashed p m).stir.millerRuns = s.stir.millerRuns ∧ (s.rootsHashed p m).stir.stores true = s.gov.vioHome := by
  obtain ⟨d, hg⟩ := s.hashWork_gov 2 (.port p) (m.regions.map fun r => if r.resident then rootBlocks r.leafCount else 0).sum [] false false
  rw [State.stir_millerRuns, State.stir_millerRuns, State.stores, (State.stir_supplies _).2, State.dark, State.dark, State.rootsHashed, hg,
    State.hashWork_frame]
  exact ⟨rfl, rfl⟩

theorem State.rootsHashed_mismatch (s : State) (p : PortId) (m : MillMap) : (s.rootsHashed p m).mismatch p m = s.mismatch p m := by
  simp only [State.mismatch, State.rootsHashed_pond, State.rootsHashed_port]

theorem measurementRootCompare_waits (p : PortId) (m : MillMap) (s : State) (hm : (s.port p).armMap = some m)
    (h : s.readWhole p m = false) : exec (.measurementRootCompare p) s = .next s := by
  change execMeasurementRootCompare p s = _
  unfold State.readWhole at h
  simp only [execMeasurementRootCompare, hm, h, Bool.not_false, if_true, State.powered_idle]

section

variable {p : PortId} {m : MillMap} {s : State} (hd : s.dark = false) (hm : (s.port p).armMap = some m)
  (hw : s.readWhole p m = true) (hp : (s.port p).armPending = false)

include hd hm hw hp

/-- Every root matches (04 R117, R122, 06 R203). -/
theorem measurementRootCompare_matches (h : s.mismatch p m = none) :
    exec (.measurementRootCompare p) s = .next ((s.rootsHashed p m).measuredOk p m) := by
  change execMeasurementRootCompare p s = _
  rw [← s.rootsHashed_mismatch] at h
  unfold State.readWhole at hw
  unfold State.rootsHashed at h ⊢
  simp only [execMeasurementRootCompare, State.powered_lit s _ hd, hm, hw, h, hp, Bool.not_true, Bool.false_eq_true, if_false,
    Bool.false_and]

/-- A mismatch is reported with its region; the miller wakes for it (01 R24, 16 R503). -/
def State.rootsReported (s : State) (p : PortId) (m : MillMap) (k : Nat) : State := (s.rootsHashed p m).stir.armFail p 8 0 k

/-- Some root differs: the miller, which has to run, measures again, or retires the slot at half clock, where its record takes the write (07 R220, R222). -/
theorem measurementRootCompare_differs {i : SlotId} {k : Nat} (hs : (s.port p).source = .slot i) (h : s.mismatch p m = some k) :
    exec (.measurementRootCompare p) s
      = .next (if !s.stir.millerRuns || ((s.port p).halfRate && !s.gov.vioHome) then s
          else if (s.port p).halfRate then
            ({ s.rootsReported p m k with pond := (s.rootsReported p m k).pond.freePort p }.retireSlot p i 0x10 k).startRecovery p
          else (s.rootsReported p m k).remeasure p m) := by
  change execMeasurementRootCompare p s = _
  obtain ⟨runs, stores⟩ := s.rootsHashed_stir p m
  rw [← s.rootsHashed_mismatch] at h
  unfold State.readWhole at hw
  rw [← runs, ← stores]
  unfold State.rootsReported State.rootsHashed
  unfold State.rootsHashed at h
  simp only [execMeasurementRootCompare, State.powered_lit s _ hd, hm, hw, h, hp, hs, Bool.not_true, Bool.false_eq_true, if_false,
    Bool.false_or]
  split
  · rfl
  · split <;> rfl

end

/-- After the comparison no granule of the port is PENDING (04 R122). -/
theorem Pond.validate_not_pending (q : Pond) (p : PortId) :
    ∀ e ∈ (q.validate p).granules, e.2.ownedBy p = true → e.2.state ≠ .pending := by
  intro e he ho hp
  simp only [Pond.validate, List.mem_map] at he
  obtain ⟨⟨n, g⟩, -, rfl⟩ := he
  split at ho
  next h => simp [h] at hp
  next h => simp_all

/-- The active slot's roots match: its port enters MEASURED on the map (04 R117, R122, 06 R203). -/
theorem State.measuredOk_active (s : State) (p : PortId) (m : MillMap) (hp : (s.port p).armPending = false) :
    othersKept p s (s.measuredOk p m) ∧ (s.measuredOk p m).pond = s.pond.validate p ∧ (s.measuredOk p m).store = s.store
      ∧ ∃ l, (s.measuredOk p m).port p
          = { (s.port p).enterMeasured with
              map := some m, armMap := none, armPending := false, begun := false, halfRate := false, lastServed := l } := by
  have change : ∃ f : Port → Port, s.measuredOk p m = ({ s with pond := s.pond.validate p } : State).modPort p f
      ∧ ∃ l, f (s.port p) = { (s.port p).enterMeasured with
          map := some m, armMap := none, armPending := false, begun := false, halfRate := false, lastServed := l } := by
    unfold State.measuredOk
    simp only [hp, Bool.false_eq_true, if_false]
    split <;> exact ⟨_, rfl, _, rfl⟩
  obtain ⟨f, h, l, hx⟩ := change
  rw [h]
  exact ⟨othersKept_of_ports rfl, rfl, rfl, l, (State.modPort_port_same _ p f).trans hx⟩

/-! ### The second measurement, and the end of a slot -/

theorem State.armAbort_active (s : State) (p : PortId) (reason code : Nat) (h : (s.port p).armPending = false) :
    s.armAbort p reason code = (s.armFail p reason code 0).failPort p := by
  unfold State.armAbort
  simp only [h, Bool.false_and, Bool.false_eq_true, if_false]
  split <;> rfl

/-- A second measurement begins from newly allocated granules, at half clock; where they do not fit, the port goes to FAILED (04 R119, 07 R222). -/
theorem State.remeasure_again (s : State) (p : PortId) (m : MillMap) (hp : (s.port p).armPending = false) :
    FailureKeeps p s (s.remeasure p m)
      ∧ (((s.pond.freePort p).allocArm p m = some (s.remeasure p m).pond
          ∧ (s.remeasure p m).port p = { s.port p with halfRate := true, filled := 0, loaded := 0, badRegion := none })
        ∨ ((s.remeasure p m).port p).state = .failed) := by
  unfold State.remeasure
  split
  next q h =>
    exact ⟨.of_port rfl rfl rfl (fun h => h) rfl, .inl ⟨h, State.modPort_port_same _ p _⟩⟩
  next h =>
    rw [State.armAbort_active s p 3 0 hp]
    exact ⟨(FailureKeeps.portEvent s p 10 _ _).trans (State.failPort_keeps ..), .inr (State.failPort_state _ p)⟩

theorem PortStore.setSlot_slot_same (x : PortStore) (i : SlotId) (r : SlotRec) : (x.setSlot i r).slot i = r := by
  unfold PortStore.setSlot
  split
  · assumption
  · cases i <;> rfl

@[simp] theorem State.modSlot_slot_same (s : State) (p : PortId) (i : SlotId) (f : SlotRec → SlotRec) :
    (s.modSlot p i f).slot p i = f (s.slot p i) := by
  simp [State.modSlot, State.slot, State.pstore, State.setPstore, PortStore.setSlot_slot_same]

theorem State.dropPreload_slot_same (s : State) (p : PortId) (i : SlotId) :
    (s.dropPreload p i).slot p i = { s.slot p i with preloaded := false } :=
  s.modSlot_slot_same p i fun r => { r with preloaded := false }

theorem State.slot_of_store {s t : State} (h : t.store = s.store) (p : PortId) (i : SlotId) : t.slot p i = s.slot p i := by
  rw [State.slot, State.slot, State.pstore, State.pstore, h]

/-- A slot is retired in its record, with its event (07 R221, R222). -/
theorem State.retireSlot_retires (s : State) (p : PortId) (i : SlotId) (code region : Nat) :
    (s.retireSlot p i code region).ports = s.ports
      ∧ (∀ src, raised s src → raised (s.retireSlot p i code region) src) ∧ raised (s.retireSlot p i code region) (20 * p.val + 18)
      ∧ ((s.retireSlot p i code region).slot p i).state = .retired ∧ ((s.retireSlot p i code region).slot p i).failCode = code
      ∧ ((s.retireSlot p i code region).slot p i).failRegion = region := by
  unfold State.retireSlot State.slotEvent
  simp only []
  generalize ht : State.dropPreload _ p i = t
  have same : t.ports = s.ports ∧ t.evt = s.evt := by simp [← ht, State.dropPreload]
  obtain ⟨ports, evt⟩ := same
  have record : (t.slot p i).state = .retired ∧ (t.slot p i).failCode = code ∧ (t.slot p i).failRegion = region := by
    rw [← ht, State.dropPreload_slot_same, State.modSlot_slot_same]
    exact ⟨rfl, rfl, rfl⟩
  rw [State.slot_of_store (State.portEvent_store t p 18 _ false) p i]
  exact ⟨(State.portEvent_ports ..).trans ports, fun src h => t.portEvent_keeps p 18 _ false src (by rwa [raised, evt]),
    t.portEvent_raised p 18 3 _ _ (severity_port p 18 (by decide)) (by decide), record⟩

/-! ### The statement -/

/-- A retirement after a second mismatch: the slot's record, its event and the port's recovery, braked (07 R222). -/
theorem State.retire_recovers (t : State) (p : PortId) (i : SlotId) (k : Nat) (q : Pond) (u : State)
    (hu : u = (({ t with pond := q } : State).retireSlot p i 0x10 k).startRecovery p) :
    othersKept p t u ∧ (∀ src, raised t src → raised u src) ∧ raised u (20 * p.val + 18) ∧ (u.port p).brake = true
      ∧ (u.slot p i).state = .retired ∧ (u.slot p i).failCode = 0x10 ∧ (u.slot p i).failRegion = k := by
  obtain ⟨ports, events, own, record⟩ := ({ t with pond := q } : State).retireSlot_retires p i 0x10 k
  have go := State.startRecovery_keeps (({ t with pond := q } : State).retireSlot p i 0x10 k) p
  rw [hu, State.slot_of_store go.store]
  exact ⟨othersKept_trans (othersKept_of_ports_eq ports) go.others, fun src h => go.events src (events src h), go.events _ own,
    State.startRecovery_brake .., record⟩

section

variable {p : PortId} {m : MillMap} {i : SlotId} {s : State} (hd : s.dark = false) (hm : (s.port p).armMap = some m)
  (hw : s.readWhole p m = true) (hp : (s.port p).armPending = false)

include hd hm hw hp

/-- Every root matches: the granules are VALID together, and the port is MEASURED on the map (04 R117, R122, 06 R203). -/
theorem measurementRootCompare_measures (h : s.mismatch p m = none) :
    Completes (.measurementRootCompare p) s fun t =>
      othersKept p s t ∧ (t.port p).state = .measured ∧ (t.port p).map = some m ∧ (t.port p).armMap = none ∧ (t.port p).vdResetDue = true
        ∧ (t.port p).settleDone = false ∧ t.pond = s.pond.validate p ∧ t.store = s.store
        ∧ (∀ e ∈ t.pond.granules, e.2.ownedBy p = true → e.2.state ≠ .pending) := by
  obtain ⟨others, pond, store, l, port⟩ := (s.rootsHashed p m).measuredOk_active p m (by rwa [State.rootsHashed_port])
  rw [State.rootsHashed_pond] at pond
  refine ⟨_, measurementRootCompare_matches hd hm hw hp h, othersKept_trans (othersKept_of_ports_eq (s.rootsHashed_ports p m)) others, ?_⟩
  rw [port, pond, store]
  exact ⟨rfl, rfl, rfl, rfl, rfl, rfl, s.rootsHashed_store p m, s.pond.validate_not_pending p⟩

/-- Some root differs: the slot is measured again at half clock, and retired where it was at half clock already (07 R222). -/
theorem measurementRootCompare_rejects (hs : (s.port p).source = .slot i) (hx : (s.port p).state = .measuring) {k : Nat}
    (h : s.mismatch p m = some k) :
    Completes (.measurementRootCompare p) s fun t =>
      othersKept p s t ∧ (s.stir.millerRuns = true → s.gov.vioHome = true → raised t (20 * p.val + 10)
        ∧ ((s.port p).halfRate = false → ((t.port p).state = .measuring ∧ (t.port p).halfRate = true ∧ (t.port p).filled = 0
              ∧ (t.port p).loaded = 0 ∧ (s.pond.freePort p).allocArm p m = some t.pond) ∨ (t.port p).state = .failed)
        ∧ ((s.port p).halfRate = true → (t.slot p i).state = .retired ∧ (t.slot p i).failCode = 0x10 ∧ (t.slot p i).failRegion = k
              ∧ raised t (20 * p.val + 18) ∧ (t.port p).brake = true)) := by
  have heq := measurementRootCompare_differs hd hm hw hp hs h
  have reported : raised (s.rootsReported p m k) (20 * p.val + 10) := State.armFail_raised ..
  have ports : (s.rootsReported p m k).ports = s.ports := by simp [State.rootsReported, State.armFail]
  have pond : (s.rootsReported p m k).pond = s.pond := by simp [State.rootsReported, State.armFail]
  generalize s.rootsReported p m k = t at heq reported ports pond
  have port : t.port p = s.port p := by rw [State.port, ports, State.port]
  have others : othersKept p s t := othersKept_of_ports_eq ports
  refine ⟨_, heq, ?_⟩
  split
  next waits =>
    refine ⟨othersKept_refl p s, fun runs home => ?_⟩
    simp [runs, home] at waits
  next =>
    split
    next half =>
      obtain ⟨kept, events, retired, brake, state, code, region⟩ := t.retire_recovers p i k _ _ rfl
      exact ⟨othersKept_trans others kept, fun _ _ => ⟨events _ reported, fun full => absurd half (by simp [full]),
        fun _ => ⟨state, code, region, retired, brake⟩⟩⟩
    next full =>
      obtain ⟨keeps, outcome⟩ := t.remeasure_again p m (by rwa [port])
      refine ⟨othersKept_trans others keeps.others, fun _ _ => ⟨keeps.events _ reported, fun _ => ?_, fun half => absurd half full⟩⟩
      rw [pond, port] at outcome
      rcases outcome with ⟨alloc, again⟩ | failed
      · rw [again]; exact .inl ⟨hx, rfl, rfl, rfl, alloc⟩
      · exact .inr failed

end

/-- Settles O8: each read changes the port's progress and its own place of the millpond; the comparison waits for all of them, and a mismatch measures again or retires. -/
theorem measurementFillsAndCompares : Obligations.MeasurementFillsAndCompares := by
  unfold Obligations.MeasurementFillsAndCompares
  refine ⟨⟨fun p data e s hd he hr => ?_, sluiceCaptureRead_idle, fun p data ecc m r va n g s hd hm hg hf hc ha => ?_,
    fun p data m k r s hd hm hs hf hc => leafTableLoad_loads hd hm hf hc data hs⟩,
    fun p m i s hd hm hf hc hw hfill hload hp hs => ?_, fun p m s hm h => ?_⟩
  · exact sluiceCaptureRead_captures p data e s hd he hr
  · cases ecc with
    | uncorrectable =>
      obtain ⟨t, heq, others, count, event, first⟩ := granuleFill_faults hd hm hf hc data hg ha
      exact ⟨t, heq, nofun, nofun, fun _ => ⟨count, event⟩, fun _ => first, others⟩
    | ok =>
      obtain ⟨t, heq, others, pond, filled, state, -⟩ := granuleFill_pends hd hm hf hc data .ok hg ha (by decide)
      exact ⟨t, heq, fun _ => ⟨pond, filled, state⟩, nofun, nofun, nofun, others⟩
    | corrected =>
      obtain ⟨t, heq, others, pond, filled, state, event⟩ := granuleFill_pends hd hm hf hc data .corrected hg ha (by decide)
      exact ⟨t, heq, fun _ => ⟨pond, filled, state⟩, event, nofun, nofun, others⟩
  · have whole : s.readWhole p m = true := by simp [State.readWhole, hf, hc, hw, hfill, hload]
    cases h : s.mismatch p m with
    | none => exact measurementRootCompare_measures hd hm whole hp h
    | some k => exact measurementRootCompare_rejects hd hm whole hp hs (State.measuringFlash_state hf) h
  · exact measurementRootCompare_waits p m s hm (by simpa [State.readWhole, or_assoc, Decidable.imp_iff_not_or] using h)

end Sys2Proof.Machine
end
